-- ==== Sys2Proof/Word.lean ====
section
/-! DEFINITION. The word types of the IG3140 and the two index types (tile ids and ports, both 0–11). -/
namespace Sys2Proof

/-- One byte of a memory record or link packet (spec/11, R184). -/
abbrev Byte := BitVec 8
/-- A 16-bit field. -/
abbrev Half := BitVec 16
/-- A 32-bit field, register or host address (R184: addresses are 32-bit byte addresses). -/
abbrev Word := BitVec 32
/-- A scene's epoch, 64 bits (R22). -/
abbrev Epoch := BitVec 64
/-- A 12-bit mask, bit n standing for tile id n (R184). -/
abbrev Mask := BitVec 12
/-- A Link Port, 0–11 (spec/00 section 0.5). -/
abbrev PortId := Fin 12
/-- A tile id, 0–11 (R2). -/
abbrev TileId := Fin 12

/-- The twelve tile ids, and the twelve port numbers, in ascending order. -/
def allIds : List (Fin 12) := [0, 1, 2, 3, 4, 5, 6, 7, 8, 9, 10, 11]

end Sys2Proof
end

