-- ==== Sys2Proof/Machine/Bytes.lean ====
section
/-! DEFINITION. Bytes, little-endian fields (R184) and 12-bit masks (R184). -/
namespace Sys2Proof.Machine

/-- Byte `i` of a record; every record read has its full length, so the default is never seen. -/
def byteAt (bs : List Byte) (i : Nat) : Byte := bs.getD i 0

/-- The little-endian 16-bit field at offset `i` (R184). -/
def halfAt (bs : List Byte) (i : Nat) : Half := byteAt bs (i + 1) ++ byteAt bs i

/-- The little-endian 32-bit field at offset `i` (R184). -/
def wordAt (bs : List Byte) (i : Nat) : Word := halfAt bs (i + 2) ++ halfAt bs i

/-- The little-endian 64-bit field at offset `i` (R184). -/
def epochAt (bs : List Byte) (i : Nat) : Epoch := wordAt bs (i + 4) ++ wordAt bs i

/-- Bit `i` of byte `off`. -/
def bitAt (bs : List Byte) (off i : Nat) : Bool := (byteAt bs off).getLsbD i

/-- The lowest `k` bytes of a number, least significant first (R184). -/
def leBytes : Nat → Nat → List Byte
  | 0, _ => []
  | k + 1, n => BitVec.ofNat 8 (n % 256) :: leBytes k (n / 256)

/-- A byte as a one-byte field. -/
def le1 (n : Nat) : List Byte := leBytes 1 n
/-- A 16-bit field. -/
def le2 (n : Nat) : List Byte := leBytes 2 n
/-- A 32-bit field. -/
def le4 (n : Nat) : List Byte := leBytes 4 n
/-- A 64-bit field. -/
def le8 (n : Nat) : List Byte := leBytes 8 n

/-- `k` bytes of 0: a reserved field is written as 0 (R184). -/
def zeros (k : Nat) : List Byte := List.replicate k 0

/-- Flags packed into a byte, the first in bit 0. -/
def bitsByte : List Bool → Nat
  | [] => 0
  | b :: bs => (if b then 1 else 0) + 2 * bitsByte bs

/-- The `n` bytes of a record, cut or filled with 0 to that length. -/
def fixLength (n : Nat) (bs : List Byte) : List Byte := (bs ++ zeros n).take n

/-! ## Masks -/

/-- The mask with only tile `t`'s bit (R184: bit n stands for tile id n). -/
def bitOf (t : Fin 12) : Mask := BitVec.ofNat 12 (2 ^ t.val)

/-- Whether tile `t`'s bit is set. -/
def Mask.has (m : Mask) (t : Fin 12) : Bool := BitVec.getLsbD m t.val

/-- The mask of the ids that satisfy `f`. -/
def maskOf (f : Fin 12 → Bool) : Mask := allIds.foldl (fun m t => if f t then m ||| bitOf t else m) 0

/-- The ids of a mask, ascending. -/
def idsOf (m : Mask) : List (Fin 12) := allIds.filter (fun t => Mask.has m t)

end Sys2Proof.Machine
end

