-- ==== Sys2Proof/Machine/Crc.lean ====
section
/-! DEFINITION. The CRC-32 of R97, used on the link, for stripe buffers' check values and for VERIFY. -/
namespace Sys2Proof.Machine

/-- The generator polynomial of R97. -/
def crcPoly : Word := 0x04C11DB7

/-- One message bit into the register. -/
def crcBit (reg : Word) (bit : Bool) : Word :=
  if Bool.xor reg.msb bit then (reg <<< 1) ^^^ crcPoly else reg <<< 1

/-- One byte, least significant bit first (R97). -/
def crcByte (reg : Word) (b : Byte) : Word :=
  [0, 1, 2, 3, 4, 5, 6, 7].foldl (fun r i => crcBit r (b.getLsbD i)) reg

/-- The bits of a word in reverse order, built from its `k` lowest bits. -/
def reverseFrom (w : Word) : Nat → Word
  | 0 => 0
  | k + 1 => (reverseFrom w k <<< 1) ||| (if w.getLsbD k then 1 else 0)

/-- The register's bit-reversed value exclusive-ORed with FFFFFFFFh (R97). -/
def crcFinish (reg : Word) : Word := reverseFrom reg 32 ^^^ 0xFFFFFFFF

/-- The CRC-32 of a byte sequence; the register starts at FFFFFFFFh (R97). -/
def crc32 (bs : List Byte) : Word := crcFinish (bs.foldl crcByte 0xFFFFFFFF)

end Sys2Proof.Machine
end

