-- ==== Sys2Proof/Syntax.lean ====
section
/-! DEFINITION. The commands of the IG3140: one constructor of `Instr` for each row of spec/opcode_table.json.

The controller is a block, not a processor: a command is a register access of the host, the end of a bus access the
controller made, a packet that arrived on a link, a pulse, or the end of a limit. The table gives the rows no
fields; the operands here are what the outside supplies at that step (log 1). -/
namespace Sys2Proof

/-- The eight registers of the register window (R145), in offset order 00h, 04h … 1Ch. -/
inductive RegName where
  | ident | control | chainBase | attention | anchor | cause | causeEnable | scanPeriod
  deriving DecidableEq, Repr

/-- A tile's OFFER as the port reads it (R188): ignored bits and bytes are already left out, and abilities keeps
bits 2–0 only. -/
structure TileOffer where
  abilities    : BitVec 3
  seen         : Bool
  pendingTable : Bool
  model        : Half
  width        : Half
  height       : Half
  front        : Epoch
  back         : Epoch
  count        : Byte
  activeGen    : Half
  deriving DecidableEq, Repr

/-- A tile's STATUS (R187). -/
structure TileStatus where
  front        : Epoch
  back         : Epoch
  count        : Byte
  pendingTable : Bool
  activeGen    : Half
  deriving DecidableEq, Repr

/-- Which check of R98 a received packet failed, with the packet's type byte. -/
inductive CheckFailure where
  | crc    (type : Byte)
  | type   (type : Byte)
  | length (type : Byte)
  deriving DecidableEq, Repr

/-- The flag of a TEST_ECHO (R187). -/
inductive EchoFlag where
  | good | bad
  deriving DecidableEq, Repr

/-- The five writes of a completion, in the order of R160. -/
inductive CompletionWrite where
  | finished | outcome | resultFlags | detail | done
  deriving DecidableEq, Repr

/-- The bytes that the surface reads of one composition returned: address and byte. -/
abbrev MemImage := List (Nat × Byte)

/-- The commands. Every constructor is one row of spec/opcode_table.json; its rule stands in the row. -/
inductive Instr where
  /-- The RESET pin (R165). -/
  | powerOnReset
  /-- A CONTROL write with SOFT_RESET 1 (R146). -/
  | softReset
  /-- A CONTROL write with ENABLE 1 and this START_EXTERNAL bit (R146, R138). -/
  | enableSet (startExternal : Bool)
  /-- A CONTROL write with ENABLE 0 and this START_EXTERNAL bit (R146). -/
  | enableClear (startExternal : Bool)
  /-- A CONTROL write with ENABLE at its present value (R146, R138). -/
  | startExternalWrite (startExternal : Bool)
  /-- A write to ATTENTION (R149). -/
  | attention
  /-- A read of CAUSE (R147). -/
  | causeRead
  /-- A write to CAUSE_ENABLE (R147). -/
  | causeEnableWrite (w : Word)
  /-- A write to SCAN_PERIOD (R150). -/
  | scanPeriodWrite (w : Word)
  /-- A write to any register (R145). -/
  | registerWrite (r : RegName) (w : Word)
  /-- The scan timer expires (R150). -/
  | scanTimerExpiry
  /-- The read of the anchor's LINK ends with this word, or with a bus error; while no anchor is set the link is
  CHAIN_BASE and the operand is not used (R152). -/
  | linkRead (link : Option Word)
  /-- The locked exchange on word 0 ends: the word it read, or a bus error (R153). -/
  | lockedExchange (word0 : Option Word)
  /-- The read of a taken block ends: its TAG and its 32 parameter bytes, or a bus error (R154). -/
  | takingRead (data : Option (Word × Vector Byte 32))
  /-- The exchange finds the 256th consecutive VOID block of the pass (R155). -/
  | voidLimit
  /-- The oldest outstanding PROGRESS or filing write of this block is taken, or ends in a bus error (R159). -/
  | progressWrite (block : Word) (ok : Bool)
  /-- The completion writes of this block end with the DONE write being taken (R160). -/
  | jobCompletion (block : Word)
  /-- This write of this block's completion ends in a bus error (R161). -/
  | completionBusError (block : Word) (failed : CompletionWrite)
  /-- The SCENE that has been made RUNNING checks its parameters (R17). -/
  | scene
  /-- The read of the next layer record ends (R18). -/
  | layerRecordRead (data : Option (Vector Byte 32))
  /-- The TILE_MAP that has been made RUNNING checks its parameters (R7). -/
  | tileMap
  /-- The read of the next tile map entry ends (R8). -/
  | tileMapEntryRead (data : Option (Vector Byte 16))
  /-- The LUT_LOAD that has been made RUNNING checks its parameters (R119). -/
  | lutLoad
  /-- A read of the next table values ends: the words it covered, or a bus error (R120). -/
  | valuesWordRead (words : Option (List Half))
  /-- The VERIFY that has been made RUNNING checks its parameters (R179). -/
  | verify
  /-- The recomposition of a stripe from the shown layer table ends (R181). -/
  | verifyRecomposition (image : MemImage)
  /-- The write of the next mismatch list entry is taken, or ends in a bus error (R182). -/
  | mismatchListWrite (ok : Bool)
  /-- The POLICY that has been made RUNNING is carried out (R167). -/
  | policy
  /-- The SENSE that has been made RUNNING checks its address and gathers its record (R168). -/
  | sense
  /-- The next 64-byte write of the sense record is taken, or ends in a bus error (R170). -/
  | senseRecordWrite (ok : Bool)
  /-- The RECOVER that has been made RUNNING is carried out (R171). -/
  | recover
  /-- The LINK_TEST that has been made RUNNING is judged (R174). -/
  | linkTest
  /-- The WITHDRAW that has been made RUNNING is carried out (R172). -/
  | withdraw
  /-- The REFERENCE that has been made RUNNING is judged (R132). -/
  | reference
  /-- The POWER that has been made RUNNING is judged (R140). -/
  | power
  /-- The 2 ms settle of a wake ends (R143). -/
  | wakeSettleEnd
  /-- The composition of the granted stripe ends; `stored` is what the buffer keeps where it is not what was composed
  (R39, R40). -/
  | compositionEnd (image : MemImage) (stored : Option (List Byte))
  /-- A surface read of this layer, made for the running scene, ends in a bus error (R32). -/
  | surfaceBusError (layer : Nat)
  /-- The port's transmitter is free and takes the next packet; `readBack` is what a stripe buffer gives back where it
  is not what it stored (R99, R40). -/
  | transmitterFree (p : PortId) (readBack : Option (List Byte))
  /-- A packet that fails a check arrives (R98). -/
  | receiveCheckFailure (p : PortId) (why : CheckFailure)
  /-- A tile BEACON arrives (R78). -/
  | beaconReceived (p : PortId)
  /-- A tile OFFER arrives; `none` where its payload length is not the OFFER length (R79, R80). -/
  | offerReceived (p : PortId) (offer : Option TileOffer)
  /-- A tile TRAIN arrives: its grade code, its LOCKED flag and its next expected sequence number (R83, R108). -/
  | trainReceived (p : PortId) (grade : Byte) (locked : Bool) (expected : Byte)
  /-- An ACK arrives (R103). -/
  | ackReceived (p : PortId) (number : Byte)
  /-- A NAK arrives (R104). -/
  | nakReceived (p : PortId) (number : Byte)
  /-- A HOLD arrives (R109). -/
  | holdReceived (p : PortId) (quanta : Half)
  /-- A STATUS arrives (R62). -/
  | statusReceived (p : PortId) (status : TileStatus)
  /-- A FLIPPED arrives (R61). -/
  | flippedReceived (p : PortId) (epoch : Epoch) (frame : Word)
  /-- A TEST_ECHO arrives (R176). -/
  | testEchoReceived (p : PortId) (number : Half) (flag : EchoFlag) (payload : List Byte)
  /-- A TEST_RESULT arrives (R177). -/
  | testResultReceived (p : PortId) (good bad : Half)
  /-- A CHECK_REPORT arrives (R180). -/
  | checkReportReceived (p : PortId) (epoch : Epoch) (crcs : List Word)
  /-- 1 ms has passed in LISTEN since the last BEACON (R78). -/
  | beaconTimer (p : PortId)
  /-- 1 ms has passed in OFFER since the last timed OFFER (R79). -/
  | offerRepeatTimer (p : PortId)
  /-- The offer timer expires (R80). -/
  | offerTimeout (p : PortId)
  /-- The train timer expires (R84). -/
  | trainTimeout (p : PortId)
  /-- The silence timer expires (R89). -/
  | silence (p : PortId)
  /-- The ack timer expires (R105). -/
  | ackTimeout (p : PortId)
  /-- A packet of the window needs a retry beyond the retry limit (R90). -/
  | retryExhaustion (p : PortId)
  /-- The next retransmission of the open run raises the retry tally to 255 (R91). -/
  | tallySaturation (p : PortId)
  /-- The hold timer expires (R110). -/
  | holdExpiry (p : PortId)
  /-- The echo timer of the port's LINK_TEST expires (R176). -/
  | echoTimeout (p : PortId)
  /-- The result timer of the port's LINK_TEST expires (R177). -/
  | resultTimeout (p : PortId)
  /-- The frame start that brings the port's stability count to 64 is taken by the port (R87). -/
  | stabilityReached (p : PortId)
  /-- The frame timer issues a frame start (R130). -/
  | frameStart
  /-- A rising edge on SYNC IN (R131, R134, R135). -/
  | syncInPulse
  /-- The loss timer reaches its limit (R131, R135). -/
  | lossDeclared
  /-- The pulse that raises the lock count to 8 (R134). -/
  | lockPulse
  /-- The lock timer expires (R134). -/
  | lockTimerExpiry
  /-- The frame start that brings the deadline to 0 is taken by the Present Controller (R57). -/
  | deadlineExpiry
  /-- The frame start numbered F + 8 is taken for this tile before its flip is confirmed (R66). -/
  | confirmationLimit (t : TileId)
  /-- A surface read of this layer, made for a VERIFY, ends in a bus error (R181). -/
  | verifySurfaceBusError (layer : Nat)
  deriving DecidableEq, Repr

end Sys2Proof
end

