-- ==== Sys2Proof/WellFormed.lean ====
section
/-! DEFINITION. Which commands are well formed: what the outside can say at all, whatever the state.
`exec` gives every command a meaning, an ill-formed one too; the checks here are for claims and for whoever sends. -/
namespace Sys2Proof

/-- Addresses strictly rising and inside the 32-bit host address space (R184). -/
def MemImage.wf : MemImage → Bool
  | [] => true
  | [(a, _)] => decide (a < 4294967296)
  | (a, _) :: (b, v) :: rest => decide (a < b) && MemImage.wf ((b, v) :: rest)

/-- The type bytes a tile sends (R187). -/
def tileTypes : List Byte := [0x81, 0x82, 0x83, 0x90, 0x91, 0x92, 0x93, 0x94, 0x95, 0x96, 0x97]

/-- A payload a TEST can have carried: 128 or 2,048 bytes (R174, R187). -/
def testLength (n : Nat) : Bool := n == 128 || n == 2048

/-- The length check of R98 for a TEST_ECHO: a GOOD echo carries the payload, a BAD echo carries none (R187). -/
def echoLengthOk (flag : EchoFlag) (payload : List Byte) : Bool :=
  match flag with
  | .good => testLength payload.length
  | .bad => payload.isEmpty

/-- The length check of R98 for a CHECK_REPORT: 1–128 values (R187). -/
def reportLengthOk (crcs : List Word) : Bool := decide (1 ≤ crcs.length) && decide (crcs.length ≤ 128)

/-- A command the outside can send. -/
def Instr.wf : Instr → Bool
  | .registerWrite r _ => r == .ident || r == .chainBase || r == .anchor || r == .cause
  | .linkRead _ => true
  | .progressWrite block _ => block.toNat % 64 == 0
  | .jobCompletion block => block.toNat % 64 == 0
  | .completionBusError block _ => block.toNat % 64 == 0
  | .valuesWordRead (some ws) => decide (1 ≤ ws.length) && decide (ws.length ≤ 256)
  | .verifyRecomposition image => MemImage.wf image
  | .compositionEnd image _ => MemImage.wf image
  | .surfaceBusError layer => decide (layer < 32)
  | .verifySurfaceBusError layer => decide (layer < 32)
  | .receiveCheckFailure _ (.type t) => !tileTypes.contains t
  | .receiveCheckFailure _ (.length t) => tileTypes.contains t && t != 0x82
  | .testEchoReceived _ _ flag payload => echoLengthOk flag payload
  | .checkReportReceived _ _ crcs => reportLengthOk crcs
  | _ => true

end Sys2Proof
end

