-- ==== Sys2Proof/Decode.lean ====
section
/-! DEFINITION. From bits to commands. The table's rows have no bits, so `decodeTableWord` reads none. What the spec does
lay out in bits is decoded here: a packet as it arrives on a link (R98, R187, R188), and a write to the register window
(R145, R146). -/
namespace Sys2Proof

/-- The command a word spells by the bits of spec/opcode_table.json: no row of the table gives bits. -/
def decodeTableWord (_nbits _w : Nat) : Option Instr := none

open Machine in
/-- The fields of a tile OFFER's 28-byte payload that the port reads (R188). -/
def decodeOffer (pl : List Byte) : TileOffer :=
  { abilities := (byteAt pl 0).extractLsb' 0 3
    seen := bitAt pl 1 0
    pendingTable := bitAt pl 1 1
    model := halfAt pl 2
    width := halfAt pl 4
    height := halfAt pl 6
    front := epochAt pl 8
    back := epochAt pl 16
    count := byteAt pl 24
    activeGen := halfAt pl 26 }

open Machine in
/-- The fields of a STATUS payload (R187). -/
def decodeStatus (pl : List Byte) : TileStatus :=
  { front := epochAt pl 0, back := epochAt pl 8, count := byteAt pl 16, pendingTable := bitAt pl 17 0,
    activeGen := halfAt pl 18 }

/-- `k` 32-bit values from a byte list (R187, CHECK_REPORT). -/
def decodeWords : Nat → List Byte → List Word
  | 0, _ => []
  | k + 1, bs => Machine.wordAt bs 0 :: decodeWords k (bs.drop 4)

open Machine in
/-- The length check of R98 and the packet's fields, by its type (R187). -/
def decodePayload (p : PortId) (type : Byte) (pl : List Byte) : Instr :=
  let n := pl.length
  let bad := Instr.receiveCheckFailure p (.length type)
  if type == 0x81 then (if n == 1 then .beaconReceived p else bad)
  else if type == 0x82 then .offerReceived p (if n == 28 then some (decodeOffer pl) else none)
  else if type == 0x83 then (if n == 8 then .trainReceived p (byteAt pl 0) (bitAt pl 1 0) (byteAt pl 2) else bad)
  else if type == 0x90 then (if n == 1 then .ackReceived p (byteAt pl 0) else bad)
  else if type == 0x91 then (if n == 1 then .nakReceived p (byteAt pl 0) else bad)
  else if type == 0x92 then (if n == 2 then .holdReceived p (halfAt pl 0) else bad)
  else if type == 0x93 then (if n == 20 then .statusReceived p (decodeStatus pl) else bad)
  else if type == 0x94 then (if n == 12 then .flippedReceived p (epochAt pl 0) (wordAt pl 8) else bad)
  else if type == 0x95 then
    (if byteAt pl 2 == 1 && testLength (n - 4) then .testEchoReceived p (halfAt pl 0) .good (pl.drop 4)
     else if byteAt pl 2 == 2 && n == 4 then .testEchoReceived p (halfAt pl 0) .bad []
     else bad)
  else if type == 0x96 then (if n == 4 then .testResultReceived p (halfAt pl 0) (halfAt pl 2) else bad)
  else if type == 0x97 then
    (let k := (byteAt pl 8).toNat
     if 1 ≤ k && k ≤ 128 && n == 12 + 4 * k then .checkReportReceived p (epochAt pl 0) (decodeWords k (pl.drop 12))
     else bad)
  else .receiveCheckFailure p (.type type)

open Machine in
/-- The command that a packet arriving at port `p` is: the checks of R98 in order (CRC, type, length), then its fields.
A packet of which less than a header and a check word arrives has no check word that matches. An OFFER of another length is
malformed and no check failure, so that BAD_RECEIVED and BAD_PACKET stay, as R98 says and R114 and R115 do not (log 49). A packet
whose length field differs from the payload that arrived fails the length check (the model's choice, log 56). Bytes that a row
does not list (TEST_ECHO 3, CHECK_REPORT 9 to 11) are ignored (the model's choice, log 65). -/
def decodePacket (p : PortId) (bytes : List Byte) : Instr :=
  let type := byteAt bytes 0
  let body := bytes.take (bytes.length - 4)
  if bytes.length < 10 || crc32 body != wordAt bytes (bytes.length - 4) then .receiveCheckFailure p (.crc type)
  else if !tileTypes.contains type then .receiveCheckFailure p (.type type)
  else if (wordAt bytes 2).toNat != body.length - 6 then
    (if type == 0x82 then .offerReceived p none else .receiveCheckFailure p (.length type))
  else decodePayload p type (body.drop 6)

/-- The command that a CONTROL write of `w` is, ENABLE being `enable` before it (R146). -/
def decodeControlWrite (enable : Bool) (w : Word) : Instr :=
  if w.getLsbD 2 then .softReset
  else if w.getLsbD 0 && !enable then .enableSet (w.getLsbD 1)
  else if !w.getLsbD 0 && enable then .enableClear (w.getLsbD 1)
  else .startExternalWrite (w.getLsbD 1)

/-- The register at a byte offset of the register window (R145): whole 32-bit words only. -/
def registerAt (offset : Nat) : Option RegName :=
  if offset == 0x00 then some .ident
  else if offset == 0x04 then some .control
  else if offset == 0x08 then some .chainBase
  else if offset == 0x0C then some .attention
  else if offset == 0x10 then some .anchor
  else if offset == 0x14 then some .cause
  else if offset == 0x18 then some .causeEnable
  else if offset == 0x1C then some .scanPeriod
  else none

/-- The command that a write of `w` to register `r` is, ENABLE being `enable` before it (R145, R146). -/
def decodeRegisterWrite (enable : Bool) (r : RegName) (w : Word) : Instr :=
  match r with
  | .control => decodeControlWrite enable w
  | .attention => .attention
  | .causeEnable => .causeEnableWrite w
  | .scanPeriod => .scanPeriodWrite w
  | .ident => .registerWrite .ident w
  | .chainBase => .registerWrite .chainBase w
  | .anchor => .registerWrite .anchor w
  | .cause => .registerWrite .cause w

end Sys2Proof
end

