-- ==== Sys2Proof/Config.lean ====
section
/-! DEFINITION. What a part fixes and what the spec leaves free. The free values have no body: no proof can see them. -/
namespace Sys2Proof.Config

/-- The stepping in IDENT bits 7–0 (R145, spec/11 section 11.2): each part has its own. Free value, log 28. -/
opaque stepping : Byte

/-- The byte at a host address that a composition read and whose value its command does not list. Applied to the
number of the composition and the address. Free value, log 29. -/
opaque unlistedByte : Nat → Nat → Byte

/-- The Job List holds at most 8 jobs (R156). -/
def jobListSize : Nat := 8
/-- The 256th consecutive VOID block of a pass is a chain fault (R155). -/
def voidLimit : Nat := 256
/-- The scan timer counts units of 100 µs, here in ns (R150). -/
def scanUnit : Nat := 100000
/-- A port sends a BEACON in LISTEN, and an OFFER in OFFER, every 1 ms (R78, R79), in ns. -/
def repeatInterval : Nat := 1000000
/-- The offer timer runs 10 ms (R79), in ns. -/
def offerLimit : Nat := 10000000
/-- The settle of a wake lasts 2 ms (R143), in ns. -/
def settleTime : Nat := 2000000
/-- Good tile TRAIN packets that lock a port (R83). -/
def lockPackets : Nat := 8
/-- Well-spaced pulses that lock the Frame Reference (R134). -/
def lockPulses : Nat := 8
/-- The lock timer runs 64 frame periods (R134). -/
def lockPeriods : Nat := 64
/-- Frame starts in UP that clear the attempt counter (R87). -/
def stabilityLimit : Nat := 64
/-- A tally of 255 puts the port in LOST (R91). -/
def tallyLimit : Nat := 255
/-- At most two unacknowledged reliable packets (R101). -/
def windowSize : Nat := 2
/-- A mismatch list holds at most 16 entries (R182). -/
def mismatchEntries : Nat := 16
/-- The wall plane is 8192 pixels wide and high (R1). -/
def planeSize : Nat := 8192

end Sys2Proof.Config
end

