-- ==== Sys2Proof/Machine/State.lean ====
section
/-! DEFINITION. The state of the IG3140: every register, list, timer, buffer and record the spec gives its eight blocks,
as plain data, and its value after power-on reset. A `Timer` holds the time left in ns, `none` while stopped. -/
namespace Sys2Proof.Machine

/-- A timer: stopped, or the time it has left in ns. -/
abbrev Timer := Option Nat

/-! ## Why a step may stop -/

/-- No command of this controller ends in a fault: what the spec calls faults (HALTED, CHAIN_FAULT, BUS_ERROR, LOST) are
states and outcomes, and every command has a next state (log 2). Nobody raises a value of this type; that is safe. -/
inductive Fault where
  deriving DecidableEq, Repr

/-- Why a command has no meaning here. -/
inductive Refusal where
  /-- Raised only by a refused arm of `exec` for a row that has no meaning yet; safe, since nothing follows. No arm of
  this model is refused. -/
  | notModelled (mnemonic : String)
  deriving DecidableEq, Repr

/-! ## Codes and small records -/

/-- A rate grade: 1, 2 or 4 Gbit/s (spec/00 section 0.5). -/
inductive Grade where
  | l1 | l2 | l4
  deriving DecidableEq, Repr

/-- The link state of a port (R76). -/
inductive LinkState where
  | off | listen | offer | train | up | lost
  deriving DecidableEq, Repr

/-- Why a port is LOST (R76). -/
inductive LostCause where
  | mismatch | trainExhausted | tallySaturated
  deriving DecidableEq, Repr

/-- A tile's mapping state (R2). -/
inductive Mapping where
  | unmapped | excluded | mapped
  deriving DecidableEq, Repr

/-- What a tile shows when its link is gone (R6). -/
inductive LossDisplay where
  | hold | blank
  deriving DecidableEq, Repr

/-- Lines per stripe (spec/01 section 1.2). -/
inductive StripeHeight where
  | s8 | s16 | s32
  deriving DecidableEq, Repr

/-- A 24-bit colour (R184). -/
structure Colour where
  red   : Byte
  green : Byte
  blue  : Byte
  deriving DecidableEq, Repr

/-- A layer's kind (R19). -/
inductive LayerKind where
  | surface | fill
  deriving DecidableEq, Repr

/-- A surface pixel format (R27). -/
inductive PixelFormat where
  | rgb565 | rgb888 | xrgb8888
  deriving DecidableEq, Repr

/-- A layer record as read (R19): a code outside its table reads `none`. -/
structure Layer where
  kind       : Option LayerKind
  scale      : Nat
  format     : Option PixelFormat
  keyPresent : Bool
  destX      : Nat
  destY      : Nat
  srcWidth   : Nat
  srcHeight  : Nat
  srcX       : Nat
  srcY       : Nat
  width      : Nat
  height     : Nat
  address    : Nat
  stride     : Nat
  colour     : Colour
  deriving DecidableEq, Repr

/-- What a layer table holds (R23, R33): the first layer is the bottom one. -/
structure LayerTable where
  epoch      : Epoch
  background : Colour
  layers     : List Layer
  deriving DecidableEq, Repr

/-! ## Tile records (spec/01 section 1.2) -/

/-- The geometry part of a tile record, written by TILE_MAP (R2). -/
structure Geometry where
  mapping : Mapping
  port    : Option PortId
  originX : Nat
  originY : Nat
  width   : Nat
  height  : Nat
  stripe  : Option StripeHeight
  loss    : LossDisplay
  bypass  : Bool
  deriving DecidableEq, Repr

/-- A tile's back store (spec/04 section 4.1). -/
inductive BackStore where
  | empty
  | loading   (epoch : Epoch) (count : Nat)
  | armed     (epoch : Epoch)
  | scheduled (epoch : Epoch) (frame : Word)
  deriving DecidableEq, Repr

/-- A record of the Tile Table. -/
structure Tile where
  geom       : Geometry
  front      : Epoch
  back       : BackStore
  activeGen  : Half
  pendingGen : Option Half
  stale      : Bool
  deriving DecidableEq, Repr

/-- One tile map entry as read (spec/11 section 11.6); reserved bits are left out. -/
structure MapEntry where
  tile       : Nat
  port       : Nat
  stripeCode : Nat
  excluded   : Bool
  blank      : Bool
  bypass     : Bool
  originX    : Nat
  originY    : Nat
  width      : Nat
  height     : Nat
  deriving DecidableEq, Repr

/-! ## Stripe buffers (R35) -/

/-- A stripe's name: tile, epoch, number, line count. -/
structure StripeId where
  tile   : TileId
  epoch  : Epoch
  number : Nat
  lines  : Nat
  deriving DecidableEq, Repr

/-- A composed stripe. -/
structure Stripe where
  id     : StripeId
  pixels : List Byte
  check  : Word
  deriving DecidableEq, Repr

/-- The state of a stripe buffer (R35). -/
inductive Buffer where
  | free
  | composing (id : StripeId)
  | ready (stripe : Stripe)
  | sent  (stripe : Stripe)
  deriving DecidableEq, Repr

/-- The two buffers of a port. -/
inductive BufId where
  | first | second
  deriving DecidableEq, Repr

/-! ## Reliable packets, the window and what is on the wire -/

/-- A LUT_LOAD's channel mode (R119). -/
inductive ChannelMode where
  | all | red | green | blue
  deriving DecidableEq, Repr

/-- The content of a TABLE packet (R121). -/
structure TableLoad where
  mode   : ChannelMode
  start  : Nat
  values : List Half
  deriving DecidableEq, Repr

/-- A reliable packet in a waiting queue or window. A STRIPE names the buffer that holds it; a FLIP carries the target
it was last given and whether its next transmission takes a fresh one (R64); a TABLE or CHECK carries the serial of
the job that handed it over (log 20) and whether an exit from UP has put it back on the queue (`again`), so that it has
been transmitted although it waits (R107, R124, R183, log 51). -/
inductive Reliable where
  | stripe  (buf : BufId)
  | flip    (epoch : Epoch) (target : Word) (fresh : Bool)
  | discard (epoch : Epoch)
  | table   (load : TableLoad) (serial : Nat) (again : Bool)
  | check   (epoch : Epoch) (serial : Nat) (again : Bool)
  deriving DecidableEq, Repr

/-- A packet of the window: its number, its content and its retry count (R101). -/
structure Outstanding where
  number  : Byte
  packet  : Reliable
  retries : Nat
  deriving DecidableEq, Repr

/-- A packet as the port sends it (R187, R188). -/
inductive Packet where
  | beacon (p : PortId)
  | offer (ceiling : Grade) (seen : Bool) (p : PortId)
  | train (grade : Grade) (locked blank bypass : Bool) (stripe : Option StripeHeight) (width height : Nat)
  | sync (frame : Word)
  | test (number : Nat) (mode : Byte) (count : Nat) (payload : List Byte) (injected : Bool)
  | sleepNotice
  | stripe (seq : Byte) (id : StripeId) (pixels : List Byte)
  | flip (seq : Byte) (epoch : Epoch) (target : Word)
  | discard (seq : Byte) (epoch : Epoch)
  | table (seq : Byte) (load : TableLoad)
  | check (seq : Byte) (epoch : Epoch)
  deriving DecidableEq, Repr

/-! ## LINK_TEST (spec/10 section 10.5) -/

/-- A LINK_TEST's pattern (R175). -/
inductive Pattern where
  | alternating | counting | pseudoRandom
  deriving DecidableEq, Repr

/-- A LINK_TEST's mode (R174). -/
inductive TestMode where
  | echo | sink
  deriving DecidableEq, Repr

/-- A LINK_TEST in flight on a port: its job's block, its parameters, its counts and its timers (R174–R178). -/
structure LinkTest where
  job         : Word
  tile        : TileId
  pattern     : Pattern
  mode        : TestMode
  length      : Nat
  count       : Nat
  inject      : Nat
  sent        : Nat
  good        : Nat
  bad         : Nat
  mismatch    : Nat
  lost        : Nat
  injected    : Nat
  outstanding : Option Nat
  due         : Bool
  echoTimer   : Timer
  resultTimer : Timer
  deriving DecidableEq, Repr

/-! ## Ports (R76, R99–R115) -/

/-- The tile identity of the last completed exchange (R82). -/
structure Identity where
  abilities : BitVec 3
  model     : Half
  width     : Half
  height    : Half
  deriving DecidableEq, Repr

/-- The five latched indications (R115). -/
structure Indications where
  syncLost       : Bool
  offerRestarted : Bool
  badPacket      : Bool
  holdSeen       : Bool
  downshifted    : Bool
  deriving DecidableEq, Repr

/-- The seven port counters (R114). -/
structure Counters where
  sent        : Word
  retransmits : Word
  naks        : Word
  ackTimeouts : Word
  badReceived : Word
  retrains    : Word
  downshifts  : Word
  deriving DecidableEq, Repr

/-- A Link Port. -/
structure Port where
  link           : LinkState
  lostCause      : Option LostCause
  grade          : Grade
  attempts       : Nat
  stability      : Nat
  offer          : Option TileOffer
  offeredCeiling : Grade
  tileSeen       : Bool
  seenSent       : Bool
  identity       : Identity
  beaconTimer    : Timer
  offerRepeat    : Timer
  offerTimer     : Timer
  trainTimer     : Timer
  silenceTimer   : Timer
  lockCount      : Nat
  locked         : Bool
  tally          : Nat
  ind            : Indications
  ctr            : Counters
  nextSeq        : Byte
  window         : List Outstanding
  queue          : List Reliable
  run            : List Byte
  recorded       : Bool
  answered       : Option Byte
  ackTimer       : Timer
  holdTimer      : Timer
  beaconDue      : Bool
  offersDue      : Nat
  syncDue        : Option Word
  noticeDue      : Bool
  tx             : Option Packet
  txTimer        : Timer
  bufA           : Buffer
  bufB           : Buffer
  olderFree      : BufId
  test           : Option LinkTest
  deriving DecidableEq, Repr

/-! ## Jobs (R156) -/

/-- The two lanes (R157). -/
inductive Lane where
  | frame | control
  deriving DecidableEq, Repr

/-- A job's status (R156). -/
inductive Status where
  | waiting | running | inFlight
  deriving DecidableEq, Repr

/-- The eleven job kinds (R157). -/
inductive Kind where
  | scene | lutLoad | tileMap | verify
  | policy | sense | recover | linkTest | withdraw | reference | power
  deriving DecidableEq, Repr

/-- A job's outcome (spec/11 section 11.3). -/
inductive JobOutcome where
  | ok | recovered | partialOk | redundant | superseded | withdrawn | tooLate | notFound | aborted | invalid | rejected
  | busy | notRunning | tileLost | deadline | noLock | busError
  deriving DecidableEq, Repr

/-- An INVALID reason (spec/11 section 11.3). -/
inductive Reason where
  | badKind | badField | badCount | badLayer | badEntry | badAlign | overlap | duplicate | noTiles | epochSpent
  deriving DecidableEq, Repr

/-- A PROGRESS value (spec/11 section 11.3). -/
inductive Progress where
  | taken | waiting | layersRead | delivering | armed | flipScheduled | finished
  deriving DecidableEq, Repr

/-- The result flags (R68). -/
structure ResultFlags where
  retried     : Bool
  skewed      : Bool
  downshifted : Bool
  deriving DecidableEq, Repr

/-- What the block that runs a job hands over at completion (R160). -/
structure Result where
  outcome : JobOutcome
  flags   : ResultFlags
  detail  : List Byte
  deriving DecidableEq, Repr

/-- A write into a block that the bus has been given and has not ended (R157, R159). -/
inductive BlockWrite where
  | filing
  | progress (value : Progress)
  deriving DecidableEq, Repr

/-- An entry of the Job List (R156), with its writes not yet taken and its result not yet written. `kind` and `flags` are
the bytes the locked exchange read; NOTIFY is bit 0 of `flags`. `lane` is absent for an unknown kind. -/
structure Job where
  addr   : Word
  kind   : Byte
  flags  : Byte
  tag    : Word
  params : Vector Byte 32
  lane   : Option Lane
  status : Status
  writes : List BlockWrite
  result : Option Result
  deriving DecidableEq, Repr

/-! ## What the running jobs are doing -/

/-- Why a participant was dropped (R54). -/
inductive DropCause where
  | lost | deadline
  deriving DecidableEq, Repr

/-- Why a tile became unconfirmed (R54). -/
inductive UnconfirmedCause where
  | lost | limit
  deriving DecidableEq, Repr

/-- The stage a scene past LAYERS_READ has reached (R55). -/
inductive Stage where
  | layersRead | delivering | armed | flipScheduled
  deriving DecidableEq, Repr

/-- The scene record (R54), the composition cursors (R36), the FLIPs first transmitted (R59) and how many stripes of each
tile have been composed in this scene (for R68's RETRIED, log 7). -/
structure SceneRec where
  epoch        : Epoch
  participants : Mask
  dropped      : Mask
  lastDrop     : Option DropCause
  requireAll   : Bool
  deadline     : Nat
  target       : Option Word
  flipSet      : Mask
  flipSent     : Mask
  confirmed    : Mask
  unconfirmed  : Mask
  lastUnconf   : Option UnconfirmedCause
  flags        : ResultFlags
  stage        : Stage
  cursors      : Vector Nat 12
  composed     : Vector Nat 12
  deriving DecidableEq, Repr

/-- A LUT_LOAD past its checks (R119–R123). -/
structure LutRec where
  serial      : Nat
  mode        : ChannelMode
  start       : Nat
  count       : Nat
  values      : List Half
  targets     : Mask
  outstanding : Mask
  acked       : Mask
  skipped     : Mask
  cleared     : Mask
  flags       : ResultFlags
  deriving DecidableEq, Repr

/-- A tile's CHECK_REPORT waiting to be compared (R180). -/
structure Report where
  tile : TileId
  crcs : List Word
  deriving DecidableEq, Repr

/-- A VERIFY past its checks (R179–R182): the shown layer table it compares with (log 19), the reports in the order they
were taken (the first is being compared, at stripe `stripe`) and the mismatches found. -/
structure VerifyRec where
  serial      : Nat
  list        : Word
  table       : Option LayerTable
  targets     : Mask
  outstanding : Mask
  reports     : List Report
  stripe      : Nat
  checked     : Mask
  unchecked   : Mask
  mismatches  : List (TileId × Nat)
  flags       : ResultFlags
  deriving DecidableEq, Repr

/-- What the RUNNING frame job is doing. `started`: RUNNING and not yet judged. -/
inductive FrameRun where
  | idle
  | started
  | layers  (records : List Layer)
  | scene   (rec : SceneRec)
  | entries (records : List MapEntry)
  | values  (rec : LutRec)
  | lut     (rec : LutRec)
  | verify  (rec : VerifyRec)
  | listing (rec : VerifyRec) (written : Nat)
  deriving DecidableEq, Repr

/-- What the RUNNING control job is doing. A POWER stays in `power` while it enters SLEEP or settles a wake. -/
inductive ControlRun where
  | idle
  | started
  | sense (chunks : List (List Byte)) (written : Nat) (frame : Word) (clears : Byte)
  | power
  deriving DecidableEq, Repr

/-! ## The blocks -/

/-- The intake state (R149). -/
inductive IntakeState where
  | off | idle | scanning | full | chainFault
  deriving DecidableEq, Repr

/-- The access the running pass waits for (R151–R154). -/
inductive PassStage where
  | none
  | link
  | exchange (addr : Word)
  | taking (addr word0 : Word)
  deriving DecidableEq, Repr

/-- The Chain Intake's registers and state (R145, R149–R155). -/
structure Intake where
  state         : IntakeState
  enable        : Bool
  startExternal : Bool
  chainBase     : Word
  anchor        : Option Word
  rescan        : Bool
  scanPeriod    : Byte
  scanTimer     : Timer
  pass          : PassStage
  voidRun       : Nat
  deriving DecidableEq, Repr

/-- The five cause bits, of CAUSE and of CAUSE_ENABLE (R147). -/
structure Causes where
  job       : Bool
  tile      : Bool
  reference : Bool
  chain     : Bool
  halt      : Bool
  deriving DecidableEq, Repr

/-- The halt cause (R162). -/
inductive HaltCause where
  | busFault | bufferFault
  deriving DecidableEq, Repr

/-- The composition engine (R38, R181): free, or the tile, port and buffer it composes for. -/
inductive Engine where
  | free
  | scene  (t : TileId) (p : PortId) (buf : BufId)
  | verify (t : TileId) (p : PortId) (buf : BufId)
  deriving DecidableEq, Repr

/-- The Composer (R23, R33, R38). -/
structure Composer where
  active  : Option LayerTable
  shown   : Option LayerTable
  engine  : Engine
  order   : List TileId
  pointer : Nat
  deriving DecidableEq, Repr

/-- The reference state (R128). -/
inductive RefState where
  | intern | extern | stalled | stopped
  deriving DecidableEq, Repr

/-- The frame source (R128). -/
inductive Source where
  | intern | extern
  deriving DecidableEq, Repr

/-- The switch record (R128): the target, and the REFERENCE job's block or none for the start-up switch. -/
structure Switch where
  target : Source
  job    : Option Word
  deriving DecidableEq, Repr

/-- The Frame Reference (R128). `frameTimer`, `lossTimer` and `sincePulse` hold elapsed ns; `frameLength` is the period in
force at the last frame start, in µs (R130, R131). -/
structure Reference where
  state        : RefState
  source       : Source
  switch       : Option Switch
  period       : Nat
  frameLength  : Nat
  frameTimer   : Option Nat
  lossTimer    : Option Nat
  lockCount    : Nat
  lockTimer    : Timer
  sincePulse   : Option Nat
  frameNumber  : Word
  lock         : Bool
  startUpDone  : Bool
  deriving DecidableEq, Repr

/-- The policy store (R166); times in the units of its table. -/
structure Policy where
  retryLimit   : Nat
  downshift    : Nat
  ceiling      : Grade
  silenceMs    : Nat
  ackUs        : Nat
  trainUs      : Nat
  failSafe     : Bool
  deriving DecidableEq, Repr

/-- The power state (R140). -/
inductive PowerState where
  | run | standby | sleep
  deriving DecidableEq, Repr

/-- A power change under way (R142, R143). -/
inductive PowerPhase where
  | steady
  | enteringSleep
  | settling (target : PowerState)
  deriving DecidableEq, Repr

/-- The power state, the change under way, the state before a POWER that waits, and the settle timer. -/
structure Power where
  state       : PowerState
  phase       : PowerPhase
  before      : PowerState
  settleTimer : Timer
  deriving DecidableEq, Repr

/-- One write the System Bus Port has made. -/
structure BusWrite where
  addr  : Nat
  bytes : List Byte
  deriving DecidableEq, Repr

/-- The System Bus Port, as the model sees it: the writes made, oldest first, and the word the last CAUSE read returned
(log 8, log 34). -/
structure Bus where
  log      : List BusWrite
  lastRead : Word
  deriving DecidableEq, Repr

/-- The state of the controller, and the commands that wait. -/
structure State where
  pending     : List Instr
  intake      : Intake
  causes      : Causes
  causeEnable : Causes
  halted      : Option HaltCause
  jobs        : List Job
  frameRun    : FrameRun
  controlRun  : ControlRun
  composer    : Composer
  epochCounter : Epoch
  presented   : Epoch
  tiles       : Vector Tile 12
  ports       : Vector Port 12
  ref         : Reference
  policy      : Policy
  power       : Power
  bus         : Bus
  serial      : Nat
  compositions : Nat
  deriving DecidableEq, Repr

/-! ## Power-on reset values -/

/-- An UNMAPPED record's geometry (spec/01 section 1.2). -/
def Geometry.reset : Geometry :=
  { mapping := .unmapped, port := none, originX := 0, originY := 0, width := 0, height := 0, stripe := none,
    loss := .hold, bypass := false }

/-- A tile record after power-on reset (R3). -/
def Tile.reset : Tile :=
  { geom := .reset, front := 0, back := .empty, activeGen := 0, pendingGen := none, stale := false }

/-- No indication latched (R115). -/
def Indications.clear : Indications :=
  { syncLost := false, offerRestarted := false, badPacket := false, holdSeen := false, downshifted := false }

/-- Every counter 0 (R114). -/
def Counters.zero : Counters :=
  { sent := 0, retransmits := 0, naks := 0, ackTimeouts := 0, badReceived := 0, retrains := 0, downshifts := 0 }

/-- A port after power-on reset (R76, R101, R104, R109, R35; the rest DESIGN CHOICE, log 30 and 31). -/
def Port.reset : Port :=
  { link := .off, lostCause := none, grade := .l4, attempts := 0, stability := 0, offer := none,
    offeredCeiling := .l4, tileSeen := false, seenSent := false,
    identity := { abilities := 0, model := 0, width := 0, height := 0 },
    beaconTimer := none, offerRepeat := none, offerTimer := none, trainTimer := none, silenceTimer := none,
    lockCount := 0, locked := false, tally := 0, ind := .clear, ctr := .zero, nextSeq := 0, window := [],
    queue := [], run := [], recorded := false, answered := none, ackTimer := none, holdTimer := none,
    beaconDue := false, offersDue := 0, syncDue := none, noticeDue := false, tx := none, txTimer := none,
    bufA := .free, bufB := .free, olderFree := .first, test := none }

/-- No cause set (R147). -/
def Causes.clear : Causes :=
  { job := false, tile := false, reference := false, chain := false, halt := false }

/-- The intake after power-on reset (R165, R145). -/
def Intake.reset : Intake :=
  { state := .off, enable := false, startExternal := false, chainBase := 0, anchor := none, rescan := false,
    scanPeriod := 0, scanTimer := none, pass := .none, voidRun := 0 }

/-- The Composer after power-on reset (R23, R33, R3). -/
def Composer.reset : Composer :=
  { active := none, shown := none, engine := .free, order := [], pointer := 0 }

/-- The Frame Reference after power-on reset (R128): the frame timer runs from 0. -/
def Reference.reset : Reference :=
  { state := .intern, source := .intern, switch := none, period := 16667, frameLength := 16667,
    frameTimer := some 0, lossTimer := none, lockCount := 0, lockTimer := none, sincePulse := none,
    frameNumber := 0, lock := false, startUpDone := false }

/-- The policy defaults (R166). -/
def Policy.default : Policy :=
  { retryLimit := 15, downshift := 4, ceiling := .l4, silenceMs := 100, ackUs := 100, trainUs := 2000,
    failSafe := true }

/-- The power state after power-on reset (R140). -/
def Power.reset : Power :=
  { state := .run, phase := .steady, before := .run, settleTimer := none }

/-- The controller right after power-on reset, with no command waiting. -/
def State.reset : State :=
  { pending := [], intake := .reset, causes := .clear, causeEnable := .clear, halted := none, jobs := [],
    frameRun := .idle, controlRun := .idle, composer := .reset, epochCounter := 0, presented := 0,
    tiles := Vector.replicate 12 Tile.reset, ports := Vector.replicate 12 Port.reset, ref := .reset,
    policy := .default, power := .reset, bus := { log := [], lastRead := 0 }, serial := 0, compositions := 0 }

end Sys2Proof.Machine
end

