-- ==== Sys2Proof/Machine/Flags.lean ====
section
/-! DEFINITION. Every flag computation: causes and INT (R147), result flags (R68), latched indications and saturating
counters (R114, R115). -/
namespace Sys2Proof.Machine

/-- Saturating increment of a 32-bit counter: FFFFFFFFh stays (R114). -/
def satInc (w : Word) : Word := if w = 0xFFFFFFFF then w else w + 1

/-- The causes as the bits of CAUSE and CAUSE_ENABLE: JOB, TILE, REFERENCE, CHAIN, HALT from bit 0 (spec/11 section 11.2). -/
def Causes.toWord (c : Causes) : Word := BitVec.ofNat 32 (bitsByte [c.job, c.tile, c.reference, c.chain, c.halt])

/-- The five bits of a word written to CAUSE_ENABLE; the others are ignored (R145). -/
def Causes.ofWord (w : Word) : Causes :=
  { job := w.getLsbD 0, tile := w.getLsbD 1, reference := w.getLsbD 2, chain := w.getLsbD 3, halt := w.getLsbD 4 }

/-- Whether two cause sets have a set bit in common. -/
def Causes.meets (a b : Causes) : Bool :=
  (a.job && b.job) || (a.tile && b.tile) || (a.reference && b.reference) || (a.chain && b.chain) || (a.halt && b.halt)

/-- The INT line: asserted while CAUSE and CAUSE_ENABLE have a set bit in common (R147). -/
def State.int (s : State) : Bool := s.causes.meets s.causeEnable

/-- Raising a cause; a bit already set stays set (R147). -/
def State.raiseJob (s : State) : State := { s with causes := { s.causes with job := true } }
/-- Raising TILE. -/
def State.raiseTile (s : State) : State := { s with causes := { s.causes with tile := true } }
/-- Raising REFERENCE. -/
def State.raiseReference (s : State) : State := { s with causes := { s.causes with reference := true } }
/-- Raising CHAIN. -/
def State.raiseChain (s : State) : State := { s with causes := { s.causes with chain := true } }
/-- Raising HALT. -/
def State.raiseHalt (s : State) : State := { s with causes := { s.causes with halt := true } }

/-- No result flag set. -/
def ResultFlags.clear : ResultFlags := { retried := false, skewed := false, downshifted := false }

/-- RESULT FLAGS bytes 50–51: RETRIED, SKEWED, DOWNSHIFTED from bit 0 (spec/11 section 11.3). -/
def ResultFlags.bytes (f : ResultFlags) : List Byte := le2 (bitsByte [f.retried, f.skewed, f.downshifted])

/-- The latched indications as byte 7 of a tile record (spec/11 section 11.7). -/
def Indications.byte (i : Indications) : List Byte :=
  le1 (bitsByte [i.syncLost, i.offerRestarted, i.badPacket, i.holdSeen, i.downshifted])

/-- The counters as bytes 36–63 of a tile record (spec/11 section 11.7). -/
def Counters.bytes (c : Counters) : List Byte :=
  le4 c.sent.toNat ++ le4 c.retransmits.toNat ++ le4 c.naks.toNat ++ le4 c.ackTimeouts.toNat ++
    le4 c.badReceived.toNat ++ le4 c.retrains.toNat ++ le4 c.downshifts.toNat

end Sys2Proof.Machine
end

