-- ==== Sys2Proof/Machine/Operands.lean ====
section
/-! DEFINITION. Every operand form: the parameters of each job kind (spec/11 section 11.4), the memory records the
controller reads (section 11.6), the codes (sections 11.2, 11.3) and the 12 DETAIL bytes (R185). -/
namespace Sys2Proof.Machine

/-! ## Codes -/

/-- The kind codes (spec/11 section 11.3). -/
def Kind.code : Kind → Byte
  | .scene => 0x10 | .lutLoad => 0x11 | .tileMap => 0x12 | .verify => 0x13
  | .policy => 0x20 | .sense => 0x21 | .recover => 0x22 | .linkTest => 0x23
  | .withdraw => 0x24 | .reference => 0x25 | .power => 0x26

/-- The kind a code names; `none` for an unknown kind (R157). -/
def kindOf (b : Byte) : Option Kind :=
  [Kind.scene, .lutLoad, .tileMap, .verify, .policy, .sense, .recover, .linkTest, .withdraw, .reference, .power].find?
    (fun k => k.code == b)

/-- The lane of a kind (R157). -/
def Kind.lane : Kind → Lane
  | .scene | .lutLoad | .tileMap | .verify => .frame
  | .policy | .sense | .recover | .linkTest | .withdraw | .reference | .power => .control

/-- PROGRESS codes (spec/11 section 11.3). -/
def Progress.code : Progress → Byte
  | .taken => 1 | .waiting => 2 | .layersRead => 3 | .delivering => 4 | .armed => 5 | .flipScheduled => 6
  | .finished => 7

/-- OUTCOME codes (spec/11 section 11.3). -/
def JobOutcome.code : JobOutcome → Byte
  | .ok => 0x01 | .recovered => 0x02 | .partialOk => 0x03 | .redundant => 0x04
  | .superseded => 0x10 | .withdrawn => 0x11 | .tooLate => 0x12 | .notFound => 0x13 | .aborted => 0x14
  | .invalid => 0x20 | .rejected => 0x21 | .busy => 0x22 | .notRunning => 0x23
  | .tileLost => 0x30 | .deadline => 0x31 | .noLock => 0x32 | .busError => 0x33

/-- INVALID reason codes (spec/11 section 11.3). -/
def Reason.code : Reason → Nat
  | .badKind => 1 | .badField => 2 | .badCount => 3 | .badLayer => 4 | .badEntry => 5 | .badAlign => 6
  | .overlap => 7 | .duplicate => 8 | .noTiles => 9 | .epochSpent => 10

/-- The status codes of a WITHDRAW detail (spec/11 section 11.5). -/
def Status.code : Status → Nat
  | .waiting => 1 | .running => 2 | .inFlight => 3

/-- The grade codes (R184). -/
def Grade.code : Grade → Nat
  | .l1 => 1 | .l2 => 2 | .l4 => 4

/-- The grade a code names (R184). -/
def gradeOf (n : Nat) : Option Grade :=
  if n == 1 then some .l1 else if n == 2 then some .l2 else if n == 4 then some .l4 else none

/-- Power state codes (spec/11 section 11.4). -/
def PowerState.code : PowerState → Nat
  | .run => 1 | .standby => 2 | .sleep => 3

/-- The power state a code names. -/
def powerOf (n : Nat) : Option PowerState :=
  if n == 1 then some .run else if n == 2 then some .standby else if n == 3 then some .sleep else none

/-- Source codes of the REFERENCE detail and the sense header (spec/11). -/
def Source.code : Source → Nat
  | .intern => 1 | .extern => 2

/-- Reference state codes (spec/11 section 11.5). -/
def RefState.code : RefState → Nat
  | .intern => 1 | .extern => 2 | .stalled => 3 | .stopped => 4

/-- Intake state codes (spec/11 section 11.2). -/
def IntakeState.code : IntakeState → Nat
  | .off => 0 | .idle => 1 | .scanning => 2 | .full => 3 | .chainFault => 4

/-- Halt cause codes; 0 while not HALTED (spec/11 section 11.2). -/
def haltCode : Option HaltCause → Nat
  | none => 0 | some .busFault => 1 | some .bufferFault => 2

/-- Link state codes (spec/11 section 11.7). -/
def LinkState.code : LinkState → Nat
  | .off => 0 | .listen => 1 | .offer => 2 | .train => 3 | .up => 4 | .lost => 5

/-- LOST cause codes; 0 while absent (spec/11 section 11.7). -/
def lostCode : Option LostCause → Nat
  | none => 0 | some .mismatch => 1 | some .trainExhausted => 2 | some .tallySaturated => 3

/-- Mapping state codes (spec/11 section 11.7). -/
def Mapping.code : Mapping → Nat
  | .unmapped => 0 | .excluded => 1 | .mapped => 2

/-- Stripe heights (spec/01 section 1.5). -/
def StripeHeight.lines : StripeHeight → Nat
  | .s8 => 8 | .s16 => 16 | .s32 => 32

/-- Stripe height codes (spec/01 section 1.5). -/
def StripeHeight.code : StripeHeight → Nat
  | .s8 => 0 | .s16 => 1 | .s32 => 2

/-- Channel mode codes (spec/11 section 11.4). -/
def ChannelMode.code : ChannelMode → Nat
  | .all => 0 | .red => 1 | .green => 2 | .blue => 3

/-- The channel mode a code names. -/
def channelOf (n : Nat) : Option ChannelMode :=
  if n == 0 then some .all else if n == 1 then some .red else if n == 2 then some .green
  else if n == 3 then some .blue else none

/-- The pattern a code names (spec/11 section 11.4). -/
def patternOf (n : Nat) : Option Pattern :=
  if n == 0 then some .alternating else if n == 1 then some .counting else if n == 2 then some .pseudoRandom else none

/-- The mode a code names (spec/11 section 11.4). -/
def testModeOf (n : Nat) : Option TestMode :=
  if n == 0 then some .echo else if n == 1 then some .sink else none

/-- The mode byte of a TEST packet (R187). -/
def TestMode.code : TestMode → Byte
  | .echo => 0 | .sink => 1

/-! ## Job parameters, by block offset (spec/11 section 11.4) -/

/-- The NOTIFY flag (spec/11 section 11.3). -/
def Job.notify (j : Job) : Bool := j.flags.getLsbD 0

/-- The parameter byte at a block offset, 16–47. -/
def Job.byte (j : Job) (offset : Nat) : Nat := (byteAt j.params.toList (offset - 16)).toNat
/-- The 16-bit parameter at a block offset. -/
def Job.half (j : Job) (offset : Nat) : Nat := (halfAt j.params.toList (offset - 16)).toNat
/-- The 32-bit parameter at a block offset. -/
def Job.word (j : Job) (offset : Nat) : Word := wordAt j.params.toList (offset - 16)
/-- A parameter bit. -/
def Job.bit (j : Job) (offset i : Nat) : Bool := bitAt j.params.toList (offset - 16) i
/-- A 12-bit tile mask; bits 15–12 are ignored (R184). -/
def Job.mask (j : Job) (offset : Nat) : Mask := (halfAt j.params.toList (offset - 16)).truncate 12

/-- A colour field: blue, green, red from the lowest byte up; the top byte is ignored (R184). -/
def colourAt (bs : List Byte) (i : Nat) : Colour :=
  { blue := byteAt bs i, green := byteAt bs (i + 1), red := byteAt bs (i + 2) }

/-! ## Memory records (spec/11 section 11.6) -/

/-- A layer record's kind code. -/
def layerKindOf (n : Nat) : Option LayerKind :=
  if n == 1 then some .surface else if n == 2 then some .fill else none

/-- A layer record's format code. -/
def formatOf (n : Nat) : Option PixelFormat :=
  if n == 1 then some .rgb565 else if n == 2 then some .rgb888 else if n == 3 then some .xrgb8888 else none

/-- The fields of a 32-byte layer record. -/
def decodeLayer (bs : List Byte) : Layer :=
  { kind := layerKindOf (byteAt bs 0).toNat
    scale := (byteAt bs 1).toNat
    format := formatOf (byteAt bs 2).toNat
    keyPresent := bitAt bs 3 0
    destX := (halfAt bs 4).toNat
    destY := (halfAt bs 6).toNat
    srcWidth := (halfAt bs 8).toNat
    srcHeight := (halfAt bs 10).toNat
    srcX := (halfAt bs 12).toNat
    srcY := (halfAt bs 14).toNat
    width := (halfAt bs 16).toNat
    height := (halfAt bs 18).toNat
    address := (wordAt bs 20).toNat
    stride := (wordAt bs 24).toNat
    colour := colourAt bs 28 }

/-- The fields of a 16-byte tile map entry; the stripe height code is bits 1–0 of its byte (R184). -/
def decodeEntry (bs : List Byte) : MapEntry :=
  { tile := (byteAt bs 0).toNat
    port := (byteAt bs 1).toNat
    stripeCode := (byteAt bs 2).toNat % 4
    excluded := bitAt bs 3 0
    blank := bitAt bs 3 1
    bypass := bitAt bs 3 2
    originX := (halfAt bs 4).toNat
    originY := (halfAt bs 6).toNat
    width := (halfAt bs 8).toNat
    height := (halfAt bs 10).toNat }

/-- A values word keeps its bits 9–0 (R120). -/
def tableValue (w : Half) : Half := w &&& 0x3FF

/-! ## Details: 12 bytes, unassigned bytes 0 (R185) -/

/-- The BUS_ERROR sources (spec/11 section 11.5). -/
inductive BusSource where
  | layerList | surface | entryList | valuesList | senseBuffer | mismatchList
  deriving DecidableEq, Repr

/-- Their codes. -/
def BusSource.code : BusSource → Nat
  | .layerList => 1 | .surface => 2 | .entryList => 3 | .valuesList => 4 | .senseBuffer => 5 | .mismatchList => 6

/-- Twelve bytes of detail: the fields given, then 0. -/
def detailOf (bs : List Byte) : List Byte := fixLength 12 bs

/-- A detail with every field 0. -/
def detailZero : List Byte := zeros 12

/-- The INVALID detail: reason, index and earlier index, FFh where there is none (R185). -/
def detailInvalid (r : Reason) (index earlier : Option Nat) : List Byte :=
  detailOf (le1 r.code ++ le1 (index.getD 255) ++ le1 (earlier.getD 255))

/-- The BUS_ERROR detail (R185). That the stripe number is 0 where the source is the entry list, the values list, the sense buffer
or the mismatch list, as R18 has it for the layer list, is the model's choice (log 64). -/
def detailBusError (src : BusSource) (index : Nat) (tile : Option TileId) (stripe : Nat) (epoch : Epoch) : List Byte :=
  detailOf (le1 src.code ++ le1 index ++ le1 (match tile with | some t => t.val | none => 255) ++ le1 stripe ++
    leBytes 5 epoch.toNat)

/-- The SCENE detail: target frame, epoch bits 39–0, dropped mask in bits 11–0 and unconfirmed mask in bits 23–12 of a
24-bit value (R69, R185). -/
def detailScene (target : Word) (epoch : Epoch) (dropped unconfirmed : Mask) : List Byte :=
  detailOf (le4 target.toNat ++ leBytes 5 epoch.toNat ++ leBytes 3 (dropped.toNat + 4096 * unconfirmed.toNat))

/-- Three masks (LUT_LOAD, TILE_MAP, RECOVER; R123, R14, R171). -/
def detailMasks (a b c : Mask) : List Byte := detailOf (le2 a.toNat ++ le2 b.toNat ++ le2 c.toNat)

/-- The VERIFY detail (R182). -/
def detailVerify (checked unchecked mismatched : Mask) (found written : Nat) (overflow : Bool) : List Byte :=
  detailOf (le2 checked.toNat ++ le2 unchecked.toNat ++ le2 mismatched.toNat ++ le2 found ++ le1 written ++
    le1 (bitsByte [overflow]))

/-- The POLICY detail (R167). -/
def detailPolicy (retrained : Mask) (fallback : Bool) : List Byte :=
  detailOf (le2 retrained.toNat ++ le1 (bitsByte [fallback]))

/-- The SENSE detail (R170). -/
def detailSense (frame : Word) (clears : Byte) : List Byte := detailOf (le4 frame.toNat ++ [clears])

/-- The LINK_TEST detail: sent, GOOD, BAD, MISMATCH, LOST, injected (R178). -/
def detailTest (sent good bad mismatch lost injected : Nat) : List Byte :=
  detailOf (le2 sent ++ le2 good ++ le2 bad ++ le2 mismatch ++ le2 lost ++ le2 injected)

/-- The WITHDRAW detail: the target's kind, status and TAG, each 0 when absent (R172). -/
def detailWithdraw (found : Option Job) : List Byte :=
  match found with
  | none => detailZero
  | some j => detailOf ([j.kind] ++ le1 j.status.code ++ zeros 2 ++ le4 j.tag.toNat)

/-- The REFERENCE detail: source, reference state, lock count, frame number, period (R136). -/
def detailReference (r : Reference) (lockCount : Nat) : List Byte :=
  detailOf (le1 r.source.code ++ le1 r.state.code ++ le1 lockCount ++ zeros 1 ++ le4 r.frameNumber.toNat ++
    le4 r.period)

/-- The POWER detail: power state before and after (R140). -/
def detailPower (before after : PowerState) : List Byte := detailOf (le1 before.code ++ le1 after.code)

end Sys2Proof.Machine
end

