-- ==== Sys2Proof/Machine/Ops.lean ====
section
/-! DEFINITION. The named operations every family uses: reading and writing one port, tile or Job List entry; handing a
result or a progress write to the intake (R159, R160); the lanes' start rule (R158); the waiting queues (R100). -/
namespace Sys2Proof.Machine

/-! ## Ports and tile records -/

/-- Port `p`. -/
def State.port (s : State) (p : PortId) : Port := s.ports[p.val]

/-- The state with port `p` replaced. -/
def State.setPort (s : State) (p : PortId) (x : Port) : State := { s with ports := s.ports.set p.val x }

/-- The state with port `p` changed by `f`. -/
def State.modPort (s : State) (p : PortId) (f : Port → Port) : State := s.setPort p (f (s.port p))

/-- Tile record `t`. -/
def State.tile (s : State) (t : TileId) : Tile := s.tiles[t.val]

/-- The state with tile record `t` replaced. -/
def State.setTile (s : State) (t : TileId) (x : Tile) : State := { s with tiles := s.tiles.set t.val x }

/-- The state with tile record `t` changed by `f`. -/
def State.modTile (s : State) (t : TileId) (f : Tile → Tile) : State := s.setTile t (f (s.tile t))

/-- The tile whose record names port `p`; TILE_MAP lets at most one do so (R2). -/
def State.tileOfPort (s : State) (p : PortId) : Option TileId := allIds.find? (fun t => (s.tile t).geom.port == some p)

/-- Whether tile `t` is MAPPED. -/
def State.isMapped (s : State) (t : TileId) : Bool := (s.tile t).geom.mapping == .mapped

/-- The MAPPED tiles. -/
def State.mappedMask (s : State) : Mask := maskOf s.isMapped

/-- The targets a tile mask names: every MAPPED tile for mask 0, else the MAPPED tiles whose bit is set (R21). -/
def State.targets (s : State) (mask : Mask) : Mask := if mask = 0 then s.mappedMask else mask &&& s.mappedMask

/-- A step made for each id of a list, in its order. -/
def State.forEach (s : State) (ids : List (Fin 12)) (f : Fin 12 → State → State) : State :=
  ids.foldl (fun s i => f i s) s

/-- The stripe count of a tile of height `h` and stripe height `l` (R29). -/
def stripeCount (h l : Nat) : Nat := if h % l = 0 then h / l else h / l + 1

/-- The stripe count of a record; 0 where it has no stripe height (an UNMAPPED record). -/
def Geometry.stripes (g : Geometry) : Nat :=
  match g.stripe with
  | none => 0
  | some l => stripeCount g.height l.lines

/-- The stripe count S of tile `t`. -/
def State.stripesOf (s : State) (t : TileId) : Nat := (s.tile t).geom.stripes

/-! ## Buffers -/

/-- A port's buffer. -/
def Port.buf (x : Port) : BufId → Buffer
  | .first => x.bufA
  | .second => x.bufB

/-- A port with one buffer replaced. -/
def Port.setBuf (x : Port) (b : BufId) (v : Buffer) : Port :=
  match b with
  | .first => { x with bufA := v }
  | .second => { x with bufB := v }

/-- The other buffer. -/
def BufId.other : BufId → BufId
  | .first => .second
  | .second => .first

/-- A buffer becomes FREE; the other one, if FREE too, has been free longer (R38). -/
def Port.freeBuf (x : Port) (b : BufId) : Port :=
  match x.buf b with
  | .free => x
  | .composing _ | .ready _ | .sent _ => { x.setBuf b .free with olderFree := b.other }

/-- The buffer a grant takes: the FREE one freed longer ago (R38). -/
def Port.grantBuf (x : Port) : Option BufId :=
  if x.buf x.olderFree = .free then some x.olderFree
  else if x.buf x.olderFree.other = .free then some x.olderFree.other
  else none

/-! ## The waiting queue (R100) -/

/-- A reliable packet handed to a port joins the tail of its queue; an OFF port keeps none (R77, R100). -/
def Port.enqueue (x : Port) (k : Reliable) : Port :=
  if x.link = .off then x else { x with queue := x.queue ++ [k] }

/-- Whether a DISCARD of `e` waits in the queue or is outstanding (R43). That an outstanding one counts as queued already for R49,
R70 and R71 too, and a waiting or outstanding one for R48, which do not say so, is the model's choice (log 53). -/
def Port.hasDiscard (x : Port) (e : Epoch) : Bool :=
  x.queue.contains (.discard e) || x.window.any (fun o => o.packet == .discard e)

/-- Whether any DISCARD waits or is outstanding (R37). -/
def Reliable.isDiscard : Reliable → Bool
  | .discard _ => true
  | .stripe _ | .flip _ _ _ | .table _ _ _ | .check _ _ _ => false

/-- A FLIP of epoch `e`. -/
def Reliable.isFlipOf (e : Epoch) : Reliable → Bool
  | .flip e' _ _ => e' == e
  | .stripe _ | .discard _ | .table _ _ _ | .check _ _ _ => false

/-- A STRIPE. -/
def Reliable.isStripe : Reliable → Bool
  | .stripe _ => true
  | .flip _ _ _ | .discard _ | .table _ _ _ | .check _ _ _ => false

/-- A TABLE of the LUT_LOAD with this serial. -/
def Reliable.isTableOf (serial : Nat) : Reliable → Bool
  | .table _ k _ => k == serial
  | .stripe _ | .flip _ _ _ | .discard _ | .check _ _ _ => false

/-- A CHECK of the VERIFY with this serial. -/
def Reliable.isCheckOf (serial : Nat) : Reliable → Bool
  | .check _ k _ => k == serial
  | .stripe _ | .flip _ _ _ | .discard _ | .table _ _ _ => false

/-- A TABLE of the LUT_LOAD with this serial that has not been transmitted (R124, log 51). -/
def Reliable.isUnsentTableOf (serial : Nat) : Reliable → Bool
  | .table _ k again => k == serial && !again
  | .stripe _ | .flip _ _ _ | .discard _ | .check _ _ _ => false

/-- A CHECK of the VERIFY with this serial that has not been transmitted (R183, log 51). -/
def Reliable.isUnsentCheckOf (serial : Nat) : Reliable → Bool
  | .check _ k again => k == serial && !again
  | .stripe _ | .flip _ _ _ | .discard _ | .table _ _ _ => false

/-- The queue without the packets `f` names: their owner removes them (R100). -/
def Port.dropQueued (x : Port) (f : Reliable → Bool) : Port := { x with queue := x.queue.filter (fun k => !f k) }

/-- Whether any DISCARD waits or is outstanding on the port (R37). -/
def Port.anyDiscard (x : Port) : Bool :=
  x.queue.any Reliable.isDiscard || x.window.any (fun o => o.packet.isDiscard)

/-- DISCARD(e) handed to tile `t`'s port, unless one is already there (R43, R49, R70). R48 and the rows of R45 queue it without that
exception; that no second one is queued there either is the model's choice (log 53). -/
def State.queueDiscard (s : State) (t : TileId) (e : Epoch) : State :=
  match (s.tile t).geom.port with
  | none => s
  | some p => s.modPort p (fun x => if x.hasDiscard e then x else x.enqueue (.discard e))

/-! ## The Job List (R156) -/

/-- The entry for a block address. -/
def State.findJob (s : State) (addr : Word) : Option Job := s.jobs.find? (fun j => j.addr == addr)

/-- The entry for a block address changed by `f`. -/
def State.modJob (s : State) (addr : Word) (f : Job → Job) : State :=
  { s with jobs := s.jobs.map (fun j => if j.addr = addr then f j else j) }

/-- An entry given its result, once (R160). -/
def Job.hand (j : Job) (r : Result) : Job :=
  match j.result with
  | none => { j with result := some r }
  | some _ => j

/-- The block that runs a job hands its result to the intake (R160). -/
def State.hand (s : State) (addr : Word) (r : Result) : State := s.modJob addr (fun j => j.hand r)

/-- A RUNNING job of the lane whose result has not been handed over. -/
def State.running (s : State) (l : Lane) : Option Job :=
  s.jobs.find? (fun j => j.lane == some l && j.status == .running && j.result.isNone)

/-- Whether a job of the lane is RUNNING, its result written or not (R158). -/
def State.laneBusy (s : State) (l : Lane) : Bool := s.jobs.any (fun j => j.lane == some l && j.status == .running)

/-- A PROGRESS write handed to the bus (R159). -/
def Job.addWrite (w : BlockWrite) (j : Job) : Job := { j with writes := j.writes ++ [w] }

/-- A PROGRESS write for the RUNNING frame job (R55, R159). -/
def State.writeProgress (s : State) (v : Progress) : State :=
  match s.running .frame with
  | none => s
  | some j => s.modJob j.addr (Job.addWrite (.progress v))

/-- A result without flags. -/
def plainResult (o : JobOutcome) (detail : List Byte) : Result := { outcome := o, flags := .clear, detail := detail }

/-- An INVALID result (R185). -/
def invalidResult (r : Reason) (index earlier : Option Nat) : Result :=
  plainResult .invalid (detailInvalid r index earlier)

/-- The RUNNING frame job completes with this result (R160). -/
def State.completeFrame (s : State) (r : Result) : State :=
  match s.running .frame with
  | none => { s with frameRun := .idle }
  | some j => { s.hand j.addr r with frameRun := .idle }

/-- The RUNNING control job completes with this result (R160). -/
def State.completeControl (s : State) (r : Result) : State :=
  match s.running .control with
  | none => { s with controlRun := .idle }
  | some j => { s.hand j.addr r with controlRun := .idle }

/-! ## The lanes' start rule (R158) -/

/-- The oldest WAITING job of a lane becomes RUNNING; a job that `inPlace` completes in place of starting is handed its
result, and the next one is looked at. Answers whether a job was started. That the next one is looked at in the same look, before
the DONE write of the job passed over is taken (R158 beside R160), is the model's choice (log 63). -/
def startOldest (l : Lane) (inPlace : Job → Option Result) : List Job → List Job × Bool
  | [] => ([], false)
  | j :: js =>
    if j.lane = some l ∧ j.status = .waiting ∧ j.result = none then
      match inPlace j with
      | some r => let (js', b) := startOldest l inPlace js; ({ j with result := some r } :: js', b)
      | none => ({ j with status := .running } :: js, true)
    else let (js', b) := startOldest l inPlace js; (j :: js', b)

/-- Whether frame jobs complete NOT_RUNNING in place of starting: in STANDBY and SLEEP (R158, R141, R142), and while SLEEP
is being entered (log 27). -/
def State.pictureWorkStopped (s : State) : Bool :=
  s.power.state != .run || s.power.phase == .enteringSleep

/-- Whether the wake from SLEEP settles (R143). -/
def State.settling (s : State) : Bool :=
  match s.power.phase with
  | .settling _ => true
  | .steady | .enteringSleep => false

/-- The frame lane is looked at (R158). While HALTED it starts no job (R163). -/
def State.lookFrame (s : State) : State :=
  if s.laneBusy .frame || s.halted.isSome then s
  else
    let (js, started) := startOldest .frame
      (fun _ => if s.pictureWorkStopped then some (plainResult .notRunning detailZero) else none) s.jobs
    { s with jobs := js, frameRun := if started then .started else s.frameRun }

/-- The control lane is looked at (R158): nothing starts while a wake settles; while HALTED every job but a SENSE
completes REJECTED. -/
def State.lookControl (s : State) : State :=
  if s.laneBusy .control || s.settling then s
  else
    let (js, started) := startOldest .control
      (fun j => if s.halted.isSome && kindOf j.kind != some .sense then some (plainResult .rejected detailZero)
                else none) s.jobs
    { s with jobs := js, controlRun := if started then .started else s.controlRun }

/-- The lane of a job, if it has one, is looked at. -/
def State.look (s : State) : Option Lane → State
  | none => s
  | some .frame => s.lookFrame
  | some .control => s.lookControl

/-- Every WAITING job of the frame lane completes with this outcome (R141, R142, R162). -/
def State.endWaitingFrame (s : State) (o : JobOutcome) : State :=
  { s with jobs := s.jobs.map (fun j =>
      if j.lane = some .frame ∧ j.status = .waiting then j.hand (plainResult o detailZero) else j) }

/-! ## The scene record -/

/-- The scene record, while a SCENE is past LAYERS_READ (R54). -/
def State.scene (s : State) : Option SceneRec :=
  match s.frameRun with
  | .scene r => some r
  | .idle | .started | .layers _ | .entries _ | .values _ | .lut _ | .verify _ | .listing _ _ => none

/-- The scene record changed by `f`. -/
def State.modScene (s : State) (f : SceneRec → SceneRec) : State :=
  match s.frameRun with
  | .scene r => { s with frameRun := .scene (f r) }
  | .idle | .started | .layers _ | .entries _ | .values _ | .lut _ | .verify _ | .listing _ _ => s

/-- The stage allows drops, arming and composition: LAYERS_READ or DELIVERING (R58, R51). -/
def Stage.delivering? : Stage → Bool
  | .layersRead | .delivering => true
  | .armed | .flipScheduled => false

/-! ## The bus -/

/-- A write the System Bus Port makes (log 8). -/
def State.busWrite (s : State) (addr : Nat) (bytes : List Byte) : State :=
  { s with bus := { s.bus with log := s.bus.log ++ [{ addr := addr, bytes := bytes }] } }

end Sys2Proof.Machine
end

