-- ==== Sys2Proof/Machine/Packets.lean ====
section
/-! DEFINITION. What a port puts on its link: type, sequence number, payload and check word of every packet (R97, R187,
R188), the TEST payload patterns (R175), and how long a packet occupies the link (R97). -/
namespace Sys2Proof.Machine

/-! ## TEST payloads (R175) -/

/-- One step of the PSEUDO-RANDOM generator: left 13, right 17, left 5, each exclusive-ORed in, 32 bits (R175). -/
def xorShift (v : Word) : Word :=
  let v := v ^^^ (v <<< 13)
  let v := v ^^^ (v >>> 17)
  v ^^^ (v <<< 5)

/-- `n` bytes of the PSEUDO-RANDOM pattern from a generator value (R175). -/
def randomBytes : Nat → Word → List Byte
  | 0, _ => []
  | n + 1, v => let v' := xorShift v; v'.truncate 8 :: randomBytes n v'

/-- The payload of TEST number `k` (R175). -/
def testPayload (p : Pattern) (length k : Nat) : List Byte :=
  match p with
  | .alternating => (List.range length).map (fun j => if j % 2 = 0 then 0x55 else 0xAA)
  | .counting => (List.range length).map (fun j => BitVec.ofNat 8 ((k + j) % 256))
  | .pseudoRandom => randomBytes length (BitVec.ofNat 32 k)

/-! ## Packets (R187) -/

/-- The type byte of a packet (R187). -/
def Packet.type : Packet → Byte
  | .beacon _ => 0x01
  | .offer _ _ _ => 0x02
  | .train _ _ _ _ _ _ _ => 0x03
  | .sync _ => 0x04
  | .test _ _ _ _ _ => 0x05
  | .sleepNotice => 0x06
  | .stripe _ _ _ => 0x10
  | .flip _ _ _ => 0x11
  | .discard _ _ => 0x12
  | .table _ _ => 0x13
  | .check _ _ => 0x14

/-- The sequence byte: the number of the five reliable types, 0 in every other (R187). -/
def Packet.seq : Packet → Byte
  | .stripe n _ _ => n
  | .flip n _ _ => n
  | .discard n _ => n
  | .table n _ => n
  | .check n _ => n
  | .beacon _ | .offer _ _ _ | .train _ _ _ _ _ _ _ | .sync _ | .test _ _ _ _ _ | .sleepNotice => 0

/-- The grades at or below a ceiling, as an abilities field (R79, R184). -/
def Grade.abilities : Grade → Nat
  | .l1 => 1 | .l2 => 3 | .l4 => 7

/-- The payload of a packet (R187, R188). The bytes its row does not list (TRAIN 3, TEST 3, STRIPE 10 and 11) are sent 0 by the
model's choice (log 65). -/
def Packet.payload : Packet → List Byte
  | .beacon p => le1 p.val
  | .offer ceiling seen p => le1 ceiling.abilities ++ le1 (bitsByte [seen]) ++ zeros 23 ++ le1 p.val ++ zeros 2
  | .train g locked blank bypass h width height =>
    le1 g.code ++ le1 (bitsByte [locked, blank, bypass]) ++
      le1 (match h with | some h => h.code | none => 0) ++ zeros 1 ++ le2 width ++ le2 height
  | .sync n => le4 n.toNat
  | .test k mode count payload _ => le2 k ++ [mode] ++ zeros 1 ++ le2 count ++ payload
  | .sleepNotice => []
  | .stripe _ id pixels => le8 id.epoch.toNat ++ le1 id.number ++ le1 id.lines ++ zeros 2 ++ pixels
  | .flip _ e f => le8 e.toNat ++ le4 f.toNat
  | .discard _ e => le8 e.toNat
  | .table _ t => le1 t.mode.code ++ le1 t.start ++ le2 t.values.length ++ t.values.flatMap (fun v => le2 v.toNat)
  | .check _ e => le8 e.toNat

/-- Header and payload (R187). -/
def Packet.body (k : Packet) : List Byte := [k.type, k.seq] ++ le4 k.payload.length ++ k.payload

/-- The check word: the CRC-32 of header and payload, exclusive-ORed with 1 in an injected TEST (R97, R175). -/
def Packet.checkWord (k : Packet) : Word :=
  match k with
  | .test _ _ _ _ true => crc32 k.body ^^^ 1
  | .test _ _ _ _ false | .beacon _ | .offer _ _ _ | .train _ _ _ _ _ _ _ | .sync _ | .sleepNotice
  | .stripe _ _ _ | .flip _ _ _ | .discard _ _ | .table _ _ | .check _ _ => crc32 k.body

/-- The bytes of a packet on the wire (R187). -/
def Packet.bytes (k : Packet) : List Byte := k.body ++ le4 k.checkWord.toNat

/-- ns a byte occupies at a grade: 8 bits at 1, 2 or 4 Gbit/s (R97). -/
def Grade.byteTime : Grade → Nat
  | .l1 => 8 | .l2 => 4 | .l4 => 2

/-- The grade a packet is sent at: bring-up packets at L1, others at the port's (R75). -/
def Packet.grade (k : Packet) (g : Grade) : Grade :=
  match k with
  | .beacon _ | .offer _ _ _ => .l1
  | .train _ _ _ _ _ _ _ | .sync _ | .test _ _ _ _ _ | .sleepNotice | .stripe _ _ _ | .flip _ _ _ | .discard _ _
  | .table _ _ | .check _ _ => g

/-- Bytes of a packet's payload (R187), without writing them out. -/
def Packet.payloadLength : Packet → Nat
  | .beacon _ => 1
  | .offer _ _ _ => 28
  | .train _ _ _ _ _ _ _ => 8
  | .sync _ => 4
  | .test _ _ _ payload _ => 6 + payload.length
  | .sleepNotice => 0
  | .stripe _ _ pixels => 12 + pixels.length
  | .flip _ _ _ => 12
  | .discard _ _ => 8
  | .table _ t => 4 + 2 * t.values.length
  | .check _ _ => 8

/-- The time a packet occupies the link: its length in bits over the rate of its grade (R97), in ns. -/
def Packet.duration (k : Packet) (g : Grade) : Nat := (10 + k.payloadLength) * (k.grade g).byteTime

/-- The slot time of a grade: 128 bytes (spec/06 section 6.6), in ns. -/
def Grade.slotTime (g : Grade) : Nat := 128 * g.byteTime

/-! ## Transmission (R97, R99) -/

/-- The port's transmitter begins a packet: it is counted in SENT when it begins (R97, R114). -/
def Port.begin (x : Port) (k : Packet) : Port :=
  { x with tx := some k, txTimer := some (k.duration x.grade), ctr := { x.ctr with sent := satInc x.ctr.sent } }

end Sys2Proof.Machine
end

