-- ==== Sys2Proof/Machine/Present.lean ====
section
/-! DEFINITION. The Present Controller's scene pipeline (spec/03 sections 3.4–3.6, spec/04): stopping delivery, dropping
participants, the arming rule, flip confirmation, unconfirmed tiles, completion, and the store report of an offer
exchange. -/
namespace Sys2Proof.Machine

/-! ## Back stores -/

/-- The epoch a back store holds, if it is not EMPTY. -/
def BackStore.epoch? : BackStore → Option Epoch
  | .empty => none
  | .loading e _ => some e
  | .armed e => some e
  | .scheduled e _ => some e

/-- Whether a back store holds epoch `e` in any non-EMPTY state. -/
def BackStore.holds (b : BackStore) (e : Epoch) : Bool := b.epoch? == some e

/-- Whether a back store is ARMED(e). -/
def BackStore.isArmed (b : BackStore) (e : Epoch) : Bool := b == .armed e

/-- Whether a back store is SCHEDULED(e, _). -/
def BackStore.isScheduled (b : BackStore) (e : Epoch) : Bool :=
  match b with
  | .scheduled e' _ => e' == e
  | .empty | .loading _ _ | .armed _ => false

/-- The acknowledged count a cursor is set back to (R36); a count above S was reported with a DISCARD under way, and
delivery then restarts at 0 (R45, log 36). -/
def BackStore.ackedCount (b : BackStore) (e : Epoch) (stripes : Nat) : Nat :=
  match b with
  | .loading e' n => if e' = e ∧ n ≤ stripes then n else 0
  | .armed e' => if e' = e then stripes else 0
  | .empty | .scheduled _ _ => 0

/-- The back store after stripe `number` of epoch `e` is acknowledged (R42). -/
def BackStore.afterAck (b : BackStore) (e : Epoch) (number stripes : Nat) : BackStore :=
  match b with
  | .loading e' n =>
    if e' = e ∧ n = number then
      (if n + 1 < stripes then .loading e (n + 1) else if n + 1 = stripes then .armed e else b)
    else b
  | .empty | .armed _ | .scheduled _ _ => b

/-- The back store after DISCARD(x) is acknowledged (R50). -/
def BackStore.afterDiscard (b : BackStore) (x : Epoch) : BackStore := if b.holds x then .empty else b

/-! ## Stopping delivery (R48, R49) -/

/-- A port's COMPOSING and READY buffers become FREE, and its queued STRIPEs go with them (R48, R100). -/
def Port.freeUnsent (x : Port) : Port :=
  let drop (b : BufId) (x : Port) : Port :=
    match x.buf b with
    | .composing _ | .ready _ => x.freeBuf b
    | .free | .sent _ => x
  (drop .second (drop .first x)).dropQueued Reliable.isStripe

/-- Both buffers become FREE, and the queued STRIPEs go with them (R35, R100). -/
def Port.flush (x : Port) : Port := ((x.freeBuf .first).freeBuf .second).dropQueued Reliable.isStripe

/-- The engine is free if it was composing into a buffer of port `p` (R39). -/
def State.releaseEngine (s : State) (p : PortId) : State :=
  match s.composer.engine with
  | .free => s
  | .scene _ q _ => if q = p then { s with composer := { s.composer with engine := .free } } else s
  | .verify _ q _ => if q = p then { s with composer := { s.composer with engine := .free } } else s

/-- The cursor of tile `t` is set. -/
def State.setCursor (s : State) (t : TileId) (n : Nat) : State :=
  s.modScene (fun r => { r with cursors := r.cursors.set t.val n })

/-- Port `p`'s buffers are flushed, and its participant's cursor is set back (R35, R36, R44). -/
def State.flushPort (s : State) (p : PortId) : State :=
  let s := (s.modPort p Port.flush).releaseEngine p
  match s.scene, s.tileOfPort p with
  | some r, some t =>
    if Mask.has r.participants t then s.setCursor t ((s.tile t).back.ackedCount r.epoch (s.stripesOf t)) else s
  | _, _ => s

/-- Tile `t`'s unsent buffers are freed and its composition is abandoned (R48). -/
def State.freeTile (s : State) (t : TileId) : State :=
  match (s.tile t).geom.port with
  | none => s
  | some p => (s.modPort p Port.freeUnsent).releaseEngine p

/-- Delivery to one participant stops (R48): its unsent buffers are freed, and DISCARD(e) is queued if its record is
LOADING or ARMED for the epoch. -/
def State.stopDelivery (s : State) (e : Epoch) (t : TileId) : State :=
  let s := s.freeTile t
  if (s.tile t).back.holds e && !(s.tile t).back.isScheduled e then s.queueDiscard t e else s

/-- What the end of a scene does at one participant (R49, R70, R71): delivery stops, a FLIP not yet transmitted is
removed, and DISCARD(e) is queued if the record holds e in any state. A FLIP that R107 put back has been transmitted;
its record is SCHEDULED and it stays (log 16). A FLIP that waits for a fresh target after row 2 of R65 is removed: its record
is ARMED, as before a first transmission (the model's choice, log 47). -/
def State.endAtTile (s : State) (e : Epoch) (t : TileId) : State :=
  let s := s.freeTile t
  let s :=
    match (s.tile t).geom.port with
    | none => s
    | some p => if (s.tile t).back.isScheduled e then s else s.modPort p (fun x => x.dropQueued (Reliable.isFlipOf e))
  if (s.tile t).back.holds e then s.queueDiscard t e else s

/-! ## Completing a scene -/

/-- The active layer table is emptied, the engine leaves the scene, and the result is handed over (R23, R67). -/
def State.completeScene (s : State) (res : Result) : State :=
  let s := s.completeFrame res
  let engine :=
    match s.composer.engine with
    | .scene _ _ _ => Engine.free
    | .free => .free
    | .verify t p b => .verify t p b
  { s with composer := { s.composer with active := none, engine := engine } }

/-- The result flags of a scene that ends with outcome `o`: a target completed WITHDRAWN writes them clear (R172, log 12). -/
def SceneRec.flagsFor (r : SceneRec) (o : JobOutcome) : ResultFlags := if o = .withdrawn then .clear else r.flags

/-- The detail of a scene that ends with outcome `o` (R69). -/
def SceneRec.detailFor (r : SceneRec) (o : JobOutcome) : List Byte :=
  let open_ := if o = .withdrawn ∨ o = .aborted then r.flipSet &&& ~~~r.confirmed else 0
  detailScene (r.target.getD 0) r.epoch r.dropped (r.unconfirmed ||| open_)

/-- The running scene ends early with this result: delivery stops at every participant, DISCARDs are queued (R49). -/
def State.endSceneWith (s : State) (r : SceneRec) (res : Result) : State :=
  ((idsOf r.participants).foldl (fun s t => s.endAtTile r.epoch t) s).completeScene res

/-- The running scene ends early with outcome `o` (R58, R70, R71). -/
def State.endSceneEarly (s : State) (o : JobOutcome) : State :=
  match s.scene with
  | none => s
  | some r => s.endSceneWith r { outcome := o, flags := r.flagsFor o, detail := r.detailFor o }

/-- The outcome of a scene whose flip set is settled (R67). -/
def SceneRec.outcome (r : SceneRec) : JobOutcome :=
  if r.confirmed = 0 then (if r.lastUnconf = some .limit then .deadline else .tileLost)
  else if r.dropped ≠ 0 ∨ r.unconfirmed ≠ 0 then .partialOk
  else if r.flags.retried then .recovered
  else .ok

/-- Whether every flip-set tile is confirmed or unconfirmed (R67). -/
def SceneRec.settled (r : SceneRec) : Bool := (r.flipSet &&& ~~~(r.confirmed ||| r.unconfirmed)) == 0

/-- Whether every flip-set tile has had its FLIP first transmitted or is settled (R59). -/
def SceneRec.allSent (r : SceneRec) : Bool := (r.flipSet &&& ~~~(r.flipSent ||| r.confirmed ||| r.unconfirmed)) == 0

/-- The completion rule (R67) and the FLIP_SCHEDULED rule (R59, R55), applied after an event of the flip. -/
def State.settleScene (s : State) : State :=
  match s.scene with
  | none => s
  | some r =>
    if r.stage.delivering? then s
    else if r.settled then s.completeScene { outcome := r.outcome, flags := r.flags, detail := r.detailFor r.outcome }
    else if r.stage = .armed ∧ r.allSent then
      (s.modScene (fun r => { r with stage := .flipScheduled })).writeProgress .flipScheduled
    else s

/-! ## Arming (R58, R59) -/

/-- The participants that are ARMED(e) and not dropped (R59, log 14). -/
def State.armedMask (s : State) (r : SceneRec) : Mask :=
  maskOf (fun t => Mask.has r.participants t && !Mask.has r.dropped t && (s.tile t).back.isArmed r.epoch)

/-- The scene reaches ARMED (R59): flip set, target frame, FLIPs queued, ARMED written. -/
def State.armScene (s : State) (r : SceneRec) : State :=
  let flipSet := s.armedMask r
  let target := s.ref.frameNumber + 2
  let s := s.modScene (fun r => { r with flipSet := flipSet, target := some target, deadline := 0, stage := .armed })
  let s := (idsOf flipSet).foldl (fun s t =>
    match (s.tile t).geom.port with
    | none => s
    | some p => s.modPort p (fun x => x.enqueue (.flip r.epoch target false))) s
  s.writeProgress .armed

/-- The arming rule (R58). -/
def State.armingRule (s : State) : State :=
  match s.scene with
  | none => s
  | some r =>
    if !r.stage.delivering? then s
    else
      let byDrop : JobOutcome := if r.lastDrop = some .deadline then .deadline else .tileLost
      let armed := s.armedMask r
      if r.requireAll ∧ r.dropped ≠ 0 then s.endSceneEarly byDrop
      else if r.participants &&& ~~~(armed ||| r.dropped) = 0 ∧ armed ≠ 0 then s.armScene r
      else if r.participants &&& ~~~r.dropped = 0 then s.endSceneEarly byDrop
      else s

/-- The participants of a mask that are not dropped yet are dropped together (R56, R57), and the arming rule is applied. -/
def State.dropTiles (s : State) (mask : Mask) (cause : DropCause) : State :=
  match s.scene with
  | none => s
  | some r =>
    let m := mask &&& r.participants &&& ~~~r.dropped
    if !r.stage.delivering? || m == 0 then s
    else
      let s := s.modScene (fun r => { r with dropped := r.dropped ||| m, lastDrop := some cause })
      ((idsOf m).foldl (fun s t => s.stopDelivery r.epoch t) s).armingRule

/-- The deadline expires (R57): every participant not dropped and not ARMED is dropped. -/
def State.expireDeadline (s : State) : State :=
  match s.scene with
  | none => s
  | some r =>
    let s := s.modScene (fun r => { r with deadline := 0 })
    s.dropTiles (r.participants &&& ~~~s.armedMask r) .deadline

/-! ## Flip confirmation (R61–R63, R74, R125) -/

/-- A pending generation becomes active at a confirmed flip (R125). -/
def Tile.activate (x : Tile) : Tile :=
  match x.pendingGen with
  | none => x
  | some g => { x with activeGen := g, pendingGen := none }

/-- Whether tile `t` is in the flip set of the running scene of epoch `e` and neither confirmed nor unconfirmed. -/
def SceneRec.awaits (r : SceneRec) (e : Epoch) (t : TileId) : Bool :=
  r.epoch == e && Mask.has r.flipSet t && !Mask.has r.confirmed t && !Mask.has r.unconfirmed t

/-- The presented epoch is raised to `x`, and the shown layer table is replaced (R33, R63): copied wherever the active table holds
`x`, also for a late confirmation while the scene still runs, where R74 says EMPTY (the model's choice, log 54). -/
def State.present (s : State) (x : Epoch) : State :=
  if s.presented < x then
    let shown :=
      match s.composer.active with
      | some tab => if tab.epoch = x then some tab else none
      | none => none
    { s with presented := x, composer := { s.composer with shown := shown } }
  else s

/-- The effects of a flip confirmation of epoch `x` for tile `t` (R63, R125), without the completion rule. -/
def State.confirmFlip (s : State) (t : TileId) (x : Epoch) : State :=
  let s := s.modTile t (fun r => { r.activate with front := x, back := .empty })
  let s :=
    match (s.tile t).geom.port with
    | none => s
    | some p => s.modPort p (fun y => y.dropQueued (Reliable.isFlipOf x))
  let s := s.modScene (fun r => if r.awaits x t then { r with confirmed := r.confirmed ||| bitOf t } else r)
  s.present x

/-- A FLIPPED or STATUS against tile `t` (R61, R62): a confirmation if the record is SCHEDULED(x, F) for its epoch; a
frame other than F sets SKEWED while the scene awaits the tile (R61, log 13). -/
def State.flipReport (s : State) (t : TileId) (x : Epoch) (frame : Option Word) : State :=
  match (s.tile t).back with
  | .scheduled e target =>
    if e = x then
      let skewed := match frame with | some n => n != target | none => false
      let s := s.modScene (fun r =>
        if r.awaits x t && skewed then { r with flags := { r.flags with skewed := true } } else r)
      (s.confirmFlip t x).settleScene
    else s
  | .empty | .loading _ _ | .armed _ => s

/-! ## Unconfirmed tiles (R66) -/

/-- Tile `t` becomes unconfirmed with a cause (R66), without the completion rule. -/
def State.unconfirm (s : State) (t : TileId) (cause : UnconfirmedCause) : State :=
  s.modScene (fun r => { r with unconfirmed := r.unconfirmed ||| bitOf t, lastUnconf := some cause })

/-- The target that a FLIP of epoch `e` carries. -/
def Reliable.flipTarget? (e : Epoch) : Reliable → Option Word
  | .flip e' f _ => if e' = e then some f else none
  | .stripe _ | .discard _ | .table _ _ _ | .check _ _ _ => none

/-- The target frame a flip-set tile's limit counts from (R66): the record's, else that of the FLIP waiting on its port
(log 17), else the scene's. -/
def State.limitTarget (s : State) (r : SceneRec) (t : TileId) : Word :=
  match (s.tile t).back with
  | .scheduled _ f => f
  | .empty | .loading _ _ | .armed _ =>
    let waiting :=
      match (s.tile t).geom.port with
      | none => none
      | some p => (s.port p).queue.findSome? (Reliable.flipTarget? r.epoch)
    waiting.getD (r.target.getD 0)

/-- The confirmation limit of tile `t` passes (R66): a FLIP not transmitted gives way to DISCARD(e); one that R107 put
back is removed. The FLIP of a tile that row 2 of R65 put back to ARMED counts as not transmitted (the model's choice,
log 46). -/
def State.passLimit (s : State) (r : SceneRec) (t : TileId) : State :=
  let s := s.unconfirm t .limit
  match (s.tile t).geom.port with
  | none => s
  | some p =>
    if (s.tile t).back.isScheduled r.epoch then s.modPort p (fun x => x.dropQueued (Reliable.isFlipOf r.epoch))
    else s.modPort p (fun x =>
      { x with queue := x.queue.map (fun k => if k.isFlipOf r.epoch then .discard r.epoch else k) })

/-- The confirmation limits at the frame start that has just been numbered (R66). -/
def State.checkLimits (s : State) : State :=
  match s.scene with
  | none => s
  | some r =>
    let due := allIds.filter (fun t => r.awaits r.epoch t && s.ref.frameNumber == s.limitTarget r t + 8)
    (due.foldl (fun s t => s.passLimit r t) s).settleScene

/-! ## A port that is given up (R56, R66, R6) -/

/-- A MAPPED tile with loss display BLANK whose link is gone shows its fallback picture (R6, R53). -/
def State.blankFront (s : State) (t : TileId) : State :=
  if s.isMapped t && (s.tile t).geom.loss == .blank then s.modTile t (fun x => { x with front := 0 }) else s

/-- The Present Controller is told that tile `t`'s port has entered LOST (R93): a participant is dropped, or a flip-set
tile becomes unconfirmed. -/
def State.lostTile (s : State) (t : TileId) : State :=
  let s := s.blankFront t
  match s.scene with
  | none => s
  | some r =>
    if r.stage.delivering? then s.dropTiles (bitOf t) .lost
    else if r.awaits r.epoch t then (s.unconfirm t .lost).settleScene
    else s

/-! ## The store report of a completed offer exchange (R45, R46, R53, R65, R73) -/

/-- The front epoch by R53 where the report is no confirmation: kept if it agrees, else 0. -/
def State.reportFront (s : State) (t : TileId) (f : Epoch) : State :=
  s.modTile t (fun x => if x.front = f then x else { x with front := 0 })

/-- The back store from a report that resumes nothing (R46, R73): EMPTY, or LOADING(b, n) with DISCARD(b) queued. -/
def State.reportBack (s : State) (t : TileId) (b : Epoch) (n : Nat) : State :=
  if b = 0 then s.modTile t (fun x => { x with back := .empty })
  else (s.modTile t (fun x => { x with back := .loading b n })).queueDiscard t b

/-- The front epoch or the confirmation of R53: a report whose front epoch is that of a SCHEDULED record confirms. -/
def State.reportFlip (s : State) (t : TileId) (f : Epoch) : State :=
  if (s.tile t).back.isScheduled f then s.confirmFlip t f else s.reportFront t f

/-- The back store and cursor of a participant still being delivered to (R45). -/
def State.resume (s : State) (r : SceneRec) (t : TileId) (b : Epoch) (n : Nat) : State :=
  let stripes := s.stripesOf t
  if b = 0 then (s.modTile t (fun x => { x with back := .empty })).setCursor t 0
  else if b = r.epoch ∧ n < stripes then (s.modTile t (fun x => { x with back := .loading b n })).setCursor t n
  else if b = r.epoch ∧ n = stripes then (s.modTile t (fun x => { x with back := .armed b })).setCursor t stripes
  else ((s.modTile t (fun x => { x with back := .loading b n })).setCursor t 0).queueDiscard t b

/-- FLIP(e) put on tile `t`'s queue to be re-sent with a fresh target, unless one waits there already (R65). -/
def State.requeueFlip (s : State) (t : TileId) (e : Epoch) (target : Word) : State :=
  match (s.tile t).geom.port with
  | none => s
  | some p =>
    s.modPort p (fun x => if x.queue.any (Reliable.isFlipOf e) then x else x.enqueue (.flip e target true))

/-- The last row of R65: the tile becomes unconfirmed, its waiting FLIP goes, and the report is one outside a scene. -/
def State.loseFlip (s : State) (r : SceneRec) (t : TileId) (f b : Epoch) (n : Nat) : State :=
  let s := (s.reportFlip t f).unconfirm t .lost
  let s :=
    match (s.tile t).geom.port with
    | none => s
    | some p => s.modPort p (fun x => x.dropQueued (Reliable.isFlipOf r.epoch))
  (s.reportBack t b n).settleScene

/-- The report of a flip-set tile that is neither confirmed nor unconfirmed (R65). A second exchange that finds the record
ARMED after row 2 leaves the waiting FLIP as it is, to be sent with a fresh target, where row 3 says that it names F (the
model's choice, log 45). -/
def State.relinkFlip (s : State) (r : SceneRec) (t : TileId) (f b : Epoch) (n : Nat) : State :=
  let whole := b = r.epoch ∧ n = s.stripesOf t
  match (s.tile t).back with
  | .scheduled e target =>
    if e = r.epoch ∧ f = e then ((s.confirmFlip t e).reportBack t b n).settleScene
    else if e = r.epoch ∧ whole then
      let s := (s.reportFront t f).modTile t (fun x => { x with back := .armed e })
      (s.requeueFlip t e target).modScene (fun r => { r with flags := { r.flags with retried := true } })
    else s.loseFlip r t f b n
  | .armed e => if e = r.epoch ∧ f ≠ e ∧ whole then s.reportFront t f else s.loseFlip r t f b n
  | .empty | .loading _ _ => s.loseFlip r t f b n

/-- The Present Controller takes the store report of tile `t` (R45, R46, R65, R73). -/
def State.storeReport (s : State) (t : TileId) (f b : Epoch) (n : Nat) : State :=
  match s.scene with
  | none => (s.reportFlip t f).reportBack t b n
  | some r =>
    if r.awaits r.epoch t then s.relinkFlip r t f b n
    else if Mask.has r.participants t && !Mask.has r.dropped t && r.stage.delivering? then
      ((s.reportFlip t f).resume r t b n).armingRule
    else (s.reportFlip t f).reportBack t b n

end Sys2Proof.Machine
end

