-- ==== Sys2Proof/Machine/Tables.lean ====
section
/-! DEFINITION. The correction-table logic (spec/07): TABLEs queued, acknowledged and skipped, the table report of an offer
exchange; and a VERIFY's targets (R179–R183). Both are told here when a target's port leaves them behind. -/
namespace Sys2Proof.Machine

/-! ## LUT_LOAD (R119–R124) -/

/-- The LUT_LOAD whose TABLEs are out, if one runs. -/
def State.lut (s : State) : Option LutRec :=
  match s.frameRun with
  | .lut r => some r
  | .idle | .started | .layers _ | .scene _ | .entries _ | .values _ | .verify _ | .listing _ _ => none

/-- The record of the running LUT_LOAD changed by `f`, from the fixing of its targets on: while it reads its values too
(R123). -/
def State.modLut (s : State) (f : LutRec → LutRec) : State :=
  match s.frameRun with
  | .values r => { s with frameRun := .values (f r) }
  | .lut r => { s with frameRun := .lut (f r) }
  | .idle | .started | .layers _ | .scene _ | .entries _ | .verify _ | .listing _ _ => s

/-- The outcome of R123. -/
def LutRec.outcome (r : LutRec) : JobOutcome :=
  if r.acked = 0 then .tileLost
  else if r.skipped ≠ 0 then .partialOk
  else if r.flags.retried then .recovered
  else .ok

/-- A LUT_LOAD with no target outstanding completes (R121, R123). -/
def State.settleLut (s : State) : State :=
  match s.lut with
  | none => s
  | some r =>
    if r.outstanding = 0 then
      s.completeFrame { outcome := r.outcome, flags := r.flags, detail := detailMasks r.acked r.skipped r.cleared }
    else s

/-- The queued packets that `f` names leave tile `t`'s port: their owner removes them (R100). -/
def State.dropQueuedOf (s : State) (t : TileId) (f : Reliable → Bool) : State :=
  match (s.tile t).geom.port with
  | none => s
  | some p => s.modPort p (fun x => x.dropQueued f)

/-- An outstanding target is skipped: its port has entered LISTEN, OFFER, LOST or OFF (R123). -/
def State.lutSkip (s : State) (t : TileId) : State :=
  match s.lut with
  | none => s
  | some r =>
    if Mask.has r.outstanding t then
      ((s.modLut (fun r => { r with outstanding := r.outstanding &&& ~~~bitOf t, skipped := r.skipped ||| bitOf t })
        ).dropQueuedOf t (Reliable.isTableOf r.serial)).settleLut
    else s

/-- Whether a TABLE loads everything: mode ALL, start 0, count 256 (R122, R127). -/
def TableLoad.full (l : TableLoad) : Bool := l.mode == .all && l.start == 0 && l.values.length == 256

/-- A record after a TABLE of its tile is acknowledged (R122). -/
def Tile.tableAcked (x : Tile) (l : TableLoad) : Tile :=
  { x with
    pendingGen := some (match x.pendingGen with | none => x.activeGen + 1 | some g => g)
    stale := if l.full then false else x.stale }

/-- A TABLE of tile `t` is acknowledged (R122); a full load's targets form the cleared mask (section 7.6, log 37). -/
def State.ackTable (s : State) (t : TileId) (l : TableLoad) (serial : Nat) : State :=
  let s := s.modTile t (fun x => x.tableAcked l)
  match s.lut with
  | none => s
  | some r =>
    if r.serial = serial ∧ Mask.has r.outstanding t then
      (s.modLut (fun r => { r with
        outstanding := r.outstanding &&& ~~~bitOf t
        acked := r.acked ||| bitOf t
        cleared := if l.full then r.cleared ||| bitOf t else r.cleared })).settleLut
    else s

/-- Whether a back store is SCHEDULED. -/
def BackStore.scheduled? : BackStore → Bool
  | .scheduled _ _ => true
  | .empty | .loading _ _ | .armed _ => false

/-- Whether a target gets a TABLE (R121): its port is UP and its back store is not SCHEDULED. -/
def State.tableReady (s : State) (t : TileId) : Bool :=
  match (s.tile t).geom.port with
  | none => false
  | some p => (s.port p).link == .up && !(s.tile t).back.scheduled?

/-- A packet handed to tile `t`'s port. -/
def State.handPacket (s : State) (t : TileId) (k : Reliable) : State :=
  match (s.tile t).geom.port with
  | none => s
  | some p => s.modPort p (fun x => x.enqueue k)

/-- Every value has been read: one TABLE to each target that is ready, in tile id order; the others are skipped (R121). -/
def State.queueTables (s : State) (r : LutRec) : State :=
  let ready := maskOf (fun t => Mask.has r.targets t && s.tableReady t)
  let load : TableLoad := { mode := r.mode, start := r.start, values := r.values }
  let s := { s with frameRun := .lut { r with outstanding := ready, skipped := r.targets &&& ~~~ready } }
  (s.forEach (idsOf ready) (fun t s => s.handPacket t (.table load r.serial false))).settleLut

/-- The table report of a completed offer exchange (R126). -/
def Tile.tableReport (x : Tile) (a : Half) (flag : Bool) : Tile :=
  if a = x.activeGen ∧ flag = x.pendingGen.isSome then x
  else if some a = x.pendingGen ∧ flag = false ∧ x.back.scheduled? = true then x
  else { x with activeGen := a, pendingGen := none, stale := true }

/-! ## VERIFY (R179–R183) -/

/-- The VERIFY that waits for reports or recomposes, if one runs. -/
def State.verify (s : State) : Option VerifyRec :=
  match s.frameRun with
  | .verify r => some r
  | .idle | .started | .layers _ | .scene _ | .entries _ | .values _ | .lut _ | .listing _ _ => none

/-- The record of the running VERIFY changed by `f`, while it writes its list too. -/
def State.modVerify (s : State) (f : VerifyRec → VerifyRec) : State :=
  match s.frameRun with
  | .verify r => { s with frameRun := .verify (f r) }
  | .listing r n => { s with frameRun := .listing (f r) n }
  | .idle | .started | .layers _ | .scene _ | .entries _ | .values _ | .lut _ => s

/-- The outcome of R182. -/
def VerifyRec.outcome (r : VerifyRec) : JobOutcome :=
  if r.checked = 0 then .tileLost
  else if r.unchecked ≠ 0 then .partialOk
  else if r.flags.retried then .recovered
  else .ok

/-- The mismatches in the order of R182: by the tile's position in the service order, then by stripe. -/
def VerifyRec.sorted (r : VerifyRec) (order : List TileId) : List (TileId × Nat) :=
  order.flatMap (fun t => (r.mismatches.filter (fun m => m.1 == t)).insertionSort (fun a b => a.2 ≤ b.2))

/-- The mismatched mask (R182). -/
def VerifyRec.mismatched (r : VerifyRec) : Mask := maskOf (fun t => r.mismatches.any (fun m => m.1 == t))

/-- How many entries the list gets (R182). -/
def VerifyRec.entries (r : VerifyRec) : Nat := min r.mismatches.length Config.mismatchEntries

/-- The result of a VERIFY whose list, if any, has been written (R182). -/
def VerifyRec.result (r : VerifyRec) : Result :=
  { outcome := r.outcome, flags := r.flags,
    detail := detailVerify r.checked r.unchecked r.mismatched r.mismatches.length r.entries
      (decide (r.mismatches.length > Config.mismatchEntries)) }

/-- A VERIFY with every target checked or UNCHECKED writes its list, or completes if it found no mismatch (R182). -/
def State.settleVerify (s : State) : State :=
  match s.verify with
  | none => s
  | some r =>
    if r.outstanding = 0 ∧ r.reports = [] then
      (if r.mismatches = [] then s.completeFrame r.result else { s with frameRun := .listing r 0 })
    else s

/-- An outstanding target whose port has entered LISTEN, OFFER, LOST or OFF becomes UNCHECKED (R180). -/
def State.verifyMiss (s : State) (t : TileId) : State :=
  match s.verify with
  | none => s
  | some r =>
    if Mask.has r.outstanding t then
      ((s.modVerify (fun r => { r with outstanding := r.outstanding &&& ~~~bitOf t, unchecked := r.unchecked ||| bitOf t })
        ).dropQueuedOf t (Reliable.isCheckOf r.serial)).settleVerify
    else s

/-- Whether a target is sent a CHECK (R179): the shown table holds its front epoch and its port is UP. -/
def State.checkReady (s : State) (t : TileId) : Bool :=
  match s.composer.shown, (s.tile t).geom.port with
  | some tab, some p => (s.port p).link == .up && (s.tile t).front == tab.epoch
  | _, _ => false

/-- The targets of a VERIFY are judged in one step (R179). -/
def State.queueChecks (s : State) (list : Word) (targets : Mask) : State :=
  let ready := maskOf (fun t => Mask.has targets t && s.checkReady t)
  let epoch := match s.composer.shown with | some tab => tab.epoch | none => 0
  let r : VerifyRec :=
    { serial := s.serial + 1, list := list, table := s.composer.shown, targets := targets, outstanding := ready, reports := [],
      stripe := 0, checked := 0, unchecked := targets &&& ~~~ready, mismatches := [], flags := .clear }
  let s := { s with serial := s.serial + 1, frameRun := .verify r }
  (s.forEach (idsOf ready) (fun t s => s.handPacket t (.check epoch r.serial false))).settleVerify

/-- The epoch a VERIFY compares with. -/
def VerifyRec.epoch (r : VerifyRec) : Epoch :=
  match r.table with
  | some tab => tab.epoch
  | none => 0

/-- A CHECK_REPORT of tile `t` is taken (R180). -/
def State.takeReport (s : State) (t : TileId) (epoch : Epoch) (crcs : List Word) : State :=
  match s.verify with
  | none => s
  | some r =>
    if Mask.has r.outstanding t then
      let good := epoch == r.epoch && crcs.length == s.stripesOf t
      let s := s.modVerify (fun r =>
        if good then { r with outstanding := r.outstanding &&& ~~~bitOf t, reports := r.reports ++ [{ tile := t, crcs := crcs }] }
        else { r with outstanding := r.outstanding &&& ~~~bitOf t, unchecked := r.unchecked ||| bitOf t })
      s.settleVerify
    else s

/-! ## What the ports tell the jobs -/

/-- Tile `t`'s port has entered LISTEN, OFFER, LOST or OFF (R123, R180). -/
def State.leaveTargets (s : State) (t : TileId) : State := (s.lutSkip t).verifyMiss t

/-- The same for the tile that port `p` serves. -/
def State.portLeft (s : State) (p : PortId) : State :=
  match s.tileOfPort p with
  | none => s
  | some t => s.leaveTargets t

/-- RETRIED set in result flags. -/
def ResultFlags.retry (f : ResultFlags) : ResultFlags := { f with retried := true }
/-- DOWNSHIFTED set in result flags. -/
def ResultFlags.downshift (f : ResultFlags) : ResultFlags := { f with downshifted := true }

/-- Packet `k` is resent, or re-queued at an exit from UP: RETRIED of the LUT_LOAD whose TABLE it is (R123, log 38). -/
def State.noteTable (s : State) (k : Reliable) : State :=
  s.modLut (fun r => if k.isTableOf r.serial then { r with flags := r.flags.retry } else r)

/-- Packet `k` is resent by the stream: RETRIED of the VERIFY whose CHECK it is (R180). -/
def State.noteCheck (s : State) (k : Reliable) : State :=
  s.modVerify (fun r => if k.isCheckOf r.serial then { r with flags := r.flags.retry } else r)

/-- A retransmission of `k` is counted on port `p`: RETRIED of the running scene if its tile is a participant (R68), or of
the job whose packet it is. -/
def State.noteResent (s : State) (p : PortId) (k : Reliable) : State :=
  let s :=
    match s.tileOfPort p with
    | none => s
    | some t => s.modScene (fun r => if Mask.has r.participants t then { r with flags := r.flags.retry } else r)
  (s.noteTable k).noteCheck k

/-- Port `p` steps down one grade: DOWNSHIFTED of the running scene, LUT_LOAD or VERIFY (R68, R84, R123, R180). -/
def State.noteDownshift (s : State) (p : PortId) : State :=
  match s.tileOfPort p with
  | none => s
  | some t =>
    let s := s.modScene (fun r => if Mask.has r.participants t then { r with flags := r.flags.downshift } else r)
    let s := s.modLut (fun r => if Mask.has r.targets t then { r with flags := r.flags.downshift } else r)
    s.modVerify (fun r => if Mask.has r.targets t then { r with flags := r.flags.downshift } else r)

end Sys2Proof.Machine
end

