-- ==== Sys2Proof/Machine/Links.lean ====
section
/-! DEFINITION. The link state of a port (spec/05): every entry into and exit from a state, the offer exchange, training,
downshift, LOST, and what RECOVER, TILE_MAP and a ceiling change do to a port. -/
namespace Sys2Proof.Machine

/-! ## Policy limits in ns (R166) -/

/-- The silence limit. -/
def Policy.silence (p : Policy) : Nat := p.silenceMs * 1000000
/-- The ack timeout. -/
def Policy.ack (p : Policy) : Nat := p.ackUs * 1000
/-- The train timeout. -/
def Policy.train (p : Policy) : Nat := p.trainUs * 1000

/-! ## Parts of a port's state -/

/-- Every limit of the port stops (R77, R93, R95, R96). -/
def Port.stopTimers (x : Port) : Port :=
  { x with beaconTimer := none, offerRepeat := none, offerTimer := none, trainTimer := none, silenceTimer := none,
           ackTimer := none, holdTimer := none }

/-- Nothing is due on the port. -/
def Port.clearDue (x : Port) : Port :=
  { x with beaconDue := false, offersDue := 0, syncDue := none, noticeDue := false }

/-- A packet that goes back to the waiting queue: a FLIP takes a fresh target at its next transmission (R64, R107), and a
TABLE or CHECK is marked as transmitted before (R124, R183). -/
def Reliable.requeued : Reliable → Reliable
  | .flip e f _ => .flip e f true
  | .stripe b => .stripe b
  | .discard e => .discard e
  | .table l n _ => .table l n true
  | .check e n _ => .check e n true

/-- The packets of the window that go back to the queue: all but the STRIPEs, in sequence order (R107). -/
def Port.requeue (x : Port) : List Reliable :=
  ((x.window.map Outstanding.packet).filter (fun k => !k.isStripe)).map Reliable.requeued

/-- What the stream does at an exit from UP (R107): ack timer, hold, answered point, runs, due SYNC, and the window, whose
packets go to the head of the queue. -/
def Port.clearStream (x : Port) : Port :=
  { x with ackTimer := none, holdTimer := none, answered := none, run := [], recorded := false, syncDue := none,
           noticeDue := false, window := [], queue := x.requeue ++ x.queue }

/-! ## LINK_TEST ends (R178) -/

/-- A LINK_TEST's counts (R178, R185). -/
def LinkTest.detail (k : LinkTest) : List Byte := detailTest k.sent k.good k.bad k.mismatch k.lost k.injected

/-- The LINK_TEST in flight on port `p`, if any, ends with this outcome and detail; its timers stop and a due TEST is
discarded (R178). -/
def State.endTestWith (s : State) (p : PortId) (o : JobOutcome) (detail : LinkTest → List Byte) : State :=
  match (s.port p).test with
  | none => s
  | some k => (s.modPort p (fun x => { x with test := none })).hand k.job (plainResult o (detail k))

/-- It ends with its counts as they stand. -/
def State.endTest (s : State) (p : PortId) (o : JobOutcome) : State := s.endTestWith p o LinkTest.detail

/-! ## Leaving UP (R88, R107) -/

/-- Port `p` leaves UP, by any path (R88, R107, R178, R44); a TABLE re-queued sets RETRIED of its job (R123). The caller
enters the next state. -/
def State.exitUp (s : State) (p : PortId) : State :=
  let packets := (s.port p).requeue
  let s := s.raiseTile
  let s := s.modPort p (fun x => { x.clearStream with silenceTimer := none, stability := 0 })
  let s := packets.foldl State.noteTable s
  (s.flushPort p).endTest p .tileLost

/-- Port `p` has left UP: where it has entered TRAIN, RETRIED of the VERIFY that has its tile outstanding is set, wherever the
CHECK stands (R180). -/
def State.noteRetrain (s : State) (p : PortId) : State :=
  if (s.port p).link = .train then
    match s.tileOfPort p with
    | none => s
    | some t => s.modVerify (fun r => if Mask.has r.outstanding t then { r with flags := r.flags.retry } else r)
  else s

/-! ## Entering a state -/

/-- Port `p` enters LISTEN: a BEACON is due at once and then every 1 ms (R78). -/
def State.enterListen (s : State) (p : PortId) : State :=
  (s.modPort p (fun x => { x.stopTimers.clearDue with
      link := .listen, lostCause := none, offer := none, beaconTimer := some Config.repeatInterval,
      beaconDue := true })).portLeft p

/-- Port `p` enters OFFER: the offer timer starts, the offer record is cleared, an OFFER is due (R79). -/
def State.enterOffer (s : State) (p : PortId) : State :=
  (s.modPort p (fun x => { x.stopTimers.clearDue with
      link := .offer, offer := none, offeredCeiling := s.policy.ceiling, tileSeen := false, seenSent := false,
      offerTimer := some Config.offerLimit, offerRepeat := some Config.repeatInterval, offersDue := 1 })).portLeft p

/-- A training attempt begins on port `p` at a grade (R83). That an OFFER which R79 still owes when the exchange ends is not sent
is the model's choice (log 59; the same in `enterLost`). -/
def State.beginAttempt (s : State) (p : PortId) (g : Grade) : State :=
  s.modPort p (fun x => { x.stopTimers.clearDue with
    link := .train, grade := g, lockCount := 0, locked := false, trainTimer := some s.policy.train })

/-- Port `p` reaches mutual lock and enters UP (R83, R86, R108). -/
def State.enterUp (s : State) (p : PortId) (expected : Byte) : State :=
  (s.modPort p (fun x => { x.stopTimers.clearDue with
    link := .up, nextSeq := expected, silenceTimer := some s.policy.silence, stability := 0 })).raiseTile

/-- Port `p` enters LOST (R93). From UP, `exitUp` has been taken first. That the offer record, kept in TRAIN and UP, is discarded
here is the model's choice (log 60; R82 and R93 do not say). -/
def State.enterLost (s : State) (p : PortId) (c : LostCause) : State :=
  let s := s.raiseTile
  let s := s.modPort p (fun x => { x.stopTimers.clearDue with
    link := .lost, lostCause := some c, offer := none, lockCount := 0, locked := false, window := [], queue := [] })
  let s := (s.flushPort p).portLeft p
  match s.tileOfPort p with
  | none => s
  | some t => s.lostTile t

/-- Port `p` goes OFF (R77). -/
def State.goOff (s : State) (p : PortId) : State :=
  let s := s.modPort p (fun x => { x.stopTimers.clearDue with
    link := .off, lostCause := none, offer := none, window := [], queue := [] })
  (s.flushPort p).portLeft p

/-! ## Grades (R81, R84, R92) -/

/-- Whether a grade and every lower one is in an abilities field (R81). -/
def Grade.offeredBy (g : Grade) (abilities : BitVec 3) : Bool :=
  match g with
  | .l1 => abilities.getLsbD 0
  | .l2 => abilities.getLsbD 0 && abilities.getLsbD 1
  | .l4 => abilities.getLsbD 0 && abilities.getLsbD 1 && abilities.getLsbD 2

/-- Whether a grade is at or below a ceiling. -/
def Grade.under (g ceiling : Grade) : Bool := decide (g.code ≤ ceiling.code)

/-- The highest usable grade under a ceiling (R81). -/
def usableGrade (abilities : BitVec 3) (ceiling : Grade) : Option Grade :=
  [Grade.l4, .l2, .l1].find? (fun g => g.offeredBy abilities && g.under ceiling)

/-- The grade one step down (R84). -/
def Grade.down : Grade → Option Grade
  | .l4 => some .l2
  | .l2 => some .l1
  | .l1 => none

/-- The lower of two ceilings. -/
def Grade.lower (a b : Grade) : Grade := if a.under b then a else b

/-! ## Failed attempts, exhaustion, downshift (R84, R90) -/

/-- The attempt counter is raised on port `p`, which then trains again, steps down or is given up (R84). -/
def State.countFailure (s : State) (p : PortId) : State :=
  let n := (s.port p).attempts + 1
  let s := s.modPort p (fun x => { x with attempts := n })
  if n < s.policy.downshift then s.beginAttempt p (s.port p).grade
  else
    match (s.port p).grade.down with
    | none => s.enterLost p .trainExhausted
    | some g =>
      let s := s.modPort p (fun x => { x with
        attempts := 0
        ind := { x.ind with downshifted := true }
        ctr := { x.ctr with downshifts := satInc x.ctr.downshifts } })
      (s.noteDownshift p).beginAttempt p g

/-- RETRAINS is raised by one (R90, R92, R114). -/
def Port.countRetrain (x : Port) : Port := { x with ctr := { x.ctr with retrains := satInc x.ctr.retrains } }

/-- A retry exhaustion on port `p` (R90, R107). -/
def State.exhaust (s : State) (p : PortId) : State :=
  (((s.modPort p Port.countRetrain).exitUp p).countFailure p).noteRetrain p

/-! ## The offer exchange (R79–R82) -/

/-- Two offers agree in every field but SEEN (R80, R188). -/
def sameOffer (a b : TileOffer) : Bool := { a with seen := b.seen } == b

/-- A well-formed tile OFFER has a supported size and a stripe count of at most 128 (R80). -/
def offerWellFormed (o : TileOffer) : Bool := o.width != 0 && o.height != 0 && decide (o.count.toNat ≤ 128)

/-- The exchange is restarted (R80). -/
def State.restartOffer (s : State) (p : PortId) : State :=
  (s.modPort p (fun x => { x with ind := { x.ind with offerRestarted := true } })).enterListen p

/-- Port `p`'s tile has reported its stores and its tables (R82, R126). That of the two reports of one exchange that of the stores
is taken first is the model's choice (log 61). -/
def State.takeReports (s : State) (p : PortId) (o : TileOffer) : State :=
  match s.tileOfPort p with
  | none => s
  | some t =>
    (s.storeReport t o.front o.back o.count.toNat).modTile t (fun x => x.tableReport o.activeGen o.pendingTable)

/-- The supported size covers the record's (R81). -/
def State.sizeFits (s : State) (p : PortId) (o : TileOffer) : Bool :=
  match s.tileOfPort p with
  | none => true
  | some t => decide ((s.tile t).geom.width ≤ o.width.toNat) && decide ((s.tile t).geom.height ≤ o.height.toNat)

/-- The exchange with offer record `o` ends: the capability check (R81), then LOST or the completed exchange (R82). -/
def State.endExchange (s : State) (p : PortId) (o : TileOffer) : State :=
  match s.sizeFits p o, usableGrade o.abilities ((s.port p).offeredCeiling.lower s.policy.ceiling) with
  | true, some g =>
    let s := s.modPort p (fun x => { x.dropQueued Reliable.isDiscard with
      identity := { abilities := o.abilities, model := o.model, width := o.width, height := o.height }
      nextSeq := 0, offerTimer := none })
    (s.takeReports p o).beginAttempt p g
  | true, none => s.enterLost p .mismatch
  | false, _ => s.enterLost p .mismatch

/-- The exchange ends once the tile has said SEEN and the port has sent SEEN (R79). -/
def State.checkExchange (s : State) (p : PortId) : State :=
  match (s.port p).offer with
  | none => s
  | some o => if (s.port p).link == .offer && (s.port p).tileSeen && (s.port p).seenSent then s.endExchange p o else s

/-- A tile OFFER taken in OFFER (R79, R80). -/
def State.takeOffer (s : State) (p : PortId) (o : Option TileOffer) : State :=
  match o with
  | none => s.restartOffer p
  | some o =>
    let x := s.port p
    if !offerWellFormed o || (match x.offer with | some r => !sameOffer o r | none => false) then s.restartOffer p
    else
      (s.modPort p (fun x => { x with
        offer := some (x.offer.getD o), tileSeen := x.tileSeen || o.seen, offersDue := x.offersDue + 1 })).checkExchange p

/-! ## Requests to a port (R13, R92, R94, R95) -/

/-- Whether the controller is in SLEEP. -/
def State.asleep (s : State) : Bool := s.power.state == .sleep

/-- Whether port `p` is named by a MAPPED record. -/
def State.portMapped (s : State) (p : PortId) : Bool :=
  match s.tileOfPort p with
  | none => false
  | some t => s.isMapped t

/-- Port `p` leaves UP if it is UP, and raises TILE if it is LOST (R88, R94, R95). -/
def State.leaveForRequest (s : State) (p : PortId) : State :=
  match (s.port p).link with
  | .up => s.exitUp p
  | .lost => s.raiseTile
  | .off | .listen | .offer | .train => s

/-- A TILE_MAP restart of port `p` (R13, R95), under the new map. -/
def State.restartPort (s : State) (p : PortId) : State :=
  let s := (s.leaveForRequest p).goOff p
  let s := s.modPort p (fun x => { x with
    tally := 0, attempts := 0, stability := 0, ind := .clear, grade := s.policy.ceiling })
  if s.portMapped p && !s.asleep then s.enterListen p else s

/-- A RECOVER of port `p` (R94). -/
def State.recoverPort (s : State) (p : PortId) : State :=
  let s := s.leaveForRequest p
  let s := s.modPort p (fun x => { x.clearStream with
    tally := 0, attempts := 0, stability := 0, grade := s.policy.ceiling })
  if s.asleep then s.goOff p else (s.flushPort p).enterListen p

/-- A ceiling that has just been written is applied to port `p` (R92). -/
def State.applyCeiling (s : State) (p : PortId) : State :=
  let x := s.port p
  if x.grade.under s.policy.ceiling then s
  else
    let g := (usableGrade x.identity.abilities s.policy.ceiling).getD .l1
    match x.link with
    | .train => (s.modPort p (fun x => { x with attempts := 0 })).beginAttempt p g
    | .up =>
      (((s.modPort p (fun x => { x.countRetrain with attempts := 0 })).exitUp p).beginAttempt p g).noteRetrain p
    | .off | .listen | .offer | .lost => s

/-- Whether the ceiling takes port `p` out of UP or abandons its attempt (R92, R167). -/
def State.retrained (s : State) (ceiling : Grade) (p : PortId) : Bool :=
  let x := s.port p
  !x.grade.under ceiling && (x.link == .train || x.link == .up)

/-- The silence timer of port `p` expires (R89, R6). -/
def State.fallSilent (s : State) (p : PortId) : State :=
  let s := s.modPort p (fun x => { x with ind := { x.ind with syncLost := true } })
  let s := (s.exitUp p).enterListen p
  match s.tileOfPort p with
  | none => s
  | some t => s.blankFront t

/-- A valid tile packet of the stream restarts the silence timer (R86, R111). -/
def State.heard (s : State) (p : PortId) : State :=
  s.modPort p (fun x => { x with silenceTimer := some s.policy.silence })

end Sys2Proof.Machine
end

