-- ==== Sys2Proof/Machine/Halt.lean ====
section
/-! DEFINITION. What ends picture work: a halt (R162), the entry into STANDBY and SLEEP (R141, R142), the wake from SLEEP
(R143). -/
namespace Sys2Proof.Machine

/-! ## The running frame job ends ABORTED (R24, R71, R124, R14, R183) -/

/-- The queued packets that `f` names leave every port. -/
def State.dropQueuedAll (s : State) (f : Reliable → Bool) : State :=
  s.forEach allIds (fun p s => s.modPort p (fun x => x.dropQueued f))

/-- An ABORTED LUT_LOAD (R124): every target neither acknowledged nor skipped stands in its skipped mask. -/
def LutRec.aborted (r : LutRec) : Result :=
  { outcome := .aborted, flags := r.flags, detail := detailMasks r.acked (r.targets &&& ~~~r.acked) r.cleared }

/-- An ABORTED VERIFY (R183): the checked mask as it stood, every other target UNCHECKED, no counts. The mismatched mask, which
R183 does not name, is 0 as the counts are (the model's choice, log 22). -/
def VerifyRec.aborted (r : VerifyRec) : Result :=
  { outcome := .aborted, flags := r.flags, detail := detailVerify r.checked (r.targets &&& ~~~r.checked) 0 0 0 false }

/-- A VERIFY stops: its queued CHECKs that `f` names go, its recomposition is abandoned and the buffer is freed (R181,
R183). -/
def State.stopVerify (s : State) (f : Reliable → Bool) : State :=
  let s := s.dropQueuedAll f
  match s.composer.engine with
  | .verify _ p b => { s.modPort p (fun x => x.freeBuf b) with composer := { s.composer with engine := .free } }
  | .free | .scene _ _ _ => s

/-- The running frame job ends ABORTED, by a halt or an entry into STANDBY or SLEEP. A TABLE or CHECK that has been
transmitted stays, also where it waits again (R124, R183, log 51). -/
def State.abortFrameJob (s : State) : State :=
  match s.frameRun with
  | .idle => s
  | .started => s.completeFrame (plainResult .aborted detailZero)
  | .layers _ => s.completeFrame (plainResult .aborted detailZero)
  | .entries _ => s.completeFrame (plainResult .aborted detailZero)
  | .scene _ => s.endSceneEarly .aborted
  | .values r => s.completeFrame r.aborted
  | .lut r => (s.dropQueuedAll (Reliable.isUnsentTableOf r.serial)).completeFrame r.aborted
  | .verify r => (s.stopVerify (Reliable.isUnsentCheckOf r.serial)).completeFrame r.aborted
  | .listing r _ => (s.stopVerify (Reliable.isUnsentCheckOf r.serial)).completeFrame r.aborted

/-- The Composer stops: every COMPOSING or READY buffer becomes FREE (R52). -/
def State.stopComposer (s : State) : State :=
  let s := s.forEach allIds (fun p s => s.modPort p Port.freeUnsent)
  { s with composer := { s.composer with engine := .free } }

/-- Picture work stops: the running frame job ends, the WAITING ones complete with `o`, the Composer stops. -/
def State.stopWork (s : State) (o : JobOutcome) : State := (s.abortFrameJob.endWaitingFrame o).stopComposer

/-! ## HALTED (R162) -/

/-- A fault halts the controller; while HALTED it only raises the HALT cause again (R162). -/
def State.halt (s : State) (c : HaltCause) : State :=
  match s.halted with
  | some _ => s.raiseHalt
  | none => { s with halted := some c }.raiseHalt.stopWork .rejected

/-! ## The Frame Reference and its switch (R133, R136) -/

/-- A switch ends with outcome `o` (R136, R138): the record goes, a start-up switch raises REFERENCE however it ends (R147,
log 50), a requesting job gets its result and may set the reference lock. The lock count stays after a lock (log 23). -/
def State.endSwitch (s : State) (o : JobOutcome) : State :=
  match s.ref.switch with
  | none => s
  | some w =>
    let count := match w.target with | .extern => s.ref.lockCount | .intern => 0
    let s := { s with ref := { s.ref with
      switch := none, lockTimer := none, sincePulse := none, lockCount := if o = JobOutcome.ok then s.ref.lockCount else 0 } }
    match w.job with
    | none => s.raiseReference
    | some a =>
      let lock := match s.findJob a with | some j => j.bit 17 0 | none => false
      let s := if o = .ok ∧ lock = true then { s with ref := { s.ref with lock := true } } else s
      s.hand a (plainResult o (detailReference s.ref count))

/-- The Frame Reference enters STOPPED: its timers stop, a pending switch is cancelled (R142); a stall it leaves raises
REFERENCE (R147, log 50). -/
def State.stopReference (s : State) : State :=
  let s := if s.ref.state = .stalled then s.raiseReference else s
  let s := { s with ref := { s.ref with state := .stopped, frameTimer := none, lossTimer := none } }
  let s := s.endSwitch .aborted
  { s with ref := { s.ref with lockCount := 0, lockTimer := none, sincePulse := none } }

/-! ## STANDBY and SLEEP (R141–R143) -/

/-- The running POWER completes OK with the power state before and after it (R140). -/
def State.completePower (s : State) (before after : PowerState) : State :=
  match s.controlRun with
  | .power => s.completeControl (plainResult .ok (detailPower before after))
  | .idle | .started | .sense _ _ _ _ => s

/-- Entry into STANDBY (R141). -/
def State.enterStandby (s : State) : State :=
  let before := s.power.state
  let s := s.stopWork .notRunning
  { s with power := { s.power with state := .standby } }.completePower before .standby

/-- A port that is neither UP nor LOST goes OFF for SLEEP (R142, R95). -/
def State.sleepPort (s : State) (p : PortId) : State :=
  match (s.port p).link with
  | .listen => s.goOff p
  | .offer => s.goOff p
  | .train => s.goOff p
  | .off | .up | .lost => s

/-- While SLEEP is being entered, every port that is no longer UP goes OFF (log 27). -/
def State.sleepPorts (s : State) : State :=
  if s.power.phase = .enteringSleep then s.forEach allIds (fun p s => s.sleepPort p) else s

/-- SLEEP is reached once every port is OFF or LOST (R142). -/
def State.settleSleep (s : State) : State :=
  if s.power.phase = .enteringSleep ∧ allIds.all (fun p => (s.port p).link == .off || (s.port p).link == .lost) = true then
    { s with power := { s.power with state := .sleep, phase := .steady } }.completePower s.power.before .sleep
  else s

/-- A SLEEP_NOTICE falls due on an UP port (R142, R99). -/
def Port.dueNotice (x : Port) : Port := if x.link = .up then { x with noticeDue := true } else x

/-- Entry into SLEEP (R142): picture work stops, LINK_TESTs end ABORTED, ports are told, the reference stops. -/
def State.enterSleep (s : State) : State :=
  let s := s.stopWork .notRunning
  let s := { s with power := { s.power with phase := .enteringSleep, before := s.power.state } }
  let s := s.forEach allIds (fun p s => (s.endTest p .aborted).modPort p Port.dueNotice)
  s.sleepPorts.stopReference

/-- A wake from SLEEP begins: a settle of 2 ms (R143). -/
def State.beginSettle (s : State) (target : PowerState) : State :=
  { s with power := { s.power with phase := .settling target, settleTimer := some Config.settleTime } }

/-- The end of the settle (R143). -/
def State.endSettle (s : State) : State :=
  match s.power.phase with
  | .steady | .enteringSleep => s
  | .settling target =>
    let s := { s with
      ref := { s.ref with state := .intern, source := .intern, frameTimer := some 0, frameLength := s.ref.period }
      power := { s.power with state := target, phase := .steady, settleTimer := none } }
    let s := s.forEach allIds (fun p s => if (s.port p).link = .off ∧ s.portMapped p = true then s.enterListen p else s)
    (s.completePower .sleep target).lookControl

end Sys2Proof.Machine
end

