-- ==== Sys2Proof/Machine/Chain.lean ====
section
/-! DEFINITION. The Chain Intake (spec/09): the passes (R149–R155), filing (R157), completion writes (R160, R161), and the
registers as the host reads them (R145, R146). -/
namespace Sys2Proof.Machine

/-! ## Registers as read (R145, spec/11 section 11.2) -/

/-- The CONTROL register as read. -/
def State.controlWord (s : State) : Word :=
  BitVec.ofNat 32 (bitsByte [s.intake.enable, s.intake.startExternal] + 16 * s.intake.state.code +
    256 * bitsByte [s.halted.isSome] + 512 * haltCode s.halted + 65536 * s.jobs.length)

/-- A register as read; reading CAUSE also clears it, which is the command CAUSE_READ. -/
def State.readRegister (s : State) (r : RegName) : Word :=
  match r with
  | .ident => 0x31400000 ||| Config.stepping.setWidth 32
  | .control => s.controlWord
  | .chainBase => s.intake.chainBase
  | .attention => 0
  | .anchor => s.intake.anchor.getD 0
  | .cause => s.causes.toWord
  | .causeEnable => s.causeEnable.toWord
  | .scanPeriod => s.intake.scanPeriod.setWidth 32

/-! ## Pass states (R149–R155) -/

/-- The intake enters OFF; a pass that runs ends (R146, R164). -/
def State.intakeOff (s : State) : State :=
  { s with intake := { s.intake with state := .off, rescan := false, scanTimer := none, pass := .none } }

/-- The scan timer's period, if SCAN_PERIOD is not 0 (R150). -/
def Intake.scanTime (i : Intake) : Timer :=
  if i.scanPeriod = 0 then none else some (i.scanPeriod.toNat * Config.scanUnit)

/-- The intake enters IDLE: the scan timer starts (R149, R150). -/
def State.intakeIdle (s : State) : State :=
  { s with intake := { s.intake with state := .idle, scanTimer := s.intake.scanTime, pass := .none } }

/-- Step 1 of a pass (R151): OFF where ENABLE has been cleared, FULL where 8 jobs are listed, else a link is followed. -/
def State.passStep (s : State) : State :=
  if !s.intake.enable then s.intakeOff
  else if Config.jobListSize ≤ s.jobs.length then
    { s with intake := { s.intake with state := .full, rescan := false, pass := .none } }
  else { s with intake := { s.intake with pass := .link } }

/-- A pass begins (R151). -/
def State.beginPass (s : State) : State :=
  { s with intake := { s.intake with state := .scanning, rescan := false, scanTimer := none, voidRun := 0 } }.passStep

/-- A pass that found a link of 0 ends (R151, R146). -/
def State.endPass (s : State) : State :=
  if !s.intake.enable then s.intakeOff
  else if s.intake.rescan then s.beginPass
  else s.intakeIdle

/-- A chain fault (R155). -/
def State.chainFault (s : State) : State :=
  { s with intake := { s.intake with state := .chainFault, rescan := false, scanTimer := none, pass := .none } }.raiseChain

/-- A bus error of the pass: BUS_FAULT, and the pass ends in IDLE, or OFF while ENABLE is 0 (R152–R154). -/
def State.passBusError (s : State) : State :=
  let s := s.halt .busFault
  if s.intake.enable then { s with intake := { s.intake with rescan := false } }.intakeIdle else s.intakeOff

/-- A block becomes the anchor (R151). -/
def State.setAnchor (s : State) (a : Word) : State := { s with intake := { s.intake with anchor := some a } }

/-- Whether an address is not a multiple of 64 (R152). -/
def misaligned64 (a : Word) : Bool := a.toNat % 64 != 0

/-- A usable link has been found: the block is examined (R153), or the pass ends OFF where ENABLE has been cleared meanwhile
(log 10). -/
def State.examine (s : State) (a : Word) : State :=
  if !s.intake.enable then s.intakeOff
  else if (s.findJob a).isSome then s.chainFault
  else { s with intake := { s.intake with pass := .exchange a } }

/-- The next block's link is known (R152): `own` is the anchor it was read from. -/
def State.followLink (s : State) (own : Option Word) (a : Word) : State :=
  if a = 0 then s.endPass
  else if misaligned64 a || own == some a then s.chainFault
  else s.examine a

/-- LINK_READ (R152). That a pass without an anchor takes CHAIN_BASE as it stands at this command, and not as it stood when the
pass began (R145), is the model's choice (log 62). -/
def State.linkRead (s : State) (link : Option Word) : State :=
  match s.intake.pass, s.intake.anchor with
  | .link, none => s.followLink none s.intake.chainBase
  | .link, some own =>
    match link with
    | none => s.passBusError
    | some a => s.followLink (some own) a
  | .none, _ => s
  | .exchange _, _ => s
  | .taking _ _, _ => s

/-- Word 0 with another STATE byte (R148). -/
def withState (state : Byte) (word0 : Word) : Word := (word0 &&& 0xFFFFFF00) ||| state.setWidth 32

/-- The block is VOID: it becomes the anchor, and the 256th consecutive one is a chain fault (R151, R155). -/
def State.passVoid (s : State) (a : Word) : State :=
  let s := s.setAnchor a
  let n := s.intake.voidRun + 1
  let s := { s with intake := { s.intake with voidRun := n } }
  if n = Config.voidLimit then s.chainFault else s.passStep

/-- LOCKED_EXCHANGE (R153): by the STATE byte read. -/
def State.exchanged (s : State) (word0 : Option Word) : State :=
  match s.intake.pass with
  | .none => s
  | .link => s
  | .taking _ _ => s
  | .exchange a =>
    match word0 with
    | none => s.passBusError
    | some w =>
      let state := w &&& 0xFF
      if state = 1 then
        { s with intake := { s.intake with pass := .taking a w } }.busWrite a.toNat (le4 (withState 4 w).toNat)
      else if state = 2 then s.passVoid a
      else s.chainFault

/-! ## Filing (R154, R157) -/

/-- The entry for a taken block, with what is done with it at once (R157). An entry that completes at once is listed WAITING until it
leaves, so that a job filed behind it gets PROGRESS WAITING (the model's choice, log 55). -/
def State.newJob (s : State) (a word0 tag : Word) (params : Vector Byte 32) : Job :=
  let kind : Byte := (word0 >>> 8).setWidth 8
  let flags : Byte := (word0 >>> 16).setWidth 8
  let base : Job :=
    { addr := a, kind := kind, flags := flags, tag := tag, params := params, lane := none, status := .waiting, writes := [],
      result := none }
  match kindOf kind with
  | none => { base with result := some (invalidResult .badKind none none) }
  | some k =>
    if s.halted.isSome && k != .sense then { base with lane := some k.lane, result := some (plainResult .rejected detailZero) }
    else
      let behind := s.jobs.any (fun j => j.lane == some k.lane && (j.status == .waiting || j.status == .running))
      { base with
        lane := some k.lane
        writes := if behind then [.filing, .progress .waiting] else [.filing] }

/-- The job joins the list, and its lane is looked at (R157, R158). -/
def State.file (s : State) (j : Job) : State := { s with jobs := s.jobs ++ [j] }.look j.lane

/-- TAKING_READ (R154). -/
def State.takeBlock (s : State) (data : Option (Word × Vector Byte 32)) : State :=
  match s.intake.pass with
  | .none => s
  | .link => s
  | .exchange _ => s
  | .taking a w =>
    match data with
    | none => s.passBusError
    | some (tag, params) =>
      let s := s.setAnchor a
      let s := { s with intake := { s.intake with voidRun := 0, pass := .none } }
      (s.file (s.newJob a w tag params)).passStep

/-! ## Triggers (R149, R150) -/

/-- A write to ATTENTION. -/
def State.takeAttention (s : State) : State :=
  match s.intake.state with
  | .off => s
  | .idle => s.beginPass
  | .scanning => { s with intake := { s.intake with rescan := true } }
  | .full => s
  | .chainFault => if s.intake.enable then s.beginPass else s.intakeOff

/-- The scan timer expires. -/
def State.scanExpired (s : State) : State :=
  if s.intake.state = .idle ∧ s.intake.scanTimer.isSome = true then s.beginPass else s

/-- SCAN_PERIOD is written (R145, R150). -/
def State.writeScanPeriod (s : State) (w : Word) : State :=
  let i := { s.intake with scanPeriod := w.setWidth 8 }
  if i.state = .idle then { s with intake := { i with scanTimer := i.scanTime } } else { s with intake := i }

/-- CHAIN_BASE is written: ignored while ENABLE is 1 (R145). -/
def State.writeChainBase (s : State) (w : Word) : State :=
  if s.intake.enable then s else { s with intake := { s.intake with chainBase := w } }

/-- A job left a list that held `before` jobs: a scan trigger in FULL (R149, R160). -/
def State.leftList (s : State) (before : Nat) : State :=
  if before = Config.jobListSize ∧ s.intake.state = .full then s.beginPass else s

/-! ## Writes into blocks (R148, R159, R160) -/

/-- A byte field of a block is written. -/
def State.blockWrite (s : State) (a : Word) (offset : Nat) (bytes : List Byte) : State := s.busWrite (a.toNat + offset) bytes

/-- A PROGRESS write, or the result-area write at filing (R157, R159): OUTCOME 0, PROGRESS TAKEN, flags 0, detail 0. -/
def State.makeWrite (s : State) (a : Word) (w : BlockWrite) : State :=
  match w with
  | .filing => s.blockWrite a 48 ([0, Progress.taken.code] ++ zeros 14)
  | .progress v => s.blockWrite a 49 [v.code]

/-- Word 0 at completion: DONE with the KIND and FLAGS latched at taking (R148). NOTIFY is the one field of FLAGS; its bits
7–1 and byte 3 are reserved and written 0 (R184, log 21). -/
def Job.doneWord (j : Job) : List Byte := [8, j.kind, j.flags &&& 1, 0]

/-- The offset and bytes of a completion write (R160). -/
def Job.completionBytes (j : Job) (r : Result) : CompletionWrite → Nat × List Byte
  | .finished => (49, [Progress.finished.code])
  | .outcome => (48, [r.outcome.code])
  | .resultFlags => (50, r.flags.bytes)
  | .detail => (52, r.detail)
  | .done => (0, j.doneWord)

/-- The five completion writes, in order (R160). -/
def completionOrder : List CompletionWrite := [.finished, .outcome, .resultFlags, .detail, .done]

/-- The completion writes before a failed one (R161). -/
def writesBefore (failed : CompletionWrite) : List CompletionWrite := completionOrder.takeWhile (fun w => w != failed)

/-- The writes of a block still with the bus, then some of its completion's (R159, R160, log 8). -/
def State.writeResult (s : State) (j : Job) (r : Result) (ws : List CompletionWrite) : State :=
  let s := j.writes.foldl (fun s w => s.makeWrite j.addr w) s
  ws.foldl (fun s w => s.blockWrite j.addr (j.completionBytes r w).1 (j.completionBytes r w).2) s

/-- The entry leaves the Job List; its lane is looked at (R158, R160). -/
def State.leaveList (s : State) (j : Job) : State :=
  let before := s.jobs.length
  ({ s with jobs := s.jobs.filter (fun k => k.addr != j.addr) }.leftList before).look j.lane

/-- JOB_COMPLETION (R160). -/
def State.complete (s : State) (a : Word) : State :=
  match s.findJob a with
  | none => s
  | some j =>
    match j.result with
    | none => s
    | some r =>
      let s := s.writeResult j r completionOrder
      let s := if j.notify then s.raiseJob else s
      s.leaveList j

/-- COMPLETION_BUS_ERROR (R161). -/
def State.completionFails (s : State) (a : Word) (failed : CompletionWrite) : State :=
  match s.findJob a with
  | none => s
  | some j =>
    match j.result with
    | none => s
    | some r => ((s.writeResult j r (writesBefore failed)).halt .busFault).leaveList j

/-- PROGRESS_WRITE (R159). -/
def State.progressEnds (s : State) (a : Word) (ok : Bool) : State :=
  match s.findJob a with
  | none => s
  | some j =>
    match j.writes with
    | [] => s
    | w :: ws =>
      let s := s.modJob a (fun j => { j with writes := ws })
      if ok then s.makeWrite a w else s.halt .busFault

end Sys2Proof.Machine
end

