-- ==== Sys2Proof/Machine/Compose.lean ====
section
/-! DEFINITION. Composition: the checks of a layer record (R20), the colour of a pixel (R25–R28), a stripe's lines and bytes
(R29), and the surface reads a stripe makes (R31). Everything is a function of a layer table, a geometry and the bytes the
surface reads returned. -/
namespace Sys2Proof.Machine

/-! ## Layer checks (R20) -/

/-- Bytes per pixel of a format (R19). -/
def PixelFormat.bytes : PixelFormat → Nat
  | .rgb565 => 2 | .rgb888 => 3 | .xrgb8888 => 4

/-- Bytes per pixel of a layer's surface. -/
def Layer.pixelBytes (l : Layer) : Nat :=
  match l.format with
  | some f => f.bytes
  | none => 0

/-- Width of the placed rectangle (spec/02 section 2.2). -/
def Layer.placedWidth (l : Layer) : Nat := l.srcWidth * l.scale
/-- Height of the placed rectangle. -/
def Layer.placedHeight (l : Layer) : Nat := l.srcHeight * l.scale

/-- Whether a dimension is 1–4096 (R19). -/
def dimOk (n : Nat) : Bool := decide (1 ≤ n) && decide (n ≤ 4096)

/-- The first failing check of a SURFACE record, from check 6 on (R20). -/
def Layer.surfaceFault (l : Layer) : Option Reason :=
  if l.format = none then some .badLayer
  else if !(dimOk l.width && dimOk l.height) then some .badLayer
  else if l.srcX + l.srcWidth > l.width || l.srcY + l.srcHeight > l.height then some .badLayer
  else if l.address = 0 then some .badLayer
  else if l.address % 4 ≠ 0 || l.stride % 4 ≠ 0 then some .badAlign
  else if l.stride < l.width * l.pixelBytes then some .badLayer
  else if l.address + l.stride * (l.height - 1) + l.width * l.pixelBytes - 1 > 0xFFFFFFFF then some .badLayer
  else none

/-- The first failing check of a record, in the order of R20. -/
def Layer.fault (l : Layer) : Option Reason :=
  match l.kind with
  | none => some .badLayer
  | some k =>
    if l.scale ≠ 1 ∧ l.scale ≠ 2 then some .badLayer
    else if !(dimOk l.srcWidth && dimOk l.srcHeight) then some .badLayer
    else if l.destX + l.placedWidth > Config.planeSize then some .badLayer
    else if l.destY + l.placedHeight > Config.planeSize then some .badLayer
    else
      match k with
      | .fill => none
      | .surface => l.surfaceFault

/-- The first failing record of a list, with its index (R20). -/
def layersFault : Nat → List Layer → Option (Nat × Reason)
  | _, [] => none
  | i, l :: ls =>
    match l.fault with
    | some r => some (i, r)
    | none => layersFault (i + 1) ls

/-! ## Pixels (R25–R28) -/

/-- Whether a placed rectangle contains a plane pixel. -/
def Layer.covers (l : Layer) (px py : Nat) : Bool :=
  decide (l.destX ≤ px) && decide (px < l.destX + l.placedWidth) &&
    decide (l.destY ≤ py) && decide (py < l.destY + l.placedHeight)

/-- The surface pixel a plane pixel shows (R26). -/
def Layer.surfacePixel (l : Layer) (px py : Nat) : Nat × Nat :=
  (l.srcX + (px - l.destX) / l.scale, l.srcY + (py - l.destY) / l.scale)

/-- The host address of a surface pixel (R26). -/
def Layer.pixelAddress (l : Layer) (sx sy : Nat) : Nat := l.address + sy * l.stride + sx * l.pixelBytes

/-- A 5-bit channel widened: value × 8 + value div 4 (R27). -/
def widen5 (v : Nat) : Byte := BitVec.ofNat 8 (v * 8 + v / 4)
/-- A 6-bit channel widened: value × 4 + value div 16 (R27). -/
def widen6 (v : Nat) : Byte := BitVec.ofNat 8 (v * 4 + v / 16)

/-- A surface pixel read and widened (R27). -/
def readPixel (f : PixelFormat) (mem : Nat → Byte) (a : Nat) : Colour :=
  match f with
  | .rgb565 =>
    let v := (mem a).toNat + 256 * (mem (a + 1)).toNat
    { red := widen5 (v / 2048), green := widen6 (v / 32 % 64), blue := widen5 (v % 32) }
  | .rgb888 => { blue := mem a, green := mem (a + 1), red := mem (a + 2) }
  | .xrgb8888 => { blue := mem a, green := mem (a + 1), red := mem (a + 2) }

/-- The colour a layer leaves at a plane pixel, over the colour found so far (R25, R28). -/
def Layer.apply (mem : Nat → Byte) (px py : Nat) (below : Colour) (l : Layer) : Colour :=
  if !l.covers px py then below
  else
    match l.kind, l.format with
    | some .surface, some f =>
      let (sx, sy) := l.surfacePixel px py
      let c := readPixel f mem (l.pixelAddress sx sy)
      if l.keyPresent && c = l.colour then below else c
    | some .fill, _ => l.colour
    | some .surface, none => below
    | none, _ => below

/-- The colour of a plane pixel: the background, then the layers from the first to the last (R25). -/
def LayerTable.colourAt (tab : LayerTable) (mem : Nat → Byte) (px py : Nat) : Colour :=
  tab.layers.foldl (Layer.apply mem px py) tab.background

/-! ## Stripes (R29) -/

/-- The stripe height of a record in lines; 0 where it has none. -/
def Geometry.stripeLines (g : Geometry) : Nat :=
  match g.stripe with
  | none => 0
  | some h => h.lines

/-- The first tile line of stripe `k`. -/
def Geometry.stripeTop (g : Geometry) (k : Nat) : Nat := k * g.stripeLines

/-- The line count of stripe `k`: to the smaller of (k + 1) × s − 1 and h − 1 (R29). -/
def Geometry.linesOf (g : Geometry) (k : Nat) : Nat := min ((k + 1) * g.stripeLines) g.height - k * g.stripeLines

/-- A pixel's three bytes in a STRIPE payload: red, green, blue (R187). -/
def Colour.bytes (c : Colour) : List Byte := [c.red, c.green, c.blue]

/-- The bytes of stripe `k`: line by line from its top line, from column 0 on (R29). -/
def LayerTable.stripePixels (tab : LayerTable) (g : Geometry) (mem : Nat → Byte) (k : Nat) : List Byte :=
  (List.range (g.linesOf k)).flatMap fun l =>
    (List.range g.width).flatMap fun c =>
      (tab.colourAt mem (g.originX + c) (g.originY + g.stripeTop k + l)).bytes

/-! ## Surface reads (R31) -/

/-- A read of a surface for a stripe: the layer's index, the address and the byte count. -/
structure SurfaceRead where
  layer   : Nat
  address : Nat
  length  : Nat
  deriving DecidableEq, Repr

/-- The surface lines that supply the plane lines from `top` to `top + n − 1` of a layer, each once (R31). -/
def Layer.surfaceLines (l : Layer) (top n : Nat) : List Nat :=
  let first := l.srcY + (top - l.destY) / l.scale
  let last := l.srcY + (top + n - 1 - l.destY) / l.scale
  (List.range (last + 1 - first)).map (fun i => first + i)

/-- The reads one layer causes for the plane rectangle at (x, y) of w × h pixels: for a SURFACE layer that meets it, one
run of pixels from each surface line that supplies the meeting part (R31). -/
def Layer.readsFor (l : Layer) (index x y w h : Nat) : List SurfaceRead :=
  let left := max x l.destX
  let right := min (x + w) (l.destX + l.placedWidth)
  let top := max y l.destY
  let bottom := min (y + h) (l.destY + l.placedHeight)
  if l.kind = some .surface ∧ left < right ∧ top < bottom then
    let firstCol := l.srcX + (left - l.destX) / l.scale
    let lastCol := l.srcX + (right - 1 - l.destX) / l.scale
    (l.surfaceLines top (bottom - top)).map fun sy =>
      { layer := index, address := l.pixelAddress firstCol sy, length := (lastCol + 1 - firstCol) * l.pixelBytes }
  else []

/-- The reads of a list of layers, the first having index `i`. -/
def readsOf (x y w h : Nat) : Nat → List Layer → List SurfaceRead
  | _, [] => []
  | i, l :: ls => l.readsFor i x y w h ++ readsOf x y w h (i + 1) ls

/-- The surface reads of stripe `k` of a tile (R31). -/
def LayerTable.stripeReads (tab : LayerTable) (g : Geometry) (k : Nat) : List SurfaceRead :=
  readsOf g.originX (g.originY + g.stripeTop k) g.width (g.linesOf k) 0 tab.layers

/-- The byte a composition read at an address: as its command lists it, else a free value (log 29). R31 lets each read supply
its own bytes; that two reads of one composition at one address give the same byte is the model's choice (log 57). -/
def imageByte (image : MemImage) (composition a : Nat) : Byte :=
  match image.find? (fun c => c.1 == a) with
  | some c => c.2
  | none => Config.unlistedByte composition a

end Sys2Proof.Machine
end

