-- ==== Sys2Proof/Machine/Stream.lean ====
section
/-! DEFINITION. The reliable stream (spec/06): what the transmitter begins next (R99), first transmissions (R41, R59, R101),
resend runs (R106), acknowledgements (R103, R104), holds (R109, R110), and the TESTs of a LINK_TEST (R175–R177). -/
namespace Sys2Proof.Machine

/-! ## Frame numbers (R60, R64) -/

/-- `a` is `b` or later, modulo 2^32 (R60). -/
def laterOrEqual (a b : Word) : Bool := decide ((a - b).toNat < 2147483648)

/-- The later of two frame numbers (R64). -/
def laterFrame (a b : Word) : Word := if laterOrEqual a b then a else b

/-- The fresh target of a FLIP re-sent after a relink, its old target being `f` (R64). -/
def freshTarget (frame f : Word) : Word := laterFrame (frame + 2) (f + 1)

/-! ## Acknowledgements (R42, R50, R103) -/

/-- An acknowledged STRIPE: its buffer is FREE, the record advances, a record that becomes ARMED is looked at (R42, R58). -/
def State.ackStripe (s : State) (p : PortId) (b : BufId) : State :=
  match (s.port p).buf b with
  | .sent st =>
    let t := st.id.tile
    let before := (s.tile t).back
    let after := before.afterAck st.id.epoch st.id.number (s.stripesOf t)
    let s := (s.modPort p (fun x => x.freeBuf b)).modTile t (fun x => { x with back := after })
    if after.isArmed st.id.epoch && !before.isArmed st.id.epoch then s.armingRule else s
  | .free | .composing _ | .ready _ => s

/-- An acknowledged packet is handed to its owner (R103). A FLIP and a CHECK wait for the tile's report. -/
def State.ackOwner (s : State) (p : PortId) (k : Reliable) : State :=
  match k with
  | .stripe b => s.ackStripe p b
  | .flip _ _ _ => s
  | .discard x =>
    match s.tileOfPort p with
    | none => s
    | some t => s.modTile t (fun r => { r with back := r.back.afterDiscard x })
  | .table l n _ =>
    match s.tileOfPort p with
    | none => s
    | some t => s.ackTable t l n
  | .check _ _ _ => s

/-- The oldest packet leaves the window, and any run that still names it (R103). -/
def Port.popWindow (x : Port) (o : Outstanding) : Port :=
  { x with window := x.window.tail, run := x.run.filter (fun n => n != o.number) }

/-- The `k` oldest packets are acknowledged, oldest first (R103). -/
def State.ackOldest (s : State) (p : PortId) : Nat → State
  | 0 => s
  | k + 1 =>
    match (s.port p).window with
    | [] => s
    | o :: _ => ((s.modPort p (fun x => x.popWindow o)).ackOwner p o.packet).ackOldest p k

/-- Ack timer, answered point and recorded resend after an acknowledgement (R103, R105). -/
def Port.afterAcks (x : Port) (timeout : Nat) : Port :=
  { x with
    answered := none
    ackTimer := if x.window = [] then none else some timeout
    recorded := x.recorded && !x.window.isEmpty }

/-- The `k` oldest packets are acknowledged, with what follows (R103); nothing for none. -/
def State.acknowledge (s : State) (p : PortId) (k : Nat) : State :=
  if k = 0 then s else (s.ackOldest p k).modPort p (fun x => x.afterAcks s.policy.ack)

/-- The place of an outstanding number in the window. -/
def Port.outstanding (x : Port) (n : Byte) : Option Nat := x.window.findIdx? (fun o => o.number == n)

/-- An ACK (R103). -/
def State.takeAck (s : State) (p : PortId) (n : Byte) : State :=
  match (s.port p).outstanding n with
  | none => s
  | some i => s.acknowledge p (i + 1)

/-! ## Resend runs (R104–R106, R110) -/

/-- A resend run from window place `i` begins, unless a packet of it has reached the retry limit (R106). The ack timer
starts (R105). -/
def State.beginRun (s : State) (p : PortId) (i : Nat) : State :=
  let ks := (s.port p).window.drop i
  if ks.any (fun o => decide (s.policy.retryLimit ≤ o.retries)) then s.exhaust p
  else s.modPort p (fun x => { x with
    run := ks.map Outstanding.number, recorded := false, ackTimer := some s.policy.ack })

/-- A run from the oldest packet begins and is the answered point (R104, R105, R110). -/
def State.runFromOldest (s : State) (p : PortId) : State :=
  match (s.port p).window with
  | [] => s
  | o :: _ => (s.modPort p (fun x => { x with answered := some o.number })).beginRun p 0

/-- A NAK (R104, R110). -/
def State.takeNak (s : State) (p : PortId) (e : Byte) : State :=
  let s := s.modPort p (fun x => { x with ctr := { x.ctr with naks := satInc x.ctr.naks } })
  let x := s.port p
  if e = x.nextSeq then s.acknowledge p x.window.length
  else
    match x.outstanding e with
    | none => s
    | some i =>
      if x.answered = some e then s
      else
        let s := (s.acknowledge p i).modPort p (fun x => { x with answered := some e })
        if x.holdTimer.isSome then s.modPort p (fun x => { x with recorded := true })
        else s.beginRun p 0

/-- The ack timer expires (R105). -/
def State.ackExpired (s : State) (p : PortId) : State :=
  (s.modPort p (fun x => { x with ctr := { x.ctr with ackTimeouts := satInc x.ctr.ackTimeouts } })).runFromOldest p

/-- A hold ends: a recorded resend begins, else an open run goes on (R110). -/
def State.endHold (s : State) (p : PortId) : State :=
  let x := s.port p
  let s := s.modPort p (fun x => { x with holdTimer := none, recorded := false })
  if x.recorded then s.runFromOldest p else s

/-- A HOLD (R109). -/
def State.takeHold (s : State) (p : PortId) (quanta : Half) : State :=
  let s := s.modPort p (fun x => { x with ind := { x.ind with holdSeen := true } })
  if quanta = 0 then (if (s.port p).holdTimer.isSome then s.endHold p else s)
  else s.modPort p (fun x => { x with holdTimer := some (quanta.toNat * x.grade.slotTime) })

/-! ## The stripe buffer check (R40) -/

/-- What a buffer gives back: its pixels, or what the command says it gave back. -/
def Stripe.readBack (st : Stripe) (readBack : Option (List Byte)) : List Byte := readBack.getD st.pixels

/-- Whether the pixels taken from a buffer pass the check (R40). -/
def Stripe.intact (st : Stripe) (readBack : Option (List Byte)) : Bool := crc32 (st.readBack readBack) == st.check

/-! ## First transmissions (R41, R59, R64, R101) -/

/-- The ack timer at a first transmission: started into an empty window (R105). -/
def Port.armAckTimer (x : Port) (timeout : Nat) : Port :=
  if x.window = [] then { x with ackTimer := some timeout } else x

/-- The head of the queue joins the window with the next number, as `kept`, and `k` is sent (R101). -/
def Port.sendFirst (x : Port) (timeout : Nat) (kept : Reliable) (k : Packet) : Port :=
  let y : Port := { x.armAckTimer timeout with
    queue := x.queue.tail
    window := x.window ++ [{ number := x.nextSeq, packet := kept, retries := 0 }]
    nextSeq := x.nextSeq + 1 }
  y.begin k

/-- The back store when a STRIPE of epoch `e` is first sent (R41). -/
def BackStore.afterFirstSend (b : BackStore) (e : Epoch) : BackStore :=
  match b with
  | .empty => .loading e 0
  | .loading e' n => .loading e' n
  | .armed e' => .armed e'
  | .scheduled e' f => .scheduled e' f

/-- A STRIPE at the head of the queue is first sent (R41), or fails the buffer check (R40). -/
def State.sendStripe (s : State) (p : PortId) (b : BufId) (readBack : Option (List Byte)) : State :=
  let x := s.port p
  match x.buf b with
  | .ready st =>
    if st.intact readBack then
      let x := (x.setBuf b (.sent st)).sendFirst s.policy.ack (.stripe b)
        (.stripe x.nextSeq st.id (st.readBack readBack))
      (s.setPort p x).modTile st.id.tile (fun r => { r with back := r.back.afterFirstSend st.id.epoch })
    else s.halt .bufferFault
  | .free | .composing _ | .sent _ => s.setPort p { x with queue := x.queue.tail }

/-- The record when a FLIP of epoch `e` with target `f` is transmitted (R59, R64). -/
def BackStore.afterFlip (b : BackStore) (e : Epoch) (f : Word) : BackStore := if b.holds e then .scheduled e f else b

/-- The target the record holds, if it is SCHEDULED, else `f` (R64). -/
def BackStore.targetOr (b : BackStore) (f : Word) : Word :=
  match b with
  | .scheduled _ g => g
  | .empty | .loading _ _ | .armed _ => f

/-- A FLIP at the head of the queue is transmitted: with the target it names (R59), or with a fresh one (R64). The model's
choice where the tile has been confirmed meanwhile, so that its record holds no target (log 44): the fresh target is counted
from the packet's own last one, the record stays EMPTY, and RETRIED is set as for any FLIP re-sent. -/
def State.sendFlip (s : State) (p : PortId) (e : Epoch) (f : Word) (fresh : Bool) : State :=
  match s.tileOfPort p with
  | none => s.modPort p (fun x => { x with queue := x.queue.tail })
  | some t =>
    let target := if fresh then freshTarget s.ref.frameNumber ((s.tile t).back.targetOr f) else f
    let s := s.modPort p (fun x => x.sendFirst s.policy.ack (.flip e target false) (.flip x.nextSeq e target))
    let s := s.modTile t (fun r => { r with back := r.back.afterFlip e target })
    let s := s.modScene (fun r =>
      if r.epoch = e ∧ Mask.has r.flipSet t then
        { r with flipSent := r.flipSent ||| bitOf t, flags := if fresh then r.flags.retry else r.flags }
      else r)
    s.settleScene

/-- The head of the queue is sent for the first time. -/
def State.sendHead (s : State) (p : PortId) (k : Reliable) (readBack : Option (List Byte)) : State :=
  match k with
  | .stripe b => s.sendStripe p b readBack
  | .flip e f fresh => s.sendFlip p e f fresh
  | .discard e => s.modPort p (fun x => x.sendFirst s.policy.ack (.discard e) (.discard x.nextSeq e))
  | .table l n again => s.modPort p (fun x => x.sendFirst s.policy.ack (.table l n again) (.table x.nextSeq l))
  | .check e n again => s.modPort p (fun x => x.sendFirst s.policy.ack (.check e n again) (.check x.nextSeq e))

/-! ## Resends (R106, R91, R40) -/

/-- The packet a resend sends: its first number and unchanged content (R106). -/
def Port.resent (x : Port) (o : Outstanding) (readBack : Option (List Byte)) : Option Packet :=
  match o.packet with
  | .stripe b =>
    match x.buf b with
    | .sent st => some (.stripe o.number st.id (st.readBack readBack))
    | .free | .composing _ | .ready _ => none
  | .flip e f _ => some (.flip o.number e f)
  | .discard e => some (.discard o.number e)
  | .table l _ _ => some (.table o.number l)
  | .check e _ _ => some (.check o.number e)

/-- Whether a resend passes the buffer check, if it takes a buffer's pixels (R40). -/
def Port.resendIntact (x : Port) (o : Outstanding) (readBack : Option (List Byte)) : Bool :=
  match o.packet with
  | .stripe b =>
    match x.buf b with
    | .sent st => st.intact readBack
    | .free | .composing _ | .ready _ => true
  | .flip _ _ _ | .discard _ | .table _ _ _ | .check _ _ _ => true

/-- A retransmission is counted: retry count, RETRANSMITS and tally (R106, R113, R114). -/
def Port.countResend (x : Port) (number : Byte) : Port :=
  { x with
    window := x.window.map (fun o => if o.number = number then { o with retries := o.retries + 1 } else o)
    ctr := { x.ctr with retransmits := satInc x.ctr.retransmits }
    tally := x.tally + 1 }

/-- The next packet of the open run: resent (R106), or LOST in its place when it raises the tally to 255 (R91), or a halt
when its buffer fails the check (R40, log 18). -/
def State.sendResend (s : State) (p : PortId) (n : Byte) (rest : List Byte) (readBack : Option (List Byte)) : State :=
  let s := s.modPort p (fun x => { x with run := rest })
  let x := s.port p
  match x.window.find? (fun o => o.number == n) with
  | none => s
  | some o =>
    if !x.resendIntact o readBack then s.halt .bufferFault
    else
      let s := (s.modPort p (fun x => x.countResend n)).noteResent p o.packet
      if (s.port p).tally = Config.tallyLimit then (s.exitUp p).enterLost p .tallySaturated
      else
        match x.resent o readBack with
        | none => s
        | some k => s.modPort p (fun x => x.begin k)

/-! ## TESTs (R175–R177) -/

/-- A LINK_TEST after its next TEST has been begun, the ack timeout being `timeout`. -/
def LinkTest.afterSend (k : LinkTest) (timeout : Nat) : LinkTest :=
  let n := k.sent + 1
  let k := { k with sent := n, injected := if k.inject ≠ 0 ∧ n % k.inject = 0 then k.injected + 1 else k.injected }
  match k.mode with
  | .echo => { k with outstanding := some n, echoTimer := some timeout, due := false }
  | .sink => if n < k.count then k else { k with due := false, resultTimer := some timeout }

/-- The next TEST packet (R175). -/
def LinkTest.packet (k : LinkTest) : Packet :=
  .test (k.sent + 1) k.mode.code k.count (testPayload k.pattern k.length (k.sent + 1))
    (decide (k.inject ≠ 0) && decide ((k.sent + 1) % k.inject = 0))

/-- The due TEST is begun. -/
def Port.sendTest (x : Port) (timeout : Nat) (k : LinkTest) : Port :=
  Port.begin { x with test := some (k.afterSend timeout) } k.packet

/-- How many packets have been counted in ECHO mode. -/
def LinkTest.counted (k : LinkTest) : Nat := k.good + k.bad + k.mismatch + k.lost

/-- The outstanding TEST has been counted in `k`: the test completes OK, or the next TEST becomes due (R176). -/
def State.countEcho (s : State) (p : PortId) (k : LinkTest) : State :=
  let k := { k with outstanding := none, echoTimer := none, due := decide (k.counted < k.count) }
  let s := s.modPort p (fun x => { x with test := some k })
  if k.counted < k.count then s else s.endTest p .ok

/-- A TEST_ECHO (R176). -/
def State.takeEcho (s : State) (p : PortId) (n : Half) (flag : EchoFlag) (payload : List Byte) : State :=
  match (s.port p).test with
  | none => s
  | some k =>
    if k.mode = .echo ∧ k.outstanding = some n.toNat then
      match flag with
      | .bad => s.countEcho p { k with bad := k.bad + 1 }
      | .good =>
        if payload = testPayload k.pattern k.length n.toNat then s.countEcho p { k with good := k.good + 1 }
        else s.countEcho p { k with mismatch := k.mismatch + 1 }
    else s

/-- The echo timer expires (R176). -/
def State.echoExpired (s : State) (p : PortId) : State :=
  match (s.port p).test with
  | none => s
  | some k => if k.echoTimer.isSome then s.countEcho p { k with lost := k.lost + 1 } else s

/-- A TEST_RESULT (R177). -/
def State.takeResult (s : State) (p : PortId) (good bad : Half) : State :=
  match (s.port p).test with
  | none => s
  | some k =>
    if k.mode = .sink then
      s.endTestWith p .ok (fun k => detailTest k.sent good.toNat bad.toNat 0 (k.sent - (good.toNat + bad.toNat)) k.injected)
    else s

/-- The result timer expires: GOOD, BAD and LOST are absent (R177). -/
def State.resultExpired (s : State) (p : PortId) : State :=
  match (s.port p).test with
  | none => s
  | some k =>
    if k.resultTimer.isSome then s.endTestWith p .ok (fun k => detailTest k.sent 65535 65535 0 65535 k.injected) else s

/-! ## The transmitter (R99) -/

/-- The OFFER a port sends (R79, R188). -/
def Port.offerPacket (x : Port) (p : PortId) : Packet := .offer x.offeredCeiling x.offer.isSome p

/-- The TRAIN a port sends: the geometry of the record that names it (R5, R83). -/
def State.trainPacket (s : State) (p : PortId) : Packet :=
  let x := s.port p
  match s.tileOfPort p with
  | none => .train x.grade x.locked false false none 0 0
  | some t =>
    let g := (s.tile t).geom
    .train x.grade x.locked (g.loss == .blank) g.bypass g.stripe g.width g.height

/-- Whether the head of the queue may be sent (R99, R101, R110). -/
def Port.mayStart (x : Port) : Bool :=
  decide (x.window.length < Config.windowSize) && x.holdTimer.isNone && x.run.isEmpty && !x.recorded

/-- What an idle transmitter of an UP port takes: the first ready of R99. -/
def State.transmitUp (s : State) (p : PortId) (readBack : Option (List Byte)) : State :=
  let x := s.port p
  if x.noticeDue then ((s.modPort p (fun x => x.begin .sleepNotice)).exitUp p).goOff p
  else
    match x.syncDue, x.holdTimer, x.run with
    | some n, _, _ => s.modPort p (fun x => Port.begin { x with syncDue := none } (.sync n))
    | none, none, n :: rest => s.sendResend p n rest readBack
    | none, _, _ =>
      match x.queue, x.mayStart, x.test with
      | k :: _, true, _ => s.sendHead p k readBack
      | _, _, some k => if k.due then s.modPort p (fun x => x.sendTest s.policy.ack k) else s
      | _, _, none => s

/-- An idle transmitter begins the next ready packet, if any (R78, R79, R83, R99). -/
def State.transmit (s : State) (p : PortId) (readBack : Option (List Byte)) : State :=
  let x := s.port p
  match x.tx, x.link with
  | some _, _ => s
  | none, .off => s
  | none, .lost => s
  | none, .listen => if x.beaconDue then s.modPort p (fun x => Port.begin { x with beaconDue := false } (.beacon p)) else s
  | none, .offer =>
    match x.offersDue with
    | 0 => s
    | k + 1 =>
      (s.modPort p (fun x =>
        Port.begin { x with offersDue := k, seenSent := x.seenSent || x.offer.isSome } (x.offerPacket p))).checkExchange p
  | none, .train => s.modPort p (fun x => x.begin (s.trainPacket p))
  | none, .up => s.transmitUp p readBack

end Sys2Proof.Machine
end

