-- ==== Sys2Proof/Machine/FrameRef.lean ====
section
/-! DEFINITION. The Frame Reference (spec/08): a frame start and everything it brings (R129), the frame timer (R130), pulses
(R131, R134, R135), loss and fallback (R131), and the start of a switch (R133–R135). -/
namespace Sys2Proof.Machine

/-! ## A frame start (R129) -/

/-- Frame starts occur in this state: none does while the reference is EXTERNAL_STALLED or STOPPED (R57, R66, R87). -/
def Reference.framesOccur (r : Reference) : Bool := r.state == .intern || r.state == .extern

/-- A port takes frame start `n`: a SYNC falls due and the stability count rises; at 64 the attempt counter clears (R87,
R112). A port that is not UP takes nothing. -/
def Port.takeFrame (x : Port) (n : Word) : Port :=
  if x.link = .up then
    let count := min (x.stability + 1) Config.stabilityLimit
    { x with
      syncDue := some n
      stability := count
      attempts := if x.stability < Config.stabilityLimit ∧ count = Config.stabilityLimit then 0 else x.attempts }
  else x

/-- The deadline counts a frame start, and expires at 0 (R57). -/
def State.countDeadline (s : State) : State :=
  match s.scene with
  | none => s
  | some r =>
    if r.stage.delivering? && decide (0 < r.deadline) then
      (if r.deadline = 1 then s.expireDeadline else s.modScene (fun r => { r with deadline := r.deadline - 1 }))
    else s

/-- A frame start is issued (R129): the frame number, the ports, the deadline, the confirmation limits. -/
def State.issueFrame (s : State) : State :=
  let n := s.ref.frameNumber + 1
  let s := { s with ref := { s.ref with frameNumber := n, frameLength := s.ref.period } }
  let s := s.forEach allIds (fun p s => s.modPort p (fun x => x.takeFrame n))
  s.countDeadline.checkLimits

/-! ## Elapsed time (R130, R131) -/

/-- The length of the frame in progress, in ns. -/
def Reference.lengthNs (r : Reference) : Nat := r.frameLength * 1000

/-- The frame timer has reached the length of the frame in progress (R130). -/
def Reference.frameDue (r : Reference) : Bool :=
  match r.frameTimer with
  | some t => decide (r.lengthNs ≤ t)
  | none => false

/-- The loss timer has reached one and a half periods (R131). -/
def Reference.lossDue (r : Reference) : Bool :=
  match r.lossTimer with
  | some t => decide (3 * r.lengthNs ≤ 2 * t)
  | none => false

/-- A pulse qualifies at half the period or later (R131). -/
def Reference.qualifies (r : Reference) : Bool :=
  match r.lossTimer with
  | some t => decide (r.lengthNs ≤ 2 * t)
  | none => false

/-- The spacing `t` of two pulses lies within ±1% of the period in force (R134). -/
def Reference.wellSpaced (r : Reference) (t : Nat) : Bool :=
  decide (99 * (r.period * 1000) ≤ 100 * t) && decide (100 * t ≤ 101 * (r.period * 1000))

/-! ## Source changes -/

/-- The reference enters INTERNAL with the frame timer running from the frame start just issued (R130, R131, R135). -/
def State.enterInternal (s : State) : State :=
  { s with ref := { s.ref with state := .intern, source := .intern, frameTimer := some 0, lossTimer := none } }

/-- The fallback of R131: a frame start, INTERNAL, and the REFERENCE cause. -/
def State.fallBack (s : State) : State := s.issueFrame.enterInternal.raiseReference

/-- A switch to EXTERNAL begins (R134). -/
def State.beginExternal (s : State) (job : Option Word) : State :=
  { s with ref := { s.ref with
    switch := some { target := .extern, job := job }, lockCount := 0, sincePulse := none,
    lockTimer := some (Config.lockPeriods * (s.ref.period * 1000)) } }

/-- A switch to INTERNAL begins; from EXTERNAL_STALLED it completes at once (R135), and the stall it leaves raises REFERENCE
(R147, log 50). -/
def State.beginInternal (s : State) (job : Word) : State :=
  let s := { s with ref := { s.ref with switch := some { target := .intern, job := some job } } }
  if s.ref.state = .stalled then s.issueFrame.enterInternal.raiseReference.endSwitch .ok else s

/-- The lock pulse (R134): a frame start, EXTERNAL, the loss timer from that frame start, and the switch completes OK. -/
def State.lockPulse (s : State) : State :=
  let s := { s with ref := { s.ref with lockCount := Config.lockPulses } }.issueFrame
  let s := { s with ref := { s.ref with
    state := .extern, source := .extern, frameTimer := none, lossTimer := some 0, sincePulse := none } }
  s.endSwitch .ok

/-- The lock count after a pulse (R134): 1 for the first pulse or a badly spaced one, else one more. -/
def Reference.pulseCount (r : Reference) : Nat :=
  match r.sincePulse with
  | none => 1
  | some t => if r.wellSpaced t then r.lockCount + 1 else 1

/-- A pulse during a switch to EXTERNAL (R134). -/
def State.switchPulse (s : State) : State :=
  let n := s.ref.pulseCount
  if n = Config.lockPulses then s.lockPulse
  else { s with ref := { s.ref with lockCount := n, sincePulse := some 0 } }

/-- Whether a switch to a source is pending. -/
def Reference.switchingTo (r : Reference) (t : Source) : Bool :=
  match r.switch with
  | some w => w.target == t
  | none => false

/-- A pulse on SYNC IN (R130, R131, R134, R135, R142). -/
def State.takePulse (s : State) : State :=
  match s.ref.state with
  | .stopped => s
  | .intern => if s.ref.switchingTo .extern then s.switchPulse else s
  | .extern =>
    if s.ref.qualifies then
      let s := s.issueFrame
      if s.ref.switchingTo .intern then s.enterInternal.endSwitch .ok
      else { s with ref := { s.ref with lossTimer := some 0 } }
    else s
  | .stalled =>
    let s := s.issueFrame
    { s with ref := { s.ref with state := .extern, lossTimer := some 0 } }.raiseReference

/-- Loss is declared (R131, R135). -/
def State.declareLoss (s : State) : State :=
  if s.ref.state = .extern then
    if s.ref.switchingTo .intern then
      let s := s.issueFrame.enterInternal.endSwitch .ok
      if s.policy.failSafe then s.raiseReference else s
    else if s.policy.failSafe then s.fallBack
    else { s with ref := { s.ref with state := .stalled, lossTimer := none } }.raiseReference
  else s

/-- Fail-safe has become enabled: a stalled reference falls back at once (R131, R139, R167). -/
def State.failSafeEnabled (s : State) : State :=
  if s.ref.state = .stalled ∧ s.policy.failSafe = true then s.fallBack else s

/-- The frame timer issues a frame start (R130). -/
def State.timedFrame (s : State) : State :=
  if s.ref.state = .intern then
    let s := s.issueFrame
    { s with ref := { s.ref with frameTimer := some 0 } }
  else s

/-- The lock timer expires (R134). -/
def State.lockExpired (s : State) : State := if s.ref.lockTimer.isSome then s.endSwitch .noLock else s

end Sys2Proof.Machine
end

