-- ==== Sys2Proof/Machine/Settle.lean ====
section
/-! DEFINITION. What follows every command of the same step (spec/95, log 7): idle transmitters begin what is ready (R99),
and the free composition engine is granted (R37, R38, R181). -/
namespace Sys2Proof.Machine

/-! ## Idle transmitters -/

/-- Every idle transmitter begins the next packet that is ready. -/
def State.pump (s : State) : State := s.forEach allIds (fun p s => s.transmit p none)

/-! ## The arbiter (R37, R38) -/

/-- Whether the Composer may be granted at all: not HALTED, in RUN, and not entering SLEEP (R37, R52). -/
def State.mayCompose (s : State) : Bool := s.halted.isNone && !s.pictureWorkStopped

/-- A back store that delivery of epoch `e` may go on with: EMPTY, or LOADING of `e` (R37). -/
def BackStore.open? (b : BackStore) (e : Epoch) : Bool :=
  match b with
  | .empty => true
  | .loading e' _ => e' == e
  | .armed _ | .scheduled _ _ => false

/-- The participant's cursor (R36). -/
def SceneRec.cursor (r : SceneRec) (t : TileId) : Nat := r.cursors[t.val]

/-- The port and buffer a grant to `t` would take, if `t` is eligible (R37). -/
def State.eligible (s : State) (r : SceneRec) (t : TileId) : Option (PortId × BufId) :=
  match (s.tile t).geom.port with
  | none => none
  | some p =>
    let x := s.port p
    match x.grantBuf with
    | none => none
    | some b =>
      if r.stage.delivering? && Mask.has r.participants t && !Mask.has r.dropped t && x.link == .up && x.test.isNone &&
          (s.tile t).back.open? r.epoch && !x.anyDiscard && decide (r.cursor t < s.stripesOf t) then some (p, b)
      else none

/-- The places of the service order, from the pointer round to the entry before it (R38). -/
def orderFrom (n pointer : Nat) : List Nat := (List.range n).map (fun i => (pointer + i) % n)

/-- The first eligible tile from the pointer on, with its place (R38). -/
def State.nextGrant (s : State) (r : SceneRec) : Option (Nat × TileId × PortId × BufId) :=
  (orderFrom s.composer.order.length s.composer.pointer).findSome? (fun i =>
    match s.composer.order[i]? with
    | none => none
    | some t => (s.eligible r t).map (fun pb => (i, t, pb.1, pb.2)))

/-- The stripe a grant starts (R38). -/
def State.stripeId (s : State) (t : TileId) (e : Epoch) (k : Nat) : StripeId :=
  { tile := t, epoch := e, number := k, lines := (s.tile t).geom.linesOf k }

/-- The first grant of a scene: DELIVERING (R39, R55). -/
def State.startDelivering (s : State) (r : SceneRec) : State :=
  if r.stage = .layersRead then (s.modScene (fun r => { r with stage := .delivering })).writeProgress .delivering else s

/-- A grant to tile `t`, at place `i` of the service order (R38, R39). -/
def State.grant (s : State) (r : SceneRec) (i : Nat) (t : TileId) (p : PortId) (b : BufId) : State :=
  let k := r.cursor t
  let s := s.modPort p (fun x => x.setBuf b (.composing (s.stripeId t r.epoch k)))
  let s := s.setCursor t (k + 1)
  let s := { s with composer := { s.composer with
    engine := .scene t p b, pointer := (i + 1) % s.composer.order.length } }
  s.startDelivering r

/-- The grant of a VERIFY: the reported target's next stripe into a FREE buffer of its port (R181). -/
def State.grantVerify (s : State) (r : VerifyRec) : State :=
  match r.reports with
  | [] => s
  | rep :: _ =>
    match (s.tile rep.tile).geom.port with
    | none => s
    | some p =>
      match (s.port p).grantBuf with
      | none => s
      | some b =>
        let s := s.modPort p (fun x => x.setBuf b (.composing (s.stripeId rep.tile r.epoch r.stripe)))
        { s with composer := { s.composer with engine := .verify rep.tile p b } }

/-- The free engine is granted, if anything is eligible (R38, R181). -/
def State.arbitrate (s : State) : State :=
  if s.composer.engine = .free ∧ s.mayCompose = true then
    match s.frameRun with
    | .scene r =>
      match s.nextGrant r with
      | none => s
      | some (i, t, p, b) => s.grant r i t p b
    | .verify r => s.grantVerify r
    | .idle | .started | .layers _ | .entries _ | .values _ | .lut _ | .listing _ _ => s
  else s

/-- What follows a command in the same step: ports that SLEEP has overtaken go OFF, idle transmitters begin, the engine is
granted, and SLEEP is reached when nothing is left to send (log 7). A packet that one port's send makes ready on an earlier
port is begun by the second round. -/
def State.settle (s : State) : State := s.sleepPorts.pump.pump.sleepPorts.arbitrate.settleSleep

/-- What a command's effect is followed by, and the next state. -/
def State.settled (s : State) : Host.Outcome State Fault Refusal := .next s.settle

end Sys2Proof.Machine
end

