-- ==== Sys2Proof/Machine/FrameJobs.lean ====
section
/-! DEFINITION. The frame-lane jobs and their reads (spec/01 section 1.5, spec/02, spec/07 section 7.3, spec/10 section 10.6):
SCENE, TILE_MAP, LUT_LOAD, VERIFY. -/
namespace Sys2Proof.Machine

/-- The frame job that has been made RUNNING and is not yet judged, if it is of kind `k`. -/
def State.startedFrame (s : State) (k : Kind) : Option Job :=
  match s.running .frame with
  | none => none
  | some j => if s.frameRun = .started ∧ kindOf j.kind = some k then some j else none

/-! ## The lists a job reads (R18, R8, R120) -/

/-- A read of host memory that the System Bus Port makes: its address and its length in bytes. -/
structure HostRead where
  address : Nat
  length  : Nat
  deriving DecidableEq, Repr

/-- The read of layer record `i`: 32 bytes, 32 × i above the latched address (R18). A list that runs past FFFFFFFFh does not
wrap (the model's choice, log 52). -/
def Job.layerRead (j : Job) (i : Nat) : HostRead := { address := (j.word 16).toNat + 32 * i, length := 32 }

/-- The read of tile map entry `i`: 16 bytes, 16 × i above the latched address (R8), without wrapping (the model's choice,
log 52). -/
def Job.entryRead (j : Job) (i : Nat) : HostRead := { address := (j.word 16).toNat + 16 * i, length := 16 }

/-- The read of `n` table values from word `i` on: 2 bytes each, 2 × i above the latched address (R120), without wrapping (the
model's choice, log 52). -/
def Job.valuesRead (j : Job) (i n : Nat) : HostRead := { address := (j.word 24).toNat + 2 * i, length := 2 * n }

/-- The list read that the running frame job makes next, and whose end it waits for: the records, entries or words before it
have been read. A read of table values may cover fewer words than those that are left, from the first one on. -/
def State.listRead (s : State) : Option HostRead :=
  match s.frameRun, s.running .frame with
  | .layers ls, some j => some (j.layerRead ls.length)
  | .entries es, some j => some (j.entryRead es.length)
  | .values r, some j => some (j.valuesRead r.values.length (r.count - r.values.length))
  | _, _ => none

/-! ## SCENE up to LAYERS_READ (R16–R24) -/

/-- Parameter checks of a SCENE (R17). -/
def sceneFault (j : Job) : Option Reason :=
  if j.byte 20 > 32 then some .badCount
  else if j.byte 20 > 0 ∧ j.word 16 = 0 then some .badField
  else if j.byte 20 > 0 ∧ (j.word 16).toNat % 32 ≠ 0 then some .badAlign
  else none

/-- The scene record at LAYERS_READ (R54). -/
def newScene (j : Job) (e : Epoch) (participants : Mask) : SceneRec :=
  { epoch := e, participants := participants, dropped := 0, lastDrop := none, requireAll := j.bit 21 0, deadline := j.byte 22,
    target := none, flipSet := 0, flipSent := 0, confirmed := 0, unconfirmed := 0, lastUnconf := none, flags := .clear,
    stage := .layersRead, cursors := Vector.replicate 12 0, composed := Vector.replicate 12 0 }

/-- DISCARD for the epoch a participant's back store still holds (R43). R43 speaks of an epoch other than the scene's; that a
record which holds the scene's own epoch already gets its DISCARD too is the model's choice (log 58). -/
def State.discardOld (s : State) (t : TileId) : State :=
  match (s.tile t).back.epoch? with
  | none => s
  | some x => s.queueDiscard t x

/-- The step LAYERS_READ (R22, R23, R43, R54), with the drop of every LOST participant (R21, R56, log 15). -/
def State.layersRead (s : State) (j : Job) (layers : List Layer) (participants : Mask) : State :=
  let e := s.epochCounter + 1
  let s := { s with
    epochCounter := e
    composer := { s.composer with
      active := some { epoch := e, background := colourAt j.params.toList 12, layers := layers } }
    frameRun := .scene (newScene j e participants) }
  let s := s.writeProgress .layersRead
  let s := s.forEach (idsOf participants) (fun t s => s.discardOld t)
  let lost := maskOf (fun t =>
    match (s.tile t).geom.port with
    | none => false
    | some p => (s.port p).link == .lost)
  s.dropTiles (participants &&& lost) .lost

/-- Participants and epoch are fixed (R21, R22). -/
def State.fixParticipants (s : State) (j : Job) (layers : List Layer) : State :=
  let participants := s.targets (j.mask 24)
  if participants = 0 then s.completeFrame (invalidResult .noTiles none none)
  else if s.epochCounter = BitVec.allOnes 64 then s.completeFrame (invalidResult .epochSpent none none)
  else s.layersRead j layers participants

/-- SCENE (R17). -/
def execScene (s : State) : Host.Outcome State Fault Refusal :=
  match s.startedFrame .scene with
  | none => .next s
  | some j =>
    match sceneFault j with
    | some r => (s.completeFrame (invalidResult r none none)).settled
    | none => if j.byte 20 = 0 then (s.fixParticipants j []).settled else .next { s with frameRun := .layers [] }

/-- The layer list is read: the checks, then participants and epoch (R18, R20). -/
def State.checkLayers (s : State) (j : Job) (layers : List Layer) : State :=
  match layersFault 0 layers with
  | some (i, r) => s.completeFrame (invalidResult r (some i) none)
  | none => s.fixParticipants j layers

/-- LAYER_RECORD_READ (R18): the read at `State.listRead` ends. -/
def execLayerRecordRead (data : Option (Vector Byte 32)) (s : State) : Host.Outcome State Fault Refusal :=
  match s.frameRun, s.running .frame with
  | .layers ls, some j =>
    match data with
    | none => (s.completeFrame (plainResult .busError (detailBusError .layerList ls.length none 0 0))).settled
    | some bs =>
      let ls := ls ++ [decodeLayer bs.toList]
      if ls.length < j.byte 20 then .next { s with frameRun := .layers ls } else (s.checkLayers j ls).settled
  | _, _ => .next s

/-! ## Composition (R39, R40, R32) -/

/-- A composed stripe's buffer is READY and handed to its port (R39, R40); composing a number again sets RETRIED (R47, R68). The
model's choice (log 42): the flag is set as the second composition ends, and a composition that was abandoned does not count. -/
def State.storeStripe (s : State) (t : TileId) (p : PortId) (b : BufId) (st : Stripe) : State :=
  let s := s.modPort p (fun x => (x.setBuf b (.ready st)).enqueue (.stripe b))
  let n := st.id.number
  let s := s.modScene (fun r => { r with
    flags := if n < r.composed[t.val] then r.flags.retry else r.flags
    composed := r.composed.set t.val (max r.composed[t.val] (n + 1)) })
  { s with composer := { s.composer with engine := .free } }

/-- COMPOSITION_END (R39): the stripe of the granted buffer is composed from the active layer table. -/
def execCompositionEnd (image : MemImage) (stored : Option (List Byte)) (s : State) : Host.Outcome State Fault Refusal :=
  match s.composer.engine, s.composer.active with
  | .scene t p b, some tab =>
    match (s.port p).buf b with
    | .composing id =>
      let pixels := tab.stripePixels (s.tile t).geom (imageByte image s.compositions) id.number
      let s := { s with compositions := s.compositions + 1 }
      (s.storeStripe t p b { id := id, pixels := stored.getD pixels, check := crc32 pixels }).settled
    | .free | .ready _ | .sent _ => .next s
  | _, _ => .next s

/-- Whether composing stripe `k` of tile `t` from a table reads layer `i` (R31). -/
def State.readsLayer (s : State) (tab : LayerTable) (t : TileId) (k i : Nat) : Bool :=
  (tab.stripeReads (s.tile t).geom k).any (fun r => r.layer == i)

/-- SURFACE_BUS_ERROR (R32): the scene ends BUS_ERROR. The model's choice (log 41): a read made for a composition that has been
abandoned is not used (R35), and its bus error changes nothing. -/
def execSurfaceBusError (layer : Nat) (s : State) : Host.Outcome State Fault Refusal :=
  match s.composer.engine, s.composer.active, s.scene with
  | .scene t p b, some tab, some r =>
    match (s.port p).buf b with
    | .composing id =>
      if s.readsLayer tab t id.number layer then
        (s.endSceneWith r
          { outcome := .busError, flags := r.flags,
            detail := detailBusError .surface layer (some t) id.number r.epoch }).settled
      else .next s
    | .free | .ready _ | .sent _ => .next s
  | _, _, _ => .next s

/-! ## TILE_MAP (R7–R14) -/

/-- Parameter checks of a TILE_MAP (R7). -/
def tileMapFault (j : Job) : Option Reason :=
  if j.byte 20 < 1 ∨ 12 < j.byte 20 then some .badCount
  else if j.word 16 = 0 then some .badField
  else if (j.word 16).toNat % 16 ≠ 0 then some .badAlign
  else none

/-- TILE_MAP (R7). -/
def execTileMap (s : State) : Host.Outcome State Fault Refusal :=
  match s.startedFrame .tileMap with
  | none => .next s
  | some j =>
    match tileMapFault j with
    | some r => (s.completeFrame (invalidResult r none none)).settled
    | none => .next { s with frameRun := .entries [] }

/-- A tile's width or height in range (R9). -/
def sizeOk (n : Nat) : Bool := decide (64 ≤ n) && decide (n ≤ 1024) && n % 8 == 0

/-- The range checks of an entry (R9). -/
def MapEntry.inRange (e : MapEntry) : Bool :=
  decide (e.tile ≤ 11) && decide (e.port ≤ 11) && e.stripeCode != 3 && sizeOk e.width && sizeOk e.height &&
    decide (e.originX + e.width ≤ Config.planeSize) && decide (e.originY + e.height ≤ Config.planeSize)

/-- Two entries cover a common pixel (R10). -/
def MapEntry.overlaps (a b : MapEntry) : Bool :=
  decide (a.originX < b.originX + b.width) && decide (b.originX < a.originX + a.width) &&
    decide (a.originY < b.originY + b.height) && decide (b.originY < a.originY + a.height)

/-- The first failing check of an entry against one earlier entry (R10). -/
def MapEntry.collision (e earlier : MapEntry) : Option Reason :=
  if e.tile = earlier.tile then some .duplicate
  else if e.port = earlier.port then some .duplicate
  else if !e.excluded && !earlier.excluded && e.overlaps earlier then some .overlap
  else none

/-- The first earlier entry that an entry meets, with its index (R10). -/
def MapEntry.firstCollision (e : MapEntry) : Nat → List MapEntry → Option (Reason × Nat)
  | _, [] => none
  | i, f :: fs =>
    match e.collision f with
    | some r => some (r, i)
    | none => e.firstCollision (i + 1) fs

/-- The first failing entry: its reason, its index, and the earlier entry met (R9, R10). -/
def entriesFault (earlier : List MapEntry) : List MapEntry → Option (Reason × Nat × Option Nat)
  | [] => none
  | e :: es =>
    if !e.inRange then some (.badEntry, earlier.length, none)
    else
      match e.firstCollision 0 earlier with
      | some (r, i) => some (r, earlier.length, some i)
      | none => entriesFault (earlier ++ [e]) es

/-- The stripe height of a code (spec/01 section 1.5). -/
def stripeHeightOf (code : Nat) : StripeHeight := if code = 0 then .s8 else if code = 1 then .s16 else .s32

/-- The geometry of an entry (R2). -/
def MapEntry.geometry (e : MapEntry) : Geometry :=
  { mapping := if e.excluded then .excluded else .mapped
    port := some (Fin.ofNat 12 e.port)
    originX := e.originX, originY := e.originY, width := e.width, height := e.height
    stripe := some (stripeHeightOf e.stripeCode)
    loss := if e.blank then .blank else .hold
    bypass := e.bypass }

/-- The geometry a list gives tile `t` (R11). -/
def mapGeometry (es : List MapEntry) (t : TileId) : Geometry :=
  match es.find? (fun e => e.tile == t.val) with
  | none => .reset
  | some e => e.geometry

/-- A changed tile's record (R12). -/
def changedTile (g : Geometry) : Tile := { Tile.reset with geom := g }

/-- The tiles a list changes (R12). -/
def State.changedBy (s : State) (es : List MapEntry) : Mask := maskOf (fun t => mapGeometry es t != (s.tile t).geom)

/-- The ports that changed tiles name in the old or in the new map (R13). -/
def State.restartMask (s : State) (es : List MapEntry) : Mask :=
  maskOf (fun p => allIds.any (fun t =>
    mapGeometry es t != (s.tile t).geom &&
      ((s.tile t).geom.port == some p || (mapGeometry es t).port == some p)))

/-- The service order a list gives (R11). -/
def mapOrder (es : List MapEntry) : List TileId := (es.filter (fun e => !e.excluded)).map (fun e => Fin.ofNat 12 e.tile)

/-- The replacement of the wall map, in one step, and the job's completion (R11–R14). -/
def State.replaceMap (s : State) (es : List MapEntry) : State :=
  let changed := s.changedBy es
  let restarts := s.restartMask es
  let s := s.forEach allIds (fun t s =>
    if Mask.has changed t then s.setTile t (changedTile (mapGeometry es t)) else s)
  let s := { s with composer := { s.composer with order := mapOrder es, pointer := 0 } }
  let s := s.forEach (idsOf restarts) (fun p s => s.restartPort p)
  s.completeFrame (plainResult .ok (detailMasks changed s.mappedMask
    (maskOf (fun t => (s.tile t).geom.mapping == .excluded))))

/-- The entry list is read: the checks, then the replacement (R8). -/
def State.checkEntries (s : State) (es : List MapEntry) : State :=
  match entriesFault [] es with
  | some (r, i, earlier) => s.completeFrame (invalidResult r (some i) earlier)
  | none => s.replaceMap es

/-- TILE_MAP_ENTRY_READ (R8): the read at `State.listRead` ends. -/
def execTileMapEntryRead (data : Option (Vector Byte 16)) (s : State) : Host.Outcome State Fault Refusal :=
  match s.frameRun, s.running .frame with
  | .entries es, some j =>
    match data with
    | none => (s.completeFrame (plainResult .busError (detailBusError .entryList es.length none 0 0))).settled
    | some bs =>
      let es := es ++ [decodeEntry bs.toList]
      if es.length < j.byte 20 then .next { s with frameRun := .entries es } else (s.checkEntries es).settled
  | _, _ => .next s

/-! ## LUT_LOAD (R119–R121) -/

/-- Parameter checks of a LUT_LOAD with these targets (R119). -/
def lutFault (j : Job) (targets : Mask) : Option Reason :=
  if channelOf (j.byte 18) = none then some .badField
  else if j.half 20 = 0 ∨ 256 < j.half 20 then some .badCount
  else if 256 < j.byte 19 + j.half 20 then some .badCount
  else if j.word 24 = 0 then some .badField
  else if (j.word 24).toNat % 2 ≠ 0 then some .badAlign
  else if targets = 0 then some .noTiles
  else none

/-- A LUT_LOAD past its checks. -/
def newLut (j : Job) (serial : Nat) (targets : Mask) : LutRec :=
  { serial := serial, mode := (channelOf (j.byte 18)).getD .all, start := j.byte 19, count := j.half 20, values := [],
    targets := targets, outstanding := 0, acked := 0, skipped := 0, cleared := 0, flags := .clear }

/-- LUT_LOAD (R119). -/
def execLutLoad (s : State) : Host.Outcome State Fault Refusal :=
  match s.startedFrame .lutLoad with
  | none => .next s
  | some j =>
    let targets := s.targets (j.mask 16)
    match lutFault j targets with
    | some r => (s.completeFrame (invalidResult r none none)).settled
    | none => .next { s with serial := s.serial + 1, frameRun := .values (newLut j (s.serial + 1) targets) }

/-- VALUES_WORD_READ (R120): the read at `State.listRead` ends; it may cover several words. -/
def execValuesWordRead (words : Option (List Half)) (s : State) : Host.Outcome State Fault Refusal :=
  match s.frameRun with
  | .values r =>
    match words with
    | none =>
      (s.completeFrame
        { outcome := .busError, flags := r.flags, detail := detailBusError .valuesList r.values.length none 0 0 }).settled
    | some ws =>
      let r := { r with values := (r.values ++ ws.map tableValue).take r.count }
      if r.values.length < r.count then .next { s with frameRun := .values r } else (s.queueTables r).settled
  | .idle | .started | .layers _ | .scene _ | .entries _ | .lut _ | .verify _ | .listing _ _ => .next s

/-! ## VERIFY (R179–R182) -/

/-- Parameter checks of a VERIFY with these targets (R179). -/
def verifyFault (j : Job) (targets : Mask) : Option Reason :=
  if j.word 20 = 0 then some .badField
  else if (j.word 20).toNat % 4 ≠ 0 then some .badAlign
  else if targets = 0 then some .noTiles
  else none

/-- VERIFY (R179). -/
def execVerify (s : State) : Host.Outcome State Fault Refusal :=
  match s.startedFrame .verify with
  | none => .next s
  | some j =>
    let targets := s.targets (j.mask 16)
    match verifyFault j targets with
    | some r => (s.completeFrame (invalidResult r none none)).settled
    | none => (s.queueChecks (j.word 20) targets).settled

/-- Stripe `r.stripe` of the report in front has the CRC `crc`: compared, and the target is checked after its last stripe
(R181). -/
def VerifyRec.compare (r : VerifyRec) (crc : Word) : VerifyRec :=
  match r.reports with
  | [] => r
  | rep :: rest =>
    let mismatches :=
      if rep.crcs[r.stripe]? = some crc then r.mismatches else r.mismatches ++ [(rep.tile, r.stripe)]
    if r.stripe + 1 < rep.crcs.length then { r with mismatches := mismatches, stripe := r.stripe + 1 }
    else { r with mismatches := mismatches, stripe := 0, reports := rest, checked := r.checked ||| bitOf rep.tile }

/-- VERIFY_RECOMPOSITION (R181). -/
def execVerifyRecomposition (image : MemImage) (s : State) : Host.Outcome State Fault Refusal :=
  match s.composer.engine, s.verify with
  | .verify t p b, some r =>
    match r.table with
    | none => .next s
    | some tab =>
      let crc := crc32 (tab.stripePixels (s.tile t).geom (imageByte image s.compositions) r.stripe)
      let s := { s.modPort p (fun x => x.freeBuf b) with
        compositions := s.compositions + 1, composer := { s.composer with engine := .free }, frameRun := .verify (r.compare crc) }
      s.settleVerify.settled
  | _, _ => .next s

/-- VERIFY_SURFACE_BUS_ERROR (R181). -/
def execVerifySurfaceBusError (layer : Nat) (s : State) : Host.Outcome State Fault Refusal :=
  match s.composer.engine, s.verify with
  | .verify t _ _, some r =>
    match r.table with
    | none => .next s
    | some tab =>
      if s.readsLayer tab t r.stripe layer then
        ((s.stopVerify (Reliable.isCheckOf r.serial)).completeFrame
          { outcome := .busError, flags := r.flags, detail := detailBusError .surface layer (some t) r.stripe 0 }).settled
      else .next s
  | _, _ => .next s

/-- The bytes of a mismatch entry (spec/11 section 11.6). Byte 1, which the layout does not list, is written 0 by the model's
choice (log 65). -/
def mismatchBytes (m : TileId × Nat) : List Byte := le1 m.1.val ++ zeros 1 ++ le2 m.2

/-- MISMATCH_LIST_WRITE (R182): entry n is written 4 × n above the list address, without wrapping where that passes FFFFFFFFh
(the model's choice, log 52). -/
def execMismatchListWrite (ok : Bool) (s : State) : Host.Outcome State Fault Refusal :=
  match s.frameRun with
  | .listing r n =>
    if ok then
      match (r.sorted s.composer.order)[n]? with
      | none => (s.completeFrame r.result).settled
      | some m =>
        let s := s.busWrite (r.list.toNat + 4 * n) (mismatchBytes m)
        if n + 1 < r.entries then .next { s with frameRun := .listing r (n + 1) } else (s.completeFrame r.result).settled
    else
      (s.completeFrame { outcome := .busError, flags := r.flags, detail := detailBusError .mismatchList n none 0 0 }).settled
  | .idle | .started | .layers _ | .scene _ | .entries _ | .values _ | .lut _ | .verify _ => .next s

end Sys2Proof.Machine
end

