-- ==== Sys2Proof/Machine/Sense.lean ====
section
/-! DEFINITION. The sense record (R169, R186, spec/11 section 11.7): its 13 chunks of 64 bytes, and the clears that go with the
gathering (R168). -/
namespace Sys2Proof.Machine

/-- The policy in the layout of POLICY parameter bytes 16–25 (spec/11 section 11.4). -/
def Policy.bytes (p : Policy) : List Byte :=
  le1 p.retryLimit ++ le1 p.downshift ++ le1 p.ceiling.code ++ le1 (bitsByte [p.failSafe]) ++ le2 p.silenceMs ++
    le2 p.ackUs ++ le2 p.trainUs

/-- Entries of a lane in the Job List. -/
def State.laneCount (s : State) (l : Lane) : Nat := (s.jobs.filter (fun j => j.lane == some l)).length

/-- The code of a pending switch's target; 0 for none. -/
def Reference.targetCode (r : Reference) : Nat :=
  match r.switch with
  | none => 0
  | some w => w.target.code

/-- The 64-byte header (R186). Bytes 10 and 11, which the layout does not list, are written 0 by the model's choice (log 65). -/
def State.senseHeader (s : State) : List Byte :=
  fixLength 64 (le1 s.power.state.code ++ le1 (bitsByte [s.halted.isSome]) ++ le1 (haltCode s.halted) ++
    le1 s.intake.state.code ++ le1 (s.laneCount .frame) ++ le1 (s.laneCount .control) ++ le1 s.ref.state.code ++
    le1 s.ref.source.code ++ le1 (bitsByte [s.ref.lock]) ++ le1 s.ref.targetCode ++ zeros 2 ++ le4 s.ref.frameNumber.toNat ++
    le4 s.ref.period ++ le8 s.epochCounter.toNat ++ le8 s.presented.toNat ++ s.policy.bytes)

/-- The back store state code, epoch and acknowledged stripe count of a tile record (R169, R186). -/
def BackStore.report (b : BackStore) (stripes : Nat) : Nat × Epoch × Nat :=
  match b with
  | .empty => (0, 0, 0)
  | .loading e n => (1, e, n)
  | .armed e => (2, e, stripes)
  | .scheduled e _ => (3, e, stripes)

/-- Bytes 2–13 of a tile record: the port's values. -/
def Port.senseBytes (x : Port) : List Byte :=
  le1 x.link.code ++ le1 (lostCode x.lostCause) ++ le1 x.grade.code ++ le1 x.attempts ++ le1 x.tally ++ x.ind.byte ++
    le2 x.identity.model.toNat ++ le2 x.identity.width.toNat ++ le2 x.identity.height.toNat

/-- The 64-byte tile record of tile `t`. -/
def State.senseTile (s : State) (t : TileId) : List Byte :=
  let r := s.tile t
  let b := r.back.report (s.stripesOf t)
  fixLength 64 (
    le1 (r.geom.mapping.code + 4 * bitsByte [r.pendingGen.isSome, r.stale]) ++
    le1 (match r.geom.port with | some p => p.val | none => 255) ++
    (match r.geom.port with | some p => (s.port p).senseBytes | none => zeros 12) ++
    le1 b.1 ++ le1 b.2.2 ++ le8 r.front.toNat ++ le8 b.2.1.toNat ++ le2 r.activeGen.toNat ++
    le2 (r.pendingGen.getD 0).toNat ++
    (match r.geom.port with | some p => (s.port p).ctr.bytes | none => zeros 28))

/-- The 13 chunks of the record (R170). -/
def State.senseRecord (s : State) : List (List Byte) := s.senseHeader :: allIds.map s.senseTile

/-- A port's clears (R114, R115, R168). -/
def Port.senseClear (x : Port) (counters latched : Bool) : Port :=
  { x with ctr := if counters then .zero else x.ctr, ind := if latched then .clear else x.ind }

/-- Every port's clears (R168). -/
def State.senseClears (s : State) (counters latched : Bool) : State :=
  s.forEach allIds (fun p s => s.modPort p (fun x => x.senseClear counters latched))

/-- Parameter checks of a SENSE (R168). -/
def senseFault (j : Job) : Option Reason :=
  if j.word 16 = 0 then some .badField
  else if (j.word 16).toNat % 64 ≠ 0 then some .badAlign
  else if 0xFFFFFCC0 < (j.word 16).toNat then some .badField
  else none

/-- The two clear flags as a byte (R185). -/
def Job.clears (j : Job) : Byte := BitVec.ofNat 8 (bitsByte [j.bit 20 0, j.bit 20 1])

end Sys2Proof.Machine
end

