-- ==== Sys2Proof/Machine/ControlJobs.lean ====
section
/-! DEFINITION. The control-lane jobs (spec/08 sections 8.3 and 8.5, spec/10): POLICY, SENSE, RECOVER, LINK_TEST, WITHDRAW,
REFERENCE, POWER. -/
namespace Sys2Proof.Machine

/-- The control job that has been made RUNNING and is not yet judged, if it is of kind `k`. -/
def State.startedControl (s : State) (k : Kind) : Option Job :=
  match s.running .control with
  | none => none
  | some j => if s.controlRun = .started ∧ kindOf j.kind = some k then some j else none

/-! ## POLICY (R166, R167, R92) -/

/-- The first field out of range, by its position in the table of R166. -/
def policyFault (j : Job) : Option Nat :=
  if 15 < j.byte 16 then some 1
  else if j.byte 17 < 1 ∨ 8 < j.byte 17 then some 2
  else if gradeOf (j.byte 18) = none then some 3
  else if j.half 20 < 20 ∨ 1000 < j.half 20 then some 4
  else if j.half 22 < 10 ∨ 1000 < j.half 22 then some 5
  else if j.half 24 < 500 ∨ 20000 < j.half 24 then some 6
  else none

/-- The seven fields of a POLICY (R166). -/
def newPolicy (j : Job) : Policy :=
  { retryLimit := j.byte 16, downshift := j.byte 17, ceiling := (gradeOf (j.byte 18)).getD .l1, silenceMs := j.half 20,
    ackUs := j.half 22, trainUs := j.half 24, failSafe := j.bit 19 0 }

/-- The store is written, the ceiling is applied to every port, a stalled reference may fall back, and the POLICY completes
(R167). -/
def State.writePolicy (s : State) (p : Policy) : State :=
  let retrained := maskOf (s.retrained p.ceiling)
  let fallback := s.ref.state == .stalled && p.failSafe
  let s := { s with policy := p }
  let s := s.forEach allIds (fun i s => s.applyCeiling i)
  s.failSafeEnabled.completeControl (plainResult .ok (detailPolicy retrained fallback))

/-- POLICY (R166, R167). -/
def execPolicy (s : State) : Host.Outcome State Fault Refusal :=
  match s.startedControl .policy with
  | none => .next s
  | some j =>
    match policyFault j with
    | some i => (s.completeControl (invalidResult .badField (some i) none)).settled
    | none => (s.writePolicy (newPolicy j)).settled

/-! ## SENSE (R168–R170) -/

/-- SENSE (R168): the record is gathered, and the clears are made. -/
def execSense (s : State) : Host.Outcome State Fault Refusal :=
  match s.startedControl .sense with
  | none => .next s
  | some j =>
    match senseFault j with
    | some r => (s.completeControl (invalidResult r none none)).settled
    | none =>
      .next { s.senseClears (j.bit 20 0) (j.bit 20 1) with
        controlRun := .sense s.senseRecord 0 s.ref.frameNumber j.clears }

/-- SENSE_RECORD_WRITE (R170). -/
def execSenseRecordWrite (ok : Bool) (s : State) : Host.Outcome State Fault Refusal :=
  match s.controlRun, s.running .control with
  | .sense chunks n frame clears, some j =>
    match chunks with
    | [] => .next s
    | c :: rest =>
      if ok then
        let s := s.busWrite ((j.word 16).toNat + 64 * n) c
        if rest = [] then (s.completeControl (plainResult .ok (detailSense frame clears))).settled
        else .next { s with controlRun := .sense rest (n + 1) frame clears }
      else (s.completeControl (plainResult .busError (detailBusError .senseBuffer n none 0 0))).settled
  | _, _ => .next s

/-! ## RECOVER (R171, R94) -/

/-- The targets whose port is in a link state. -/
def State.targetsIn (s : State) (targets : Mask) (l : LinkState) : Mask :=
  maskOf (fun t => Mask.has targets t && (match (s.tile t).geom.port with | some p => (s.port p).link == l | none => false))

/-- Tile `t`'s port is recovered. -/
def State.recoverTile (s : State) (t : TileId) : State :=
  match (s.tile t).geom.port with
  | none => s
  | some p => s.recoverPort p

/-- RECOVER (R171). -/
def execRecover (s : State) : Host.Outcome State Fault Refusal :=
  match s.startedControl .recover with
  | none => .next s
  | some j =>
    let targets := s.targets (j.mask 16)
    if targets = 0 then (s.completeControl (invalidResult .noTiles none none)).settled
    else
      let detail := detailMasks targets (s.targetsIn targets .lost) (s.targetsIn targets .up)
      ((s.forEach (idsOf targets) (fun t s => s.recoverTile t)).completeControl (plainResult .ok detail)).settled

/-! ## LINK_TEST (R174) -/

/-- The RUNNING control job becomes IN_FLIGHT and frees its lane (R158). -/
def State.takeFlight (s : State) (j : Job) : State :=
  { s.modJob j.addr (fun k => { k with status := .inFlight }) with controlRun := .idle }

/-- A LINK_TEST's codes (R174 step 1): tile, pattern, mode and length. -/
def testCodes (j : Job) : Option (TileId × Pattern × TestMode) :=
  match patternOf (j.byte 17), testModeOf (j.byte 18) with
  | some pat, some mode =>
    if j.byte 16 ≤ 11 ∧ testLength (j.half 20) = true then some (Fin.ofNat 12 (j.byte 16), pat, mode) else none
  | _, _ => none

/-- A scene is delivering to tile `t` (R51). -/
def State.deliveringTo (s : State) (t : TileId) : Bool :=
  match s.scene with
  | none => false
  | some r => r.stage.delivering? && Mask.has r.participants t && !Mask.has r.dropped t

/-- The port on which a test of tile `t` can begin; none where the job completes BUSY (R174 step 4). -/
def State.testPort (s : State) (t : TileId) : Option PortId :=
  match (s.tile t).geom.port with
  | none => none
  | some p =>
    if (s.port p).test.isNone && (s.port p).link == .up && (s.tile t).back == .empty && !s.deliveringTo t then some p else none

/-- A test that begins: counts 0, the first TEST due (R174). -/
def newTest (j : Job) (t : TileId) (pat : Pattern) (mode : TestMode) : LinkTest :=
  { job := j.addr, tile := t, pattern := pat, mode := mode, length := j.half 20, count := j.half 22, inject := j.half 24,
    sent := 0, good := 0, bad := 0, mismatch := 0, lost := 0, injected := 0, outstanding := none, due := true,
    echoTimer := none, resultTimer := none }

/-- LINK_TEST (R174). -/
def execLinkTest (s : State) : Host.Outcome State Fault Refusal :=
  match s.startedControl .linkTest with
  | none => .next s
  | some j =>
    match testCodes j with
    | none => (s.completeControl (invalidResult .badField none none)).settled
    | some (t, pat, mode) =>
      if j.half 22 = 0 then (s.completeControl (invalidResult .badCount none none)).settled
      else if !s.isMapped t then (s.completeControl (invalidResult .noTiles none none)).settled
      else
        match s.testPort t with
        | none => (s.completeControl (plainResult .busy detailZero)).settled
        | some p =>
          (((s.takeFlight j).modPort p (fun x => { x with test := some (newTest j t pat mode) })).lookControl).settled

/-! ## WITHDRAW (R172, R173) -/

/-- What a WITHDRAW does to the target it finds, and its own outcome (R172). A target whose completion has been taken is
found no more (R173), but for a TILE_MAP that has replaced the map: TOO_LATE (R14). -/
def State.withdrawTarget (s : State) (j : Job) : State × JobOutcome :=
  match j.result, j.status, kindOf j.kind with
  | some r, .running, some .tileMap => (s, if r.outcome = .ok then .tooLate else .notFound)
  | some _, _, _ => (s, .notFound)
  | none, .waiting, _ => (s.hand j.addr (plainResult .withdrawn detailZero), .ok)
  | none, .running, some .scene =>
    match s.frameRun with
    | .scene r => if r.stage = .flipScheduled then (s, .tooLate) else (s.endSceneEarly .withdrawn, .ok)
    | .idle | .started | .layers _ | .entries _ | .values _ | .lut _ | .verify _ | .listing _ _ =>
      (s.completeFrame (plainResult .withdrawn detailZero), .ok)
  | none, .running, _ => (s, .tooLate)
  | none, .inFlight, some .reference => (s.endSwitch .withdrawn, .ok)
  | none, .inFlight, _ =>
    (s.forEach allIds (fun p s =>
      match (s.port p).test with
      | none => s
      | some k => if k.job = j.addr then s.endTest p .withdrawn else s), .ok)

/-- WITHDRAW (R172). -/
def execWithdraw (s : State) : Host.Outcome State Fault Refusal :=
  match s.startedControl .withdraw with
  | none => .next s
  | some j =>
    let a := j.word 16
    if misaligned64 a then (s.completeControl (invalidResult .badAlign none none)).settled
    else
      match s.findJob a with
      | none => (s.completeControl (plainResult .notFound (detailWithdraw none))).settled
      | some target =>
        if kindOf target.kind = some .withdraw then (s.completeControl (invalidResult .badField none none)).settled
        else
          let (s, o) := s.withdrawTarget target
          (s.completeControl (plainResult o (detailWithdraw (if o = .notFound then none else some target)))).settled

/-! ## REFERENCE (R132, R133) -/

/-- A REFERENCE's target code: `none` for UNCHANGED (R132, spec/11 section 11.4). -/
def referenceTarget (code : Nat) : Option Source :=
  if code = 1 then some .intern else if code = 2 then some .extern else none

/-- The frame period of a REFERENCE is applied when it is not 0 (R132). -/
def State.applyPeriod (s : State) (period : Nat) : State :=
  if period = 0 then s else { s with ref := { s.ref with period := period } }

/-- The lock count that a REFERENCE reports: 0 when no switch to EXTERNAL is pending (R136). -/
def Reference.reached (r : Reference) : Nat := if r.switchingTo .extern then r.lockCount else 0

/-- The RUNNING REFERENCE completes with the detail of R136; `lock`: it sets the reference lock. -/
def State.completeReference (s : State) (o : JobOutcome) (count : Nat) (lock : Bool) : State :=
  let s := if lock then { s with ref := { s.ref with lock := true } } else s
  s.completeControl (plainResult o (detailReference s.ref count))

/-- A source request is judged (R133). A REDUNDANT one that cancels a switch to EXTERNAL reports the count that switch had
reached (log 23). -/
def State.requestSource (s : State) (j : Job) (target : Source) : State :=
  let count := s.ref.reached
  let s := s.endSwitch .superseded
  if target = s.ref.source then s.completeReference .redundant count false
  else
    let s := s.takeFlight j
    match target with
    | .extern => (s.beginExternal (some j.addr)).lookControl
    | .intern => (s.beginInternal j.addr).lookControl

/-- REFERENCE (R132). -/
def execReference (s : State) : Host.Outcome State Fault Refusal :=
  match s.startedControl .reference with
  | none => .next s
  | some j =>
    let code := j.byte 16
    let period := (j.word 20).toNat
    if s.ref.lock then (s.completeControl (plainResult .rejected detailZero)).settled
    else if 2 < code then (s.completeControl (invalidResult .badField none none)).settled
    else if period ≠ 0 ∧ (period < 5000 ∨ 50000 < period) then
      (s.completeControl (invalidResult .badField none none)).settled
    else if s.asleep && code != 0 then (s.completeControl (plainResult .notRunning detailZero)).settled
    else
      let s := s.applyPeriod period
      match referenceTarget code with
      | none => (s.completeReference .ok s.ref.reached (j.bit 17 0)).settled
      | some target => (s.requestSource j target).settled

/-! ## POWER (R140–R143) -/

/-- A POWER to `target` is judged by the table of R140. A wake from STANDBY leaves a SENT buffer to its acknowledgement
(R35), where R52 says that a wake finds every buffer FREE (log 43). -/
def State.changePower (s : State) (target : PowerState) : State :=
  match s.power.state, target with
  | .run, .run => s
  | .run, .standby => s.enterStandby
  | .run, .sleep => s.enterSleep
  | .standby, .run => ({ s with power := { s.power with state := .run } }.completePower .standby .run).lookFrame
  | .standby, .standby => s
  | .standby, .sleep => s.enterSleep
  | .sleep, .run => s.beginSettle .run
  | .sleep, .standby => s.beginSettle .standby
  | .sleep, .sleep => s

/-- POWER (R140). -/
def execPower (s : State) : Host.Outcome State Fault Refusal :=
  match s.startedControl .power with
  | none => .next s
  | some j =>
    match powerOf (j.byte 16) with
    | none => (s.completeControl (invalidResult .badField none none)).settled
    | some target =>
      if s.power.state = target then
        (s.completeControl (plainResult .redundant (detailPower target target))).settled
      else ({ s with controlRun := .power }.changePower target).settled

/-- WAKE_SETTLE_END (R143). -/
def execWakeSettleEnd (s : State) : Host.Outcome State Fault Refusal := s.endSettle.settled

end Sys2Proof.Machine
end

