-- ==== Sys2Proof/Machine/FrameCommands.lean ====
section
/-! DEFINITION. The commands of the Frame Reference and of the limits counted in frames (spec/08, R57, R66). -/
namespace Sys2Proof.Machine

/-- FRAME_START (R130). -/
def execFrameStart (s : State) : Host.Outcome State Fault Refusal := s.timedFrame.settled

/-- SYNC_IN_PULSE (R131, R134, R135). -/
def execSyncInPulse (s : State) : Host.Outcome State Fault Refusal := s.takePulse.settled

/-- LOSS_DECLARED (R131, R135). -/
def execLossDeclared (s : State) : Host.Outcome State Fault Refusal := s.declareLoss.settled

/-- LOCK_PULSE (R134): the pulse that raises the lock count to 8. -/
def execLockPulse (s : State) : Host.Outcome State Fault Refusal :=
  if s.ref.state = .intern ∧ s.ref.switchingTo .extern = true ∧ s.ref.lockCount + 1 = Config.lockPulses then
    s.lockPulse.settled
  else .next s

/-- LOCK_TIMER_EXPIRY (R134). -/
def execLockTimerExpiry (s : State) : Host.Outcome State Fault Refusal := s.lockExpired.settled

/-- Whether one more frame start brings the deadline to 0 (R57); none is to come while no frame starts occur. -/
def State.deadlineNext (s : State) : Bool :=
  match s.scene with
  | none => false
  | some r => s.ref.framesOccur && r.stage.delivering? && r.deadline == 1

/-- DEADLINE_EXPIRY (R57, log 6). -/
def execDeadlineExpiry (s : State) : Host.Outcome State Fault Refusal :=
  if s.deadlineNext then s.expireDeadline.settled else .next s

/-- Whether the frame start numbered F + 8 of tile `t` is the next one or has passed (R66); none is to come while no frame
starts occur. -/
def State.limitNext (s : State) (t : TileId) : Bool :=
  match s.scene with
  | none => false
  | some r => s.ref.framesOccur && r.awaits r.epoch t && laterOrEqual (s.ref.frameNumber + 1) (s.limitTarget r t + 8)

/-- CONFIRMATION_LIMIT (R66, log 6). -/
def execConfirmationLimit (t : TileId) (s : State) : Host.Outcome State Fault Refusal :=
  match s.scene with
  | none => .next s
  | some r => if s.limitNext t then (s.passLimit r t).settleScene.settled else .next s

end Sys2Proof.Machine
end

