-- ==== Sys2Proof/Machine/LinkCommands.lean ====
section
/-! DEFINITION. The commands of bring-up and of a link's limits (spec/05, R98). -/
namespace Sys2Proof.Machine

/-- A received packet fails a check (R98); a damaged TRAIN sets the lock count back (R83, log 25). -/
def Port.checkFailed (x : Port) (why : CheckFailure) : Port :=
  let train :=
    match why with
    | .crc t => t == 0x83
    | .length t => t == 0x83
    | .type _ => false
  { x with
    ctr := { x.ctr with badReceived := satInc x.ctr.badReceived }
    ind := { x.ind with badPacket := true }
    lockCount := if train && x.link == .train then 0 else x.lockCount }

/-- RECEIVE_CHECK_FAILURE (R98): nothing is checked on an OFF or LOST port. -/
def execReceiveCheckFailure (p : PortId) (why : CheckFailure) (s : State) : Host.Outcome State Fault Refusal :=
  match (s.port p).link with
  | .off => .next s
  | .lost => .next s
  | .listen | .offer | .train | .up => .next (s.modPort p (fun x => x.checkFailed why))

/-- BEACON_RECEIVED (R78, R79, R85, R86). -/
def execBeaconReceived (p : PortId) (s : State) : Host.Outcome State Fault Refusal :=
  match (s.port p).link with
  | .listen => (s.enterOffer p).settled
  | .train => (s.enterOffer p).settled
  | .off | .offer | .up | .lost => .next s

/-- OFFER_RECEIVED (R78–R80, R85, R86). An OFFER that takes the port to OFFER is taken before the port's own first OFFER is
begun, which therefore carries SEEN (R79; the model's choice, log 48). -/
def execOfferReceived (p : PortId) (offer : Option TileOffer) (s : State) : Host.Outcome State Fault Refusal :=
  match (s.port p).link with
  | .listen => ((s.enterOffer p).takeOffer p offer).settled
  | .train => ((s.enterOffer p).takeOffer p offer).settled
  | .offer => (s.takeOffer p offer).settled
  | .off | .up | .lost => .next s

/-- The lock count after a tile TRAIN naming a grade (R83, R188). -/
def Port.trainCount (x : Port) (grade : Byte) : Nat :=
  if grade.toNat = x.grade.code then min (x.lockCount + 1) Config.lockPackets else 0

/-- A tile TRAIN taken in TRAIN (R83, R108). -/
def State.takeTrain (s : State) (p : PortId) (grade : Byte) (locked : Bool) (expected : Byte) : State :=
  let x := s.port p
  let n := x.trainCount grade
  let lockedNow := x.locked || n == Config.lockPackets
  let s := s.setPort p { x with lockCount := n, locked := lockedNow }
  if lockedNow && locked then s.enterUp p expected else s

/-- TRAIN_RECEIVED (R83, R86). -/
def execTrainReceived (p : PortId) (grade : Byte) (locked : Bool) (expected : Byte) (s : State) :
    Host.Outcome State Fault Refusal :=
  match (s.port p).link with
  | .train => (s.takeTrain p grade locked expected).settled
  | .off | .listen | .offer | .up | .lost => .next s

/-- BEACON_TIMER (R78). -/
def execBeaconTimer (p : PortId) (s : State) : Host.Outcome State Fault Refusal :=
  if (s.port p).link = .listen ∧ (s.port p).beaconTimer.isSome = true then
    (s.modPort p (fun x => { x with beaconDue := true, beaconTimer := some Config.repeatInterval })).settled
  else .next s

/-- OFFER_REPEAT_TIMER (R79). -/
def execOfferRepeatTimer (p : PortId) (s : State) : Host.Outcome State Fault Refusal :=
  if (s.port p).link = .offer ∧ (s.port p).offerRepeat.isSome = true then
    (s.modPort p (fun x => { x with
      offersDue := x.offersDue + 1, offerRepeat := some Config.repeatInterval })).settled
  else .next s

/-- OFFER_TIMEOUT (R80). -/
def execOfferTimeout (p : PortId) (s : State) : Host.Outcome State Fault Refusal :=
  if (s.port p).link = .offer ∧ (s.port p).offerTimer.isSome = true then (s.restartOffer p).settled else .next s

/-- TRAIN_TIMEOUT (R84). -/
def execTrainTimeout (p : PortId) (s : State) : Host.Outcome State Fault Refusal :=
  if (s.port p).link = .train ∧ (s.port p).trainTimer.isSome = true then (s.countFailure p).settled else .next s

/-- SILENCE (R89). -/
def execSilence (p : PortId) (s : State) : Host.Outcome State Fault Refusal :=
  if (s.port p).link = .up ∧ (s.port p).silenceTimer.isSome = true then (s.fallSilent p).settled else .next s

/-- The 64th frame start in UP (R87). -/
def Port.stable (x : Port) : Port := { x with stability := Config.stabilityLimit, attempts := 0 }

/-- STABILITY_REACHED (R87, log 6): nothing while no frame starts occur. -/
def execStabilityReached (p : PortId) (s : State) : Host.Outcome State Fault Refusal :=
  if s.ref.framesOccur = true ∧ (s.port p).link = .up ∧ (s.port p).stability + 1 = Config.stabilityLimit then
    .next (s.modPort p Port.stable)
  else .next s

end Sys2Proof.Machine
end

