-- ==== Sys2Proof/Machine/IntakeCommands.lean ====
section
/-! DEFINITION. The commands of the register window (R145–R147, but for the soft reset) and of the intake's bus accesses
(R150–R161). -/
namespace Sys2Proof.Machine

/-! ## CONTROL (R146, R138) -/

/-- START_EXTERNAL is stored (R138). -/
def State.storeExternal (s : State) (b : Bool) : State := { s with intake := { s.intake with startExternal := b } }

/-- The first enable since power-on reset: start-up done is set, and a start-up switch begins with START_EXTERNAL 1 (R138). -/
def State.startUp (s : State) : State :=
  if s.ref.startUpDone then s
  else
    let s := { s with ref := { s.ref with startUpDone := true } }
    if s.intake.startExternal then s.beginExternal none else s

/-- ENABLE goes from 0 to 1 (R146, R149). -/
def State.enable (s : State) : State :=
  let s := { s with intake := { s.intake with enable := true } }.startUp
  match s.intake.state with
  | .off => s.beginPass
  | .idle => s
  | .scanning => s
  | .full => s
  | .chainFault => s

/-- ENABLE goes from 1 to 0 (R146): at once in IDLE and FULL, at the end of the examination in SCANNING. -/
def State.disable (s : State) : State :=
  let s := { s with intake := { s.intake with enable := false } }
  match s.intake.state with
  | .off => s
  | .idle => s.intakeOff
  | .scanning => s
  | .full => s.intakeOff
  | .chainFault => s

/-- A CONTROL write with SOFT_RESET 0 (R146): ENABLE written with its present value does nothing. -/
def State.writeControl (s : State) (enable external : Bool) : State :=
  let s := s.storeExternal external
  if enable && !s.intake.enable then s.enable
  else if !enable && s.intake.enable then s.disable
  else s

/-- ENABLE_SET (R146, R138). -/
def execEnableSet (external : Bool) (s : State) : Host.Outcome State Fault Refusal := .next (s.writeControl true external)

/-- ENABLE_CLEAR (R146). -/
def execEnableClear (external : Bool) (s : State) : Host.Outcome State Fault Refusal := .next (s.writeControl false external)

/-- START_EXTERNAL_WRITE (R138): ENABLE is written with its present value. -/
def execStartExternalWrite (external : Bool) (s : State) : Host.Outcome State Fault Refusal :=
  .next (s.storeExternal external)

/-- ATTENTION (R149). -/
def execAttention (s : State) : Host.Outcome State Fault Refusal := .next s.takeAttention

/-- A read of CAUSE returns the bits and clears them (R147). -/
def State.readCause (s : State) : State :=
  { s with causes := .clear, bus := { s.bus with lastRead := s.causes.toWord } }

/-- CAUSE_READ (R147). -/
def execCauseRead (s : State) : Host.Outcome State Fault Refusal := .next s.readCause

/-- CAUSE_ENABLE is written (R145, R147). -/
def State.writeCauseEnable (s : State) (w : Word) : State := { s with causeEnable := .ofWord w }

/-- CAUSE_ENABLE_WRITE (R147). -/
def execCauseEnableWrite (w : Word) (s : State) : Host.Outcome State Fault Refusal := .next (s.writeCauseEnable w)

/-- SCAN_PERIOD_WRITE (R150). -/
def execScanPeriodWrite (w : Word) (s : State) : Host.Outcome State Fault Refusal := .next (s.writeScanPeriod w)

/-! ## The intake's accesses -/

/-- SCAN_TIMER_EXPIRY (R150). -/
def execScanTimerExpiry (s : State) : Host.Outcome State Fault Refusal := .next s.scanExpired

/-- LINK_READ (R152); a halt's DISCARDs are begun in the same step. -/
def execLinkRead (link : Option Word) (s : State) : Host.Outcome State Fault Refusal := (s.linkRead link).settled

/-- LOCKED_EXCHANGE (R153). -/
def execLockedExchange (word0 : Option Word) (s : State) : Host.Outcome State Fault Refusal := (s.exchanged word0).settled

/-- TAKING_READ (R154). -/
def execTakingRead (data : Option (Word × Vector Byte 32)) (s : State) : Host.Outcome State Fault Refusal :=
  (s.takeBlock data).settled

/-- VOID_LIMIT (R155): the exchange under way finds the 256th consecutive VOID block of the pass. -/
def execVoidLimit (s : State) : Host.Outcome State Fault Refusal :=
  match s.intake.pass with
  | .exchange a => if s.intake.voidRun + 1 = Config.voidLimit then .next (s.passVoid a) else .next s
  | .none => .next s
  | .link => .next s
  | .taking _ _ => .next s

/-- PROGRESS_WRITE (R159). -/
def execProgressWrite (block : Word) (ok : Bool) (s : State) : Host.Outcome State Fault Refusal :=
  (s.progressEnds block ok).settled

/-- JOB_COMPLETION (R160). -/
def execJobCompletion (block : Word) (s : State) : Host.Outcome State Fault Refusal := (s.complete block).settled

/-- COMPLETION_BUS_ERROR (R161). -/
def execCompletionBusError (block : Word) (failed : CompletionWrite) (s : State) : Host.Outcome State Fault Refusal :=
  (s.completionFails block failed).settled

end Sys2Proof.Machine
end

