-- ==== Sys2Proof/Machine/Resets.lean ====
section
/-! DEFINITION. Power-on reset and soft reset (R3, R35, R52, R72, R96, R139, R143, R146, R164–R166), and REGISTER_WRITE (R145). -/
namespace Sys2Proof.Machine

/-! ## Power-on reset -/

/-- Every block at its power-on values (R165); the waiting commands and what the model has recorded of the bus are not state
of the controller (log 35). -/
def State.powerOn (s : State) : State :=
  { State.reset with pending := s.pending, bus := s.bus, serial := s.serial, compositions := s.compositions }

/-- POWER_ON_RESET (R165). -/
def execPowerOnReset (s : State) : Host.Outcome State Fault Refusal := .next s.powerOn

/-! ## Soft reset -/

/-- The intake after soft reset (R164, R145). -/
def Intake.softReset (i : Intake) : Intake :=
  { i with state := .off, enable := false, anchor := none, rescan := false, scanTimer := none, pass := .none, voidRun := 0 }

/-- A port after soft reset, before the ports of MAPPED tiles go to LISTEN (R96, R35). Its next sequence number and the
packet it is sending stay (log 32). -/
def Port.softReset (x : Port) : Port :=
  { x.stopTimers.clearDue with
    link := .off, lostCause := none, grade := Policy.default.ceiling, attempts := 0, stability := 0, offer := none,
    tileSeen := false, seenSent := false, lockCount := 0, locked := false, tally := 0, ind := .clear, window := [],
    queue := [], run := [], recorded := false, answered := none, bufA := .free, bufB := .free, olderFree := .first,
    test := none }

/-- Soft reset of the lists, records and ports; every port is OFF (R3, R52, R72, R96, R164, R166). -/
def State.clearAll (s : State) : State :=
  { s with
    intake := s.intake.softReset
    causes := .clear
    halted := none
    jobs := []
    frameRun := .idle
    controlRun := .idle
    composer := { s.composer with active := none, shown := none, engine := .free, pointer := 0 }
    tiles := s.tiles.map (fun t => { t with back := .empty })
    ports := s.ports.map Port.softReset
    policy := .default
    ref := { s.ref with switch := none, lockCount := 0, lockTimer := none, sincePulse := none } }

/-- The power state after soft reset (R143): a settle from SLEEP, from an entry into SLEEP or from a settle under way; else
RUN at once. -/
def State.resetPower (s : State) : State :=
  if s.settling then { s with power := { s.power with phase := .settling .run } }
  else if s.asleep ∨ s.power.phase = .enteringSleep then
    { s with
      power := { state := .sleep, phase := .settling .run, before := s.power.before, settleTimer := some Config.settleTime }
      ref := { s.ref with state := .stopped, frameTimer := none, lossTimer := none } }
  else { s with power := { state := .run, phase := .steady, before := .run, settleTimer := none } }

/-- Outside SLEEP the ports of MAPPED tiles go to LISTEN (R96). -/
def State.listenMapped (s : State) : State :=
  if s.asleep then s
  else s.forEach allIds (fun p s => if s.portMapped p then s.enterListen p else s)

/-- A soft reset (R146). A stalled reference falls back after CAUSE has been cleared (R139). -/
def State.softReset (s : State) : State := s.clearAll.resetPower.listenMapped.failSafeEnabled

/-- SOFT_RESET (R146, R164). -/
def execSoftReset (s : State) : Host.Outcome State Fault Refusal := s.softReset.settled

/-! ## REGISTER_WRITE (R145) -/

/-- A write of `w` to register `r`: CHAIN_BASE is stored while ENABLE is 0, writes to IDENT, ANCHOR and CAUSE are ignored, and a
write to a register with a row of its own does what that row does. -/
def execRegisterWrite (r : RegName) (w : Word) (s : State) : Host.Outcome State Fault Refusal :=
  match r with
  | .chainBase => .next (s.writeChainBase w)
  | .ident => .next s
  | .anchor => .next s
  | .cause => .next s
  | .control =>
    if w.getLsbD 2 then s.softReset.settled else .next (s.writeControl (w.getLsbD 0) (w.getLsbD 1))
  | .attention => .next s.takeAttention
  | .causeEnable => .next (s.writeCauseEnable w)
  | .scanPeriod => .next (s.writeScanPeriod w)

end Sys2Proof.Machine
end

