-- ==== Sys2Proof/Machine/StreamCommands.lean ====
section
/-! DEFINITION. The commands of the stream in UP (spec/06, R60–R62, R175–R180). -/
namespace Sys2Proof.Machine

/-- A tile packet of the stream: in UP it restarts the silence timer and is taken; elsewhere it is discarded (R78, R86, R98,
R111). -/
def State.takeInUp (s : State) (p : PortId) (f : State → State) : Host.Outcome State Fault Refusal :=
  match (s.port p).link with
  | .up => (f (s.heard p)).settled
  | .off | .listen | .offer | .train | .lost => .next s

/-- What a report does at the tile that port `p` serves. -/
def State.atTileOf (s : State) (p : PortId) (f : TileId → State → State) : State :=
  match s.tileOfPort p with
  | none => s
  | some t => f t s

/-- TRANSMITTER_FREE (R99): the packet has been sent to its end, and the next ready one is begun. -/
def execTransmitterFree (p : PortId) (readBack : Option (List Byte)) (s : State) : Host.Outcome State Fault Refusal :=
  match (s.port p).tx with
  | none => .next s
  | some _ => ((s.modPort p (fun x => { x with tx := none, txTimer := none })).transmit p readBack).settled

/-- ACK_RECEIVED (R103). -/
def execAckReceived (p : PortId) (number : Byte) (s : State) : Host.Outcome State Fault Refusal :=
  s.takeInUp p (fun s => s.takeAck p number)

/-- NAK_RECEIVED (R104). -/
def execNakReceived (p : PortId) (number : Byte) (s : State) : Host.Outcome State Fault Refusal :=
  s.takeInUp p (fun s => s.takeNak p number)

/-- HOLD_RECEIVED (R109). -/
def execHoldReceived (p : PortId) (quanta : Half) (s : State) : Host.Outcome State Fault Refusal :=
  s.takeInUp p (fun s => s.takeHold p quanta)

/-- STATUS_RECEIVED (R62, R111): only the front epoch counts. -/
def execStatusReceived (p : PortId) (status : TileStatus) (s : State) : Host.Outcome State Fault Refusal :=
  s.takeInUp p (fun s => s.atTileOf p (fun t s => s.flipReport t status.front none))

/-- FLIPPED_RECEIVED (R61). -/
def execFlippedReceived (p : PortId) (epoch : Epoch) (frame : Word) (s : State) : Host.Outcome State Fault Refusal :=
  s.takeInUp p (fun s => s.atTileOf p (fun t s => s.flipReport t epoch (some frame)))

/-- TEST_ECHO_RECEIVED (R176). -/
def execTestEchoReceived (p : PortId) (number : Half) (flag : EchoFlag) (payload : List Byte) (s : State) :
    Host.Outcome State Fault Refusal :=
  s.takeInUp p (fun s => s.takeEcho p number flag payload)

/-- TEST_RESULT_RECEIVED (R177). -/
def execTestResultReceived (p : PortId) (good bad : Half) (s : State) : Host.Outcome State Fault Refusal :=
  s.takeInUp p (fun s => s.takeResult p good bad)

/-- CHECK_REPORT_RECEIVED (R180). -/
def execCheckReportReceived (p : PortId) (epoch : Epoch) (crcs : List Word) (s : State) : Host.Outcome State Fault Refusal :=
  s.takeInUp p (fun s => s.atTileOf p (fun t s => s.takeReport t epoch crcs))

/-- Whether the ack timer of an UP port runs: it is paused during a hold (R105, R110). -/
def Port.ackRuns (x : Port) : Bool := x.link == .up && x.ackTimer.isSome && x.holdTimer.isNone && !x.window.isEmpty

/-- ACK_TIMEOUT (R105). -/
def execAckTimeout (p : PortId) (s : State) : Host.Outcome State Fault Refusal :=
  if (s.port p).ackRuns then (s.ackExpired p).settled else .next s

/-- Whether a packet of the window has reached the retry limit (R106). -/
def State.retriesSpent (s : State) (p : PortId) : Bool :=
  (s.port p).link == .up && (s.port p).window.any (fun o => decide (s.policy.retryLimit ≤ o.retries))

/-- RETRY_EXHAUSTION (R90, R107). -/
def execRetryExhaustion (p : PortId) (s : State) : Host.Outcome State Fault Refusal :=
  if s.retriesSpent p then (s.exhaust p).settled else .next s

/-- TALLY_SATURATION (R91): the next retransmission of the open run raises the tally to 255. -/
def execTallySaturation (p : PortId) (s : State) : Host.Outcome State Fault Refusal :=
  let x := s.port p
  match x.run with
  | [] => .next s
  | n :: rest =>
    if x.link = .up ∧ x.holdTimer = none ∧ x.tally + 1 = Config.tallyLimit then (s.sendResend p n rest none).settled
    else .next s

/-- HOLD_EXPIRY (R110). -/
def execHoldExpiry (p : PortId) (s : State) : Host.Outcome State Fault Refusal :=
  if (s.port p).holdTimer.isSome then (s.endHold p).settled else .next s

/-- ECHO_TIMEOUT (R176). -/
def execEchoTimeout (p : PortId) (s : State) : Host.Outcome State Fault Refusal := (s.echoExpired p).settled

/-- RESULT_TIMEOUT (R177). -/
def execResultTimeout (p : PortId) (s : State) : Host.Outcome State Fault Refusal := (s.resultExpired p).settled

end Sys2Proof.Machine
end

