-- ==== Sys2Proof/Machine/Dispatch.lean ====
section
/-! DEFINITION. One arm per command, each a direct call of its meaning. -/
namespace Sys2Proof.Machine

def exec (i : Instr) (s : State) : Host.Outcome State Fault Refusal :=
  match i with
  | .powerOnReset => Sys2Proof.Machine.execPowerOnReset s
  | .softReset => Sys2Proof.Machine.execSoftReset s
  | .enableSet startExternal => Sys2Proof.Machine.execEnableSet startExternal s
  | .enableClear startExternal => Sys2Proof.Machine.execEnableClear startExternal s
  | .startExternalWrite startExternal => Sys2Proof.Machine.execStartExternalWrite startExternal s
  | .attention => Sys2Proof.Machine.execAttention s
  | .causeRead => Sys2Proof.Machine.execCauseRead s
  | .causeEnableWrite w => Sys2Proof.Machine.execCauseEnableWrite w s
  | .scanPeriodWrite w => Sys2Proof.Machine.execScanPeriodWrite w s
  | .registerWrite r w => Sys2Proof.Machine.execRegisterWrite r w s
  | .scanTimerExpiry => Sys2Proof.Machine.execScanTimerExpiry s
  | .linkRead link => Sys2Proof.Machine.execLinkRead link s
  | .lockedExchange word0 => Sys2Proof.Machine.execLockedExchange word0 s
  | .takingRead data => Sys2Proof.Machine.execTakingRead data s
  | .voidLimit => Sys2Proof.Machine.execVoidLimit s
  | .progressWrite block ok => Sys2Proof.Machine.execProgressWrite block ok s
  | .jobCompletion block => Sys2Proof.Machine.execJobCompletion block s
  | .completionBusError block failed => Sys2Proof.Machine.execCompletionBusError block failed s
  | .scene => Sys2Proof.Machine.execScene s
  | .layerRecordRead data => Sys2Proof.Machine.execLayerRecordRead data s
  | .tileMap => Sys2Proof.Machine.execTileMap s
  | .tileMapEntryRead data => Sys2Proof.Machine.execTileMapEntryRead data s
  | .lutLoad => Sys2Proof.Machine.execLutLoad s
  | .valuesWordRead words => Sys2Proof.Machine.execValuesWordRead words s
  | .verify => Sys2Proof.Machine.execVerify s
  | .verifyRecomposition image => Sys2Proof.Machine.execVerifyRecomposition image s
  | .mismatchListWrite ok => Sys2Proof.Machine.execMismatchListWrite ok s
  | .policy => Sys2Proof.Machine.execPolicy s
  | .sense => Sys2Proof.Machine.execSense s
  | .senseRecordWrite ok => Sys2Proof.Machine.execSenseRecordWrite ok s
  | .recover => Sys2Proof.Machine.execRecover s
  | .linkTest => Sys2Proof.Machine.execLinkTest s
  | .withdraw => Sys2Proof.Machine.execWithdraw s
  | .reference => Sys2Proof.Machine.execReference s
  | .power => Sys2Proof.Machine.execPower s
  | .wakeSettleEnd => Sys2Proof.Machine.execWakeSettleEnd s
  | .compositionEnd image stored => Sys2Proof.Machine.execCompositionEnd image stored s
  | .surfaceBusError layer => Sys2Proof.Machine.execSurfaceBusError layer s
  | .transmitterFree p readBack => Sys2Proof.Machine.execTransmitterFree p readBack s
  | .receiveCheckFailure p why => Sys2Proof.Machine.execReceiveCheckFailure p why s
  | .beaconReceived p => Sys2Proof.Machine.execBeaconReceived p s
  | .offerReceived p offer => Sys2Proof.Machine.execOfferReceived p offer s
  | .trainReceived p grade locked expected => Sys2Proof.Machine.execTrainReceived p grade locked expected s
  | .ackReceived p number => Sys2Proof.Machine.execAckReceived p number s
  | .nakReceived p number => Sys2Proof.Machine.execNakReceived p number s
  | .holdReceived p quanta => Sys2Proof.Machine.execHoldReceived p quanta s
  | .statusReceived p status => Sys2Proof.Machine.execStatusReceived p status s
  | .flippedReceived p epoch frame => Sys2Proof.Machine.execFlippedReceived p epoch frame s
  | .testEchoReceived p number flag payload => Sys2Proof.Machine.execTestEchoReceived p number flag payload s
  | .testResultReceived p good bad => Sys2Proof.Machine.execTestResultReceived p good bad s
  | .checkReportReceived p epoch crcs => Sys2Proof.Machine.execCheckReportReceived p epoch crcs s
  | .beaconTimer p => Sys2Proof.Machine.execBeaconTimer p s
  | .offerRepeatTimer p => Sys2Proof.Machine.execOfferRepeatTimer p s
  | .offerTimeout p => Sys2Proof.Machine.execOfferTimeout p s
  | .trainTimeout p => Sys2Proof.Machine.execTrainTimeout p s
  | .silence p => Sys2Proof.Machine.execSilence p s
  | .ackTimeout p => Sys2Proof.Machine.execAckTimeout p s
  | .retryExhaustion p => Sys2Proof.Machine.execRetryExhaustion p s
  | .tallySaturation p => Sys2Proof.Machine.execTallySaturation p s
  | .holdExpiry p => Sys2Proof.Machine.execHoldExpiry p s
  | .echoTimeout p => Sys2Proof.Machine.execEchoTimeout p s
  | .resultTimeout p => Sys2Proof.Machine.execResultTimeout p s
  | .stabilityReached p => Sys2Proof.Machine.execStabilityReached p s
  | .frameStart => Sys2Proof.Machine.execFrameStart s
  | .syncInPulse => Sys2Proof.Machine.execSyncInPulse s
  | .lossDeclared => Sys2Proof.Machine.execLossDeclared s
  | .lockPulse => Sys2Proof.Machine.execLockPulse s
  | .lockTimerExpiry => Sys2Proof.Machine.execLockTimerExpiry s
  | .deadlineExpiry => Sys2Proof.Machine.execDeadlineExpiry s
  | .confirmationLimit t => Sys2Proof.Machine.execConfirmationLimit t s
  | .verifySurfaceBusError layer => Sys2Proof.Machine.execVerifySurfaceBusError layer s

end Sys2Proof.Machine
end

