-- ==== Sys2Proof/Machine/Time.lean ====
section
/-! DEFINITION. What the controller does with no command waiting (log 3, log 5): a job that has been made RUNNING is carried
out, a limit that has run out expires, and otherwise 1 ns passes. -/
namespace Sys2Proof.Machine

/-! ## 1 ns -/

/-- A running limit 1 ns later; at 0 it is due. -/
def Timer.tick (t : Timer) : Timer := t.map (fun n => n - 1)

/-- A port 1 ns later: the ack timer is paused during a hold (R105, R110). -/
def Port.tick (x : Port) : Port :=
  { x with
    beaconTimer := Timer.tick x.beaconTimer
    offerRepeat := Timer.tick x.offerRepeat
    offerTimer := Timer.tick x.offerTimer
    trainTimer := Timer.tick x.trainTimer
    silenceTimer := Timer.tick x.silenceTimer
    ackTimer := if x.holdTimer.isSome then x.ackTimer else Timer.tick x.ackTimer
    holdTimer := Timer.tick x.holdTimer
    txTimer := Timer.tick x.txTimer
    test := x.test.map (fun k => { k with echoTimer := Timer.tick k.echoTimer, resultTimer := Timer.tick k.resultTimer }) }

/-- The Frame Reference 1 ns later. -/
def Reference.tick (r : Reference) : Reference :=
  { r with
    frameTimer := r.frameTimer.map (fun n => n + 1)
    lossTimer := r.lossTimer.map (fun n => n + 1)
    sincePulse := r.sincePulse.map (fun n => n + 1)
    lockTimer := Timer.tick r.lockTimer }

/-- The controller 1 ns later. -/
def State.tick (s : State) : State :=
  { s with
    intake := { s.intake with scanTimer := Timer.tick s.intake.scanTimer }
    ports := s.ports.map Port.tick
    ref := s.ref.tick
    power := { s.power with settleTimer := Timer.tick s.power.settleTimer } }

/-! ## What is due -/

/-- A limit that has run out. -/
def Timer.due (t : Timer) : Bool := t == some 0

/-- The row of a job kind's start. -/
def Kind.start : Kind → Instr
  | .scene => .scene | .lutLoad => .lutLoad | .tileMap => .tileMap | .verify => .verify
  | .policy => .policy | .sense => .sense | .recover => .recover | .linkTest => .linkTest
  | .withdraw => .withdraw | .reference => .reference | .power => .power

/-- The start of the lane's job that has been made RUNNING and is not yet judged. -/
def State.dueStart (s : State) (l : Lane) : Option Instr :=
  let waits : Bool := match l with | .frame => s.frameRun == .started | .control => s.controlRun == .started
  if waits then (s.running l).bind (fun j => (kindOf j.kind).map Kind.start) else none

/-- What a due limit of a LINK_TEST brings. -/
def LinkTest.dueLimit (k : LinkTest) (p : PortId) : Option Instr :=
  if Timer.due k.echoTimer then some (.echoTimeout p)
  else if Timer.due k.resultTimer then some (.resultTimeout p)
  else none

/-- The first limit of port `p` that has run out, in a fixed order (log 5). -/
def Port.dueLimit (x : Port) (p : PortId) : Option Instr :=
  if x.tx.isSome && Timer.due x.txTimer then some (.transmitterFree p none)
  else if x.link == .listen && Timer.due x.beaconTimer then some (.beaconTimer p)
  else if x.link == .offer && Timer.due x.offerTimer then some (.offerTimeout p)
  else if x.link == .offer && Timer.due x.offerRepeat then some (.offerRepeatTimer p)
  else if x.link == .train && Timer.due x.trainTimer then some (.trainTimeout p)
  else if x.link == .up && Timer.due x.silenceTimer then some (.silence p)
  else if Timer.due x.holdTimer then some (.holdExpiry p)
  else if x.ackRuns && Timer.due x.ackTimer then some (.ackTimeout p)
  else x.test.bind (fun k => k.dueLimit p)

/-- The first limit of the Frame Reference that has run out (R130, R131, R134). -/
def Reference.dueLimit (r : Reference) : Option Instr :=
  if r.state == .intern && r.frameDue then some .frameStart
  else if r.state == .extern && r.lossDue then some .lossDeclared
  else if Timer.due r.lockTimer then some .lockTimerExpiry
  else none

/-- The command the controller gives itself when none waits: a start, the link step of a pass without an anchor, or a limit
that has run out. -/
def State.dueCommand (s : State) : Option Instr :=
  (s.dueStart .control).orElse fun _ =>
  (s.dueStart .frame).orElse fun _ =>
  (if s.intake.pass = .link ∧ s.intake.anchor = none then some (.linkRead none) else none).orElse fun _ =>
  s.ref.dueLimit.orElse fun _ =>
  (if s.settling && Timer.due s.power.settleTimer then some .wakeSettleEnd else none).orElse fun _ =>
  (if s.intake.state == .idle && Timer.due s.intake.scanTimer then some .scanTimerExpiry else none).orElse fun _ =>
  allIds.findSome? (fun p => (s.port p).dueLimit p)

end Sys2Proof.Machine
end

