-- ==== Sys2Proof/Machine/Step.lean ====
section
/-! DEFINITION. A step: the command at the front of the queue, or, with none waiting, what the controller does by itself. -/
namespace Sys2Proof.Machine

/-- With no command waiting: the command the controller gives itself, or 1 ns (log 3). -/
def State.idleStep (s : State) : Host.Outcome State Fault Refusal :=
  match s.dueCommand with
  | some c => exec c s
  | none => .next s.tick

/-- One step (spec/95: each command is whole and indivisible). -/
def step (s : State) : Host.Outcome State Fault Refusal :=
  match s.pending with
  | c :: rest => exec c { s with pending := rest }
  | [] => s.idleStep

/-- The state with the command that a table word spells put at the front of its queue. -/
def State.withFetchWord (s : State) (nbits w : Nat) : State :=
  match decodeTableWord nbits w with
  | some c => { s with pending := c :: s.pending }
  | none => s

end Sys2Proof.Machine
end

