-- ==== Sys2Proof/Safety.lean ====
section
/-! DEFINITION. What claims are made of: the steps of a run, and the invariants the spec gives (the Job List, the policy store,
the window, the retry tally, the frame counts), the end of an offer exchange, and the frame of each command. -/
namespace Sys2Proof.Machine

/-- `s` steps to `t`. -/
def Steps (s t : State) : Prop := step s = .next t

/-- `t` is reached from `s` by steps. -/
inductive Reaches : State → State → Prop where
  | here (s : State) : Reaches s s
  | step {s t u : State} (h : Steps s t) (k : Reaches t u) : Reaches s u

/-- `I` is kept by every step. -/
def Kept (I : State → Prop) : Prop := ∀ s t : State, I s → Steps s t → I t

/-! ## What a pass, a write and a frame are, for claims -/

/-- The intake at the start of a pass with ENABLE 1: FULL with 8 jobs listed, else SCANNING and following a link (R151). -/
def Intake.passBegun (i : Intake) (jobs : List Job) : Intake :=
  if Config.jobListSize ≤ jobs.length then
    { i with state := .full, rescan := false, scanTimer := none, voidRun := 0, pass := .none }
  else { i with state := .scanning, rescan := false, scanTimer := none, voidRun := 0, pass := .link }

/-- The intake after a chain fault (R155). -/
def Intake.faulted (i : Intake) : Intake :=
  { i with state := .chainFault, rescan := false, scanTimer := none, pass := .none }

/-- The bus write that a waiting PROGRESS or filing write of a block becomes (R157, R159). -/
def BlockWrite.made (a : Word) : BlockWrite → BusWrite
  | .filing => { addr := a.toNat + 48, bytes := [0, 1] ++ zeros 14 }
  | .progress v => { addr := a.toNat + 49, bytes := [v.code] }

/-- The outcome handed over for block `a`, if one has been. -/
def State.outcomeOf (s : State) (a : Word) : Option JobOutcome := ((s.findJob a).bind Job.result).map Result.outcome

/-! ## A lane that is looked at (R158) -/

/-- `t` has the jobs of `s` after lane `l` has been looked at (R158). Nothing starts while a job of the lane is RUNNING, in the frame
lane while HALTED, and in the control lane while a wake settles. Otherwise the oldest WAITING job without a result becomes RUNNING;
one that completes in place, a frame job NOT_RUNNING out of RUN and a control job but SENSE REJECTED while HALTED, is handed its
result, and the next one is looked at in the same look (before its DONE write: the model's choice, log 63). -/
def Looked (l : Lane) (s t : State) : Prop :=
  let instead (k : Job) : Option JobOutcome :=
    match l with
    | .frame => if s.pictureWorkStopped then some .notRunning else none
    | .control => if s.halted.isSome = true ∧ kindOf k.kind ≠ some .sense then some .rejected else none
  let closed : Prop := (∃ k ∈ s.jobs, k.lane = some l ∧ k.status = .running) ∨ (l = .frame ∧ s.halted.isSome = true) ∨
    (l = .control ∧ s.settling = true)
  let ended (k : Job) : Job :=
    if k.lane = some l ∧ k.status = .waiting ∧ k.result = none then
      { k with result := (instead k).map (fun o => plainResult o detailZero) }
    else k
  let passed (k : Job) : Prop := k.lane = some l → k.status = .waiting → k.result = none → (instead k).isSome = true
  (closed → t.jobs = s.jobs ∧ t.frameRun = s.frameRun ∧ t.controlRun = s.controlRun) ∧
  (¬closed → (∀ k ∈ s.jobs, passed k) →
    t.jobs = s.jobs.map ended ∧ t.frameRun = s.frameRun ∧ t.controlRun = s.controlRun) ∧
  (¬closed → ∀ before k after, s.jobs = before ++ k :: after → (∀ m ∈ before, passed m) → ¬passed k →
    t.jobs = before.map ended ++ { k with status := .running } :: after ∧
    t.frameRun = (if l = .frame then .started else s.frameRun) ∧
    t.controlRun = (if l = .control then .started else s.controlRun))

/-! ## The end of an offer exchange (R79–R82) -/

/-- `t` is `s` after the exchange of port `p` has ended with offer record `o`, in the rules' own words. Where the size fits and a
grade is usable, the port is in TRAIN at that grade, numbering from 0, with the identity copied (R81, R82), and its tile has
reported: the front epoch (R53) and the tables, after the stores (R126, log 61); the back store and the cursor of a participant
still delivered to (R45); a flip-set tile by the rows of R65 (log 45); any other back store by R46 and R73. Waiting DISCARDs are
removed first. Else the port is LOST (R81, R93). -/
def ExchangeEnds (p : PortId) (o : TileOffer) (s t : State) : Prop :=
  let fits : Prop := ∀ i, s.tileOfPort p = some i →
    (s.tile i).geom.width ≤ o.width.toNat ∧ (s.tile i).geom.height ≤ o.height.toNat
  let grade := usableGrade o.abilities ((s.port p).offeredCeiling.lower s.policy.ceiling)
  (fits → ∀ g, grade = some g →
    (t.port p).link = .train ∧ (t.port p).grade = g ∧ (t.port p).nextSeq = 0 ∧ (t.port p).lockCount = 0 ∧
    (t.port p).locked = false ∧ (t.port p).trainTimer = some (s.policy.trainUs * 1000) ∧ (t.port p).offerTimer = none ∧
    (t.port p).attempts = (s.port p).attempts ∧
    (t.port p).identity = { abilities := o.abilities, model := o.model, width := o.width, height := o.height } ∧
    (∀ i, s.tileOfPort p = some i →
      let x := s.tile i
      let stripes := s.stripesOf i
      let n := o.count.toNat
      let confirms := x.back.isScheduled o.front
      let active := if confirms then x.pendingGen.getD x.activeGen else x.activeGen
      let pending := if confirms then none else x.pendingGen
      let waiting := (s.port p).queue.filter (fun k => !k.isDiscard)
      let discards : Prop := (t.port p).hasDiscard o.back = true
      let asReported : Prop := (t.tile i).back = (if o.back = 0 then .empty else .loading o.back n) ∧ (o.back ≠ 0 → discards)
      (t.tile i).front = (if confirms ∨ x.front = o.front then o.front else 0) ∧ (t.tile i).geom = x.geom ∧
      (∀ k : TileId, k ≠ i → t.tile k = s.tile k) ∧
      (o.activeGen = active ∧ o.pendingTable = pending.isSome → (t.tile i).activeGen = active ∧
        (t.tile i).pendingGen = pending ∧ (t.tile i).stale = x.stale) ∧
      (¬(o.activeGen = active ∧ o.pendingTable = pending.isSome) → (t.tile i).activeGen = o.activeGen ∧
        (t.tile i).pendingGen = none ∧ (t.tile i).stale = true) ∧
      (s.scene = none → asReported) ∧
      (∀ r, s.scene = some r →
        let whole : Prop := o.back = r.epoch ∧ n = stripes
        let others := r.flipSet &&& ~~~(r.confirmed ||| (r.unconfirmed ||| bitOf i))
        (r.awaits r.epoch i = false →
          (Mask.has r.participants i = false ∨ Mask.has r.dropped i = true ∨ r.stage.delivering? = false) → asReported) ∧
        (r.awaits r.epoch i = false → Mask.has r.participants i = true → Mask.has r.dropped i = false →
          r.stage.delivering? = true →
          (t.tile i).back = (if o.back = 0 then .empty else if whole then .armed o.back else .loading o.back n) ∧
          (o.back ≠ 0 → ¬(o.back = r.epoch ∧ n ≤ stripes) → discards) ∧
          ((∃ k, k ≠ i ∧ Mask.has r.participants k = true ∧ Mask.has r.dropped k = false ∧
              (s.tile k).back.isArmed r.epoch = false) → r.requireAll = false ∨ r.dropped = 0 →
            t.scene = some { r with cursors := r.cursors.set i.val (if o.back = r.epoch ∧ o.back ≠ 0 ∧ n ≤ stripes then n else 0) })) ∧
        (r.awaits r.epoch i = true → r.stage.delivering? = false →
          (x.back.isScheduled r.epoch = true → o.front = r.epoch → asReported ∧ (others ≠ 0 → ∃ u, t.scene = some u ∧
            u.confirmed = r.confirmed ||| bitOf i ∧ u.unconfirmed = r.unconfirmed ∧ u.flags = r.flags)) ∧
          (∀ f, x.back = .scheduled r.epoch f → o.front ≠ r.epoch → whole → (t.tile i).back = .armed r.epoch ∧
            t.scene = some { r with flags := { r.flags with retried := true } } ∧
            (t.port p).queue =
              if waiting.any (Reliable.isFlipOf r.epoch) then waiting else waiting ++ [.flip r.epoch f true]) ∧
          (x.back = .armed r.epoch → o.front ≠ r.epoch → whole → (t.tile i).back = .armed r.epoch ∧ t.scene = some r ∧
            (t.port p).queue = waiting) ∧
          (x.back.isScheduled r.epoch = false ∨ o.front ≠ r.epoch →
            (x.back.isScheduled r.epoch = false ∧ x.back.isArmed r.epoch = false ∨ o.front = r.epoch ∨ ¬whole) →
            asReported ∧ (t.port p).queue.any (Reliable.isFlipOf r.epoch) = false ∧
              (others ≠ 0 → ∃ u, t.scene = some u ∧ u.unconfirmed = r.unconfirmed ||| bitOf i ∧ u.lastUnconf = some .lost ∧
                u.confirmed = r.confirmed)))))) ∧
  (¬fits ∨ grade = none → (t.port p).link = .lost ∧ (t.port p).lostCause = some .mismatch ∧ t.causes.tile = true)

/-! ## The Job List (R156, R151, R153) -/

/-- The block a running pass is at holds no listed job, and the list has room for it. -/
def PassStage.fits (jobs : List Job) : PassStage → Prop
  | .none => True
  | .link => jobs.length < Config.jobListSize
  | .exchange a => jobs.length < Config.jobListSize ∧ ∀ j ∈ jobs, j.addr ≠ a
  | .taking a _ => jobs.length < Config.jobListSize ∧ ∀ j ∈ jobs, j.addr ≠ a

/-- At most 8 jobs are listed, no two for the same block (R156), and the running pass keeps it so (R151, R153). -/
def State.listOk (s : State) : Prop :=
  s.jobs.length ≤ Config.jobListSize ∧ (s.jobs.map Job.addr).Nodup ∧ s.intake.pass.fits s.jobs

/-! ## The policy store (R166) -/

/-- Every field in its range (R166). -/
def Policy.ok (p : Policy) : Prop :=
  p.retryLimit ≤ 15 ∧ (1 ≤ p.downshift ∧ p.downshift ≤ 8) ∧ (20 ≤ p.silenceMs ∧ p.silenceMs ≤ 1000) ∧
    (10 ≤ p.ackUs ∧ p.ackUs ≤ 1000) ∧ (500 ≤ p.trainUs ∧ p.trainUs ≤ 20000)

/-- The frame period in its range (R128). -/
def Reference.periodOk (r : Reference) : Prop := 5000 ≤ r.period ∧ r.period ≤ 50000

/-! ## A port (R76, R91, R101, R106) -/

/-- Sequence numbers of a window: each one more than the one before, and the next to send follows the last (R101). -/
def Port.numbersOk (x : Port) : Prop :=
  match x.window with
  | [] => True
  | [a] => x.nextSeq = a.number + 1
  | a :: b :: _ => b.number = a.number + 1 ∧ x.nextSeq = b.number + 1

/-- The window holds at most two packets, is empty outside UP, and numbers run on (R101, R107); the tally never exceeds 255
and is 255 only in LOST (R91); the counts stay in range (R76); a LOST cause is there exactly in LOST (R76). -/
def Port.ok (x : Port) : Prop :=
  x.window.length ≤ Config.windowSize ∧ (x.link ≠ .up → x.window = []) ∧ x.numbersOk ∧
    x.tally ≤ Config.tallyLimit ∧ (x.tally = Config.tallyLimit → x.link = .lost) ∧
    x.stability ≤ Config.stabilityLimit ∧ x.lockCount ≤ Config.lockPackets ∧ (x.lostCause.isSome ↔ x.link = .lost)

/-! ## The intake (R149, R150) -/

/-- Each intake state goes with its ENABLE, its pass, its rescan flag and its scan timer (R149, R150). -/
def Intake.ok (i : Intake) (jobs : List Job) : Prop :=
  (i.state = .off → i.enable = false) ∧ (i.state = .idle → i.enable = true) ∧
    (i.state = .full → i.enable = true ∧ jobs.length = Config.jobListSize) ∧ (i.state = .scanning ↔ i.pass ≠ .none) ∧
    (i.rescan = true → i.state = .scanning) ∧ (i.scanTimer.isSome = true → i.state = .idle)

/-! ## The lanes (R158) and picture work (R52, R163, R141, R142) -/

/-- At most one job of lane `l` is RUNNING (R158). -/
def State.oneRunning (s : State) (l : Lane) : Prop :=
  (s.jobs.filter (fun j => j.lane == some l && j.status == .running)).length ≤ 1

/-- While the controller is HALTED, or is not in RUN, no frame job runs and the Composer composes nothing. -/
def State.pictureWorkOk (s : State) : Prop :=
  (s.halted.isSome = true ∨ s.pictureWorkStopped = true) → s.frameRun = .idle ∧ s.composer.engine = .free

/-! ## Epochs (R22, R53, R63) -/

/-- The epoch that a FLIP carries is at most `n`. -/
def Reliable.flipBelow (n : Epoch) : Reliable → Prop
  | .flip e _ _ => e ≤ n
  | .stripe _ | .discard _ | .table _ _ _ | .check _ _ _ => True

/-- The epoch of an ARMED or SCHEDULED record is at most `n`. -/
def BackStore.wholeBelow (n : Epoch) : BackStore → Prop
  | .armed e => e ≤ n
  | .scheduled e _ => e ≤ n
  | .empty | .loading _ _ => True

/-- The epoch of the stripe in a buffer is at most `n`. -/
def Buffer.below (n : Epoch) : Buffer → Prop
  | .free => True
  | .composing id => id.epoch ≤ n
  | .ready st => st.id.epoch ≤ n
  | .sent st => st.id.epoch ≤ n

/-- The epoch of a layer table, if there is one, is at most `n`. -/
def tableBelow (n : Epoch) (tab : Option LayerTable) : Prop := ∀ x, tab = some x → x.epoch ≤ n

/-- Every front epoch is 0 or no greater than the presented epoch, and that no greater than the epoch counter (R63), and no
ARMED or SCHEDULED record, FLIP, stripe buffer, layer table or scene names an epoch above the counter (R22). -/
def State.epochsOk (s : State) : Prop :=
  s.presented ≤ s.epochCounter ∧ (∀ t : TileId, (s.tile t).front = 0 ∨ (s.tile t).front ≤ s.presented) ∧
    (∀ t : TileId, (s.tile t).back.wholeBelow s.epochCounter) ∧
    (∀ p : PortId, (∀ k ∈ (s.port p).queue, k.flipBelow s.epochCounter) ∧
      (∀ o ∈ (s.port p).window, o.packet.flipBelow s.epochCounter) ∧ ∀ b : BufId, ((s.port p).buf b).below s.epochCounter) ∧
    (∀ r, s.scene = some r → r.epoch ≤ s.epochCounter) ∧
    tableBelow s.epochCounter s.composer.active ∧ tableBelow s.epochCounter s.composer.shown ∧
    (∀ r, s.verify = some r → tableBelow s.epochCounter r.table)

/-! ## A scene before ARMED (R59) -/

/-- A scene that has not reached ARMED has no flip set, no tile confirmed or unconfirmed, and no FLIP waiting or outstanding (R58,
R59). -/
def State.sceneOk (s : State) : Prop :=
  ∀ r, s.scene = some r → r.stage.delivering? = true →
    r.flipSet = 0 ∧ r.flipSent = 0 ∧ r.confirmed = 0 ∧ r.unconfirmed = 0 ∧
    ∀ p : PortId, (∀ k ∈ (s.port p).queue, k.isFlipOf r.epoch = false) ∧
      ∀ o ∈ (s.port p).window, o.packet.isFlipOf r.epoch = false

end Sys2Proof.Machine

/-! ## What each command may change -/
namespace Sys2Proof

/-- The commands that may change the intake: the resets, the register writes it takes, its triggers, its accesses, and the
completions that leave a full list (spec/09). -/
def Instr.movesIntake : Instr → Bool
  | .powerOnReset | .softReset | .enableSet _ | .enableClear _ | .startExternalWrite _ | .attention | .scanPeriodWrite _
  | .registerWrite _ _ | .scanTimerExpiry | .linkRead _ | .lockedExchange _ | .takingRead _ | .voidLimit | .jobCompletion _
  | .completionBusError _ _ => true
  | _ => false

/-- The commands that may put a block into the Job List or take one from it (R157, R160, R161, R164). -/
def Instr.changesList : Instr → Bool
  | .powerOnReset | .softReset | .registerWrite _ _ | .takingRead _ | .jobCompletion _ | .completionBusError _ _ => true
  | _ => false

/-- The commands that may write CAUSE_ENABLE (R145). -/
def Instr.writesCauseEnable : Instr → Bool
  | .powerOnReset | .causeEnableWrite _ | .registerWrite _ _ => true
  | _ => false

/-- The commands that may write the policy store (R166, R167). -/
def Instr.writesPolicy : Instr → Bool
  | .powerOnReset | .softReset | .registerWrite _ _ | .policy => true
  | _ => false

/-- The commands that may change the Frame Reference: the resets, start-up, POLICY's fallback, a switch requested or withdrawn,
power changes, frame starts, pulses and their limits (spec/08). -/
def Instr.movesReference : Instr → Bool
  | .powerOnReset | .softReset | .registerWrite _ _ | .enableSet _ | .policy | .withdraw | .reference | .power | .wakeSettleEnd
  | .frameStart | .syncInPulse | .lossDeclared | .lockPulse | .lockTimerExpiry => true
  | _ => false

/-- The commands that make bus writes or answer a register read. -/
def Instr.usesBus : Instr → Bool
  | .causeRead | .lockedExchange _ | .progressWrite _ _ | .jobCompletion _ | .completionBusError _ _ | .senseRecordWrite _
  | .mismatchListWrite _ => true
  | _ => false

/-- The commands that may change the epoch counter (R22, R165). -/
def Instr.countsEpoch : Instr → Bool
  | .powerOnReset | .scene | .layerRecordRead _ => true
  | _ => false

end Sys2Proof
end

