-- ==== Sys2Proof/Certificates/Slice0/Obligations.lean ====
section
/-! DEFINITION. The statements for the provers. A command's effect is stated as `exec c s = .next t.settle` with `t` given: `t` is
the command's own effect, and `settle` is what follows it in the same step (log 7), which has statements of its own. -/
section
open Sys2Proof Sys2Proof.Machine

/-! ## Steps and the queue -/

/-- A step with a command waiting is that command's meaning on the state with the rest of the queue. -/
def Obligations.StepRunsTheFrontCommand : Prop :=
  ∀ (c : Instr) (rest : List Instr) (s : State), s.pending = c :: rest → step s = exec c { s with pending := rest }

/-- With no command waiting, what is due is carried out, and otherwise 1 ns passes (the model's choice, log 3). -/
def Obligations.EmptyQueueStepIsTheDueCommandOrOneNanosecond : Prop :=
  ∀ s : State, s.pending = [] →
    (∀ c, s.dueCommand = some c → step s = exec c s) ∧ (s.dueCommand = none → step s = .next s.tick)

/-- Every command answers a next state, whatever the state is (the model's choice, log 2), leaves the waiting commands as they
are (for POWER_ON_RESET the model's choice, log 35), and keeps within its frame: the intake, the blocks listed, CAUSE_ENABLE,
the policy store, the Frame Reference, the bus and the epoch counter each change by the commands named for them alone, and by no
other packet, timer, read or job. -/
def Obligations.EveryCommandAnswersWithinItsFrame : Prop :=
  (∀ (c : Instr) (s : State), ∃ t : State, exec c s = .next t ∧ t.pending = s.pending) ∧
  (∀ (c : Instr) (s t : State), exec c s = .next t →
    (c.movesIntake = false → t.intake = s.intake) ∧
    (c.changesList = false → t.jobs.map Job.addr = s.jobs.map Job.addr) ∧
    (c.writesCauseEnable = false → t.causeEnable = s.causeEnable) ∧
    (c.writesPolicy = false → t.policy = s.policy) ∧
    (c.movesReference = false → t.ref = s.ref) ∧
    (c.usesBus = false → t.bus = s.bus) ∧
    (c.countsEpoch = false → t.epochCounter = s.epochCounter))

/-! ## Resets -/

/-- R165: the intake after power-on reset, the registers at the values of R145, and start-up done clear, so that the first write
of ENABLE from 0 to 1 with START_EXTERNAL 1 begins the start-up switch. -/
def Obligations.PowerOnResetSetsTheIntake : Prop :=
  ∀ s : State, ∃ t : State, exec .powerOnReset s = .next t ∧
    t.intake.state = .off ∧ t.intake.anchor = none ∧ t.intake.rescan = false ∧ t.intake.scanTimer = none ∧ t.jobs = [] ∧
    t.halted = none ∧
    t.readRegister .ident = s.readRegister .ident ∧ t.intake.enable = false ∧ t.intake.startExternal = false ∧
    t.readRegister .control = 0 ∧ t.readRegister .chainBase = 0 ∧ t.readRegister .anchor = 0 ∧ t.readRegister .cause = 0 ∧
    t.readRegister .causeEnable = 0 ∧ t.readRegister .scanPeriod = 0 ∧
    t.ref.startUpDone = false ∧
    ∃ u : State, exec (.enableSet true) t = .next u ∧ u.ref.switch = some { target := .extern, job := none }

/-- The records, ports, Frame Reference, policy, epochs and power state after power-on reset. -/
def Obligations.PowerOnResetSetsTheRecords : Prop :=
  ∀ s : State, ∃ t : State, exec .powerOnReset s = .next t ∧
    (∀ i : TileId, t.tile i =
      { geom := { mapping := .unmapped, port := none, originX := 0, originY := 0, width := 0, height := 0, stripe := none,
                  loss := .hold, bypass := false },
        front := 0, back := .empty, activeGen := 0, pendingGen := none, stale := false }) ∧
    (∀ p : PortId, (t.port p).link = .off ∧ (t.port p).lostCause = none ∧ (t.port p).grade = .l4 ∧ (t.port p).attempts = 0 ∧
      (t.port p).stability = 0 ∧ (t.port p).tally = 0 ∧ (t.port p).ind = .clear ∧ (t.port p).ctr = .zero ∧
      (t.port p).nextSeq = 0 ∧ (t.port p).window = [] ∧ (t.port p).queue = [] ∧ (t.port p).holdTimer = none ∧
      (t.port p).bufA = .free ∧ (t.port p).bufB = .free) ∧
    t.composer.active = none ∧ t.composer.shown = none ∧ t.composer.order = [] ∧ t.composer.pointer = 0 ∧
    t.epochCounter = 0 ∧ t.presented = 0 ∧
    t.ref.state = .intern ∧ t.ref.source = .intern ∧ t.ref.switch = none ∧ t.ref.period = 16667 ∧ t.ref.frameNumber = 0 ∧
    t.ref.lock = false ∧ t.ref.lockCount = 0 ∧ t.ref.frameTimer = some 0 ∧
    t.policy = { retryLimit := 15, downshift := 4, ceiling := .l4, silenceMs := 100, ackUs := 100, trainUs := 2000,
                 failSafe := true } ∧
    t.power.state = .run ∧ t.pending = s.pending

/-- A soft reset in RUN or STANDBY: what it clears, what it keeps, where each port goes, and the fallback of a stalled reference
(R139) as its one cause. In SLEEP, or while SLEEP is entered, it begins a settle of 2 ms with every port OFF and the reference
STOPPED; during a settle it lets that run on; either leads to RUN (R143). -/
def Obligations.SoftResetClearsAndKeeps : Prop :=
  (∀ s : State, s.power.state ≠ .sleep → s.power.phase = .steady →
    ∃ t : State, exec .softReset s = .next t.settle ∧
      t.intake = { s.intake with state := .off, enable := false, anchor := none, rescan := false, scanTimer := none,
                                 pass := .none, voidRun := 0 } ∧
      t.halted = none ∧ t.jobs = [] ∧ t.frameRun = .idle ∧ t.controlRun = .idle ∧
      t.causes = { Causes.clear with reference := decide (s.ref.state = .stalled) } ∧ t.causeEnable = s.causeEnable ∧
      t.epochCounter = s.epochCounter ∧ t.presented = s.presented ∧
      t.composer = { s.composer with active := none, shown := none, engine := .free, pointer := 0 } ∧
      (∀ i : TileId, t.tile i = { s.tile i with back := .empty }) ∧
      (∀ p : PortId, (t.port p).link = (if s.portMapped p then .listen else .off) ∧ (t.port p).lostCause = none ∧
        (t.port p).grade = .l4 ∧ (t.port p).attempts = 0 ∧ (t.port p).stability = 0 ∧ (t.port p).tally = 0 ∧
        (t.port p).ind = .clear ∧ (t.port p).window = [] ∧ (t.port p).queue = [] ∧ (t.port p).bufA = .free ∧
        (t.port p).bufB = .free ∧ (t.port p).ctr = (s.port p).ctr ∧ (t.port p).identity = (s.port p).identity) ∧
      t.policy = .default ∧ t.power.state = .run ∧ t.ref.switch = none ∧ t.ref.period = s.ref.period ∧
      t.ref.lock = s.ref.lock ∧ t.ref.startUpDone = s.ref.startUpDone ∧
      (s.ref.state ≠ .stalled → t.ref.state = s.ref.state ∧ t.ref.frameNumber = s.ref.frameNumber) ∧
      (s.ref.state = .stalled → t.ref.state = .intern ∧ t.ref.source = .intern ∧ t.ref.frameNumber = s.ref.frameNumber + 1)) ∧
  (∀ s : State, (s.power.state = .sleep ∨ s.power.phase = .enteringSleep) →
    ∃ t : State, exec .softReset s = .next t.settle ∧ t.power.phase = .settling .run ∧ t.jobs = [] ∧
      (s.settling = false → t.power.state = .sleep ∧ t.power.settleTimer = some 2000000 ∧ t.ref.state = .stopped ∧
        t.ref.frameTimer = none ∧ t.ref.lossTimer = none) ∧
      (s.settling = true → t.power.state = s.power.state ∧ t.power.settleTimer = s.power.settleTimer) ∧
      (s.settling = false ∨ s.power.state = .sleep → ∀ p : PortId, (t.port p).link = .off))

/-! ## The register window -/

/-- ENABLE from 0 to 1: a pass begins from OFF; SCANNING and CHAIN_FAULT go on; the first enable since power-on reset sets
start-up done and, with START_EXTERNAL 1, begins the start-up switch. ENABLE from 1 to 0, and a CONTROL write with ENABLE at its
present value. -/
def Obligations.EnableBeginsAndEndsPasses : Prop :=
  (∀ (s : State) (ext : Bool), s.intake.enable = false →
    let r : Reference :=
      if s.ref.startUpDone then s.ref
      else if ext then
        { s.ref with startUpDone := true, switch := some { target := .extern, job := none }, lockCount := 0, sincePulse := none,
                     lockTimer := some (64 * (s.ref.period * 1000)) }
      else { s.ref with startUpDone := true }
    let i : Intake := { s.intake with enable := true, startExternal := ext }
    (s.intake.state = .off → exec (.enableSet ext) s = .next { s with ref := r, intake := i.passBegun s.jobs }) ∧
    (s.intake.state = .scanning ∨ s.intake.state = .chainFault → exec (.enableSet ext) s = .next { s with ref := r, intake := i })) ∧
  (∀ (s : State) (ext : Bool),
    (s.intake.enable = true → s.intake.state = .idle ∨ s.intake.state = .full →
      exec (.enableClear ext) s = .next { s with intake := { s.intake with
        enable := false, startExternal := ext, state := .off, rescan := false, scanTimer := none, pass := .none } }) ∧
    (s.intake.enable = true → s.intake.state = .scanning ∨ s.intake.state = .chainFault →
      exec (.enableClear ext) s = .next { s with intake := { s.intake with enable := false, startExternal := ext } }) ∧
    exec (.startExternalWrite ext) s = .next { s with intake := { s.intake with startExternal := ext } } ∧
    (s.intake.enable = true → exec (.enableSet ext) s = exec (.startExternalWrite ext) s) ∧
    (s.intake.enable = false → exec (.enableClear ext) s = exec (.startExternalWrite ext) s))

/-- A write to a register: CHAIN_BASE only while ENABLE is 0; IDENT, ANCHOR and CAUSE never; a register with a row of its own
does what that row does. -/
def Obligations.RegisterWritesByRegister : Prop :=
  ∀ (s : State) (w : Word),
    (s.intake.enable = false →
      exec (.registerWrite .chainBase w) s = .next { s with intake := { s.intake with chainBase := w } }) ∧
    (s.intake.enable = true → exec (.registerWrite .chainBase w) s = .next s) ∧
    (∀ r ∈ [RegName.ident, .anchor, .cause], exec (.registerWrite r w) s = .next s) ∧
    (∀ r ∈ [RegName.control, .attention, .causeEnable, .scanPeriod],
      exec (.registerWrite r w) s = exec (decodeRegisterWrite s.intake.enable r w) s)

/-- Reading CAUSE returns the bits and clears them all, and INT falls; CAUSE_ENABLE takes five bits, and INT is asserted exactly
while a cause and its enable are both set. -/
def Obligations.CauseReadClearsAndIntFollows : Prop :=
  ∀ (s : State) (w : Word),
    (∃ t : State, exec .causeRead s = .next t ∧ t = { s with causes := .clear, bus := { s.bus with lastRead := s.readRegister .cause } } ∧
      t.int = false) ∧
    (∃ t : State, exec (.causeEnableWrite w) s = .next t ∧
      t = { s with causeEnable := { job := w.getLsbD 0, tile := w.getLsbD 1, reference := w.getLsbD 2, chain := w.getLsbD 3,
                                    halt := w.getLsbD 4 } } ∧
      t.readRegister .causeEnable = w &&& 0x1F ∧
      (t.int = true ↔ t.readRegister .cause &&& t.readRegister .causeEnable ≠ 0))

/-- A write to ATTENTION, by the intake state. -/
def Obligations.AttentionByIntakeState : Prop :=
  ∀ s : State,
    (s.intake.state = .off → exec .attention s = .next s) ∧
    (s.intake.state = .idle → s.intake.enable = true →
      exec .attention s = .next { s with intake := s.intake.passBegun s.jobs }) ∧
    (s.intake.state = .scanning → exec .attention s = .next { s with intake := { s.intake with rescan := true } }) ∧
    (s.intake.state = .full → exec .attention s = .next s) ∧
    (s.intake.state = .chainFault → s.intake.enable = true →
      exec .attention s = .next { s with intake := s.intake.passBegun s.jobs }) ∧
    (s.intake.state = .chainFault → s.intake.enable = false →
      exec .attention s = .next { s with intake := { s.intake with
        state := .off, rescan := false, scanTimer := none, pass := .none } })

/-- The scan timer's expiry begins a pass in IDLE; SCAN_PERIOD restarts or stops the timer in IDLE, in units of 100 µs, and is
only stored in any other state. -/
def Obligations.ScanTimerAndScanPeriod : Prop :=
  ∀ (s : State) (w : Word),
    (s.intake.state = .idle → s.intake.enable = true → s.intake.scanTimer.isSome = true →
      exec .scanTimerExpiry s = .next { s with intake := s.intake.passBegun s.jobs }) ∧
    (s.intake.state ≠ .idle ∨ s.intake.scanTimer = none → exec .scanTimerExpiry s = .next s) ∧
    (s.intake.state = .idle → exec (.scanPeriodWrite w) s = .next { s with intake := { s.intake with
      scanPeriod := w.setWidth 8
      scanTimer := if w.setWidth 8 = (0 : Byte) then none else some ((w.setWidth 8 : Byte).toNat * 100000) } }) ∧
    (s.intake.state ≠ .idle →
      exec (.scanPeriodWrite w) s = .next { s with intake := { s.intake with scanPeriod := w.setWidth 8 } })

/-! ## The intake's accesses -/

/-- Following a link: the address is CHAIN_BASE, as it stands at this command (the model's choice, log 62), while no anchor is
set, else the LINK just read. With ENABLE 1, 0 ends the pass, in IDLE or, with the rescan flag set, in a new pass; a misaligned
address, the anchor's own or a listed one is a chain fault; any other block is examined. With ENABLE cleared meanwhile, 0 ends
the pass in OFF, a misaligned address or the anchor's own is a chain fault, and any other block, also a listed one, ends the
pass in OFF unexamined (the model's choice, log 10). -/
def Obligations.LinkReadByAddress : Prop :=
  ∀ (s : State) (link : Option Word) (a : Word), s.intake.pass = .link →
    (s.intake.anchor = none ∧ a = s.intake.chainBase ∨ s.intake.anchor.isSome = true ∧ link = some a) →
    let off : Intake := { s.intake with state := .off, rescan := false, scanTimer := none, pass := .none }
    (s.intake.enable = true →
    (a = 0 → s.intake.rescan = false → exec (.linkRead link) s = .next (State.settle { s with intake := { s.intake with
      state := .idle, pass := .none
      scanTimer := if s.intake.scanPeriod = 0 then none else some (s.intake.scanPeriod.toNat * 100000) } })) ∧
    (a = 0 → s.intake.rescan = true →
      exec (.linkRead link) s = .next (State.settle { s with intake := s.intake.passBegun s.jobs })) ∧
    (a ≠ 0 → (a.toNat % 64 ≠ 0 ∨ s.intake.anchor = some a ∨ (s.findJob a).isSome = true) →
      exec (.linkRead link) s =
        .next (State.settle { s with intake := s.intake.faulted, causes := { s.causes with chain := true } })) ∧
    (a ≠ 0 → a.toNat % 64 = 0 → s.intake.anchor ≠ some a → s.findJob a = none →
      exec (.linkRead link) s = .next (State.settle { s with intake := { s.intake with pass := .exchange a } }))) ∧
    (s.intake.enable = false →
    (a = 0 → exec (.linkRead link) s = .next (State.settle { s with intake := off })) ∧
    (a ≠ 0 → (a.toNat % 64 ≠ 0 ∨ s.intake.anchor = some a) →
      exec (.linkRead link) s =
        .next (State.settle { s with intake := s.intake.faulted, causes := { s.causes with chain := true } })) ∧
    (a ≠ 0 → a.toNat % 64 = 0 → s.intake.anchor ≠ some a →
      exec (.linkRead link) s = .next (State.settle { s with intake := off })))

/-- A bus error on the read of LINK, on the locked exchange or on the read at taking halts the controller with BUS_FAULT; the
pass ends in IDLE with the anchor and the listed blocks as they were, or in OFF while ENABLE is 0. -/
def Obligations.PassBusErrorHalts : Prop :=
  ∀ (s : State) (c : Instr),
    (s.intake.pass = .link ∧ s.intake.anchor.isSome = true ∧ c = .linkRead none ∨
      (∃ a, s.intake.pass = .exchange a) ∧ c = .lockedExchange none ∨
      (∃ a w, s.intake.pass = .taking a w) ∧ c = .takingRead none) →
    s.halted = none →
    ∃ t : State, exec c s = .next t.settle ∧ t.halted = some .busFault ∧ t.causes.halt = true ∧
      t.intake.anchor = s.intake.anchor ∧ t.intake.rescan = false ∧ t.intake.pass = .none ∧
      t.jobs.map Job.addr = s.jobs.map Job.addr ∧
      (s.intake.enable = true → t.intake.state = .idle) ∧ (s.intake.enable = false → t.intake.state = .off)

/-- The locked exchange on block `a`: a POSTED block is written TAKEN and read next; a VOID one becomes the anchor, and the pass
goes on with ENABLE 1 and ends in OFF with ENABLE 0, the 256th of them being a chain fault; any other STATE is a chain fault
that leaves the anchor. That VOID_LIMIT by itself has the effect of the exchange that finds the 256th is the model's choice (log
6). -/
def Obligations.LockedExchangeByBlockState : Prop :=
  ∀ (s : State) (a w : Word), s.intake.pass = .exchange a →
    (w &&& 0xFF = 1 → exec (.lockedExchange (some w)) s = .next (State.settle { s with
      intake := { s.intake with pass := .taking a w }
      bus := { s.bus with log := s.bus.log ++ [{ addr := a.toNat, bytes := le4 ((w &&& 0xFFFFFF00) ||| 4).toNat }] } })) ∧
    (w &&& 0xFF = 2 → s.intake.enable = true → s.intake.voidRun + 1 ≠ 256 → s.jobs.length < 8 →
      exec (.lockedExchange (some w)) s = .next (State.settle { s with
        intake := { s.intake with anchor := some a, voidRun := s.intake.voidRun + 1, pass := .link } })) ∧
    (w &&& 0xFF = 2 → s.intake.enable = false → s.intake.voidRun + 1 ≠ 256 →
      exec (.lockedExchange (some w)) s = .next (State.settle { s with intake := { s.intake with
        anchor := some a, voidRun := s.intake.voidRun + 1, state := .off, rescan := false, scanTimer := none,
        pass := .none } })) ∧
    (w &&& 0xFF = 2 → s.intake.voidRun + 1 = 256 →
      exec (.lockedExchange (some w)) s = .next (State.settle { s with
        intake := { s.intake.faulted with anchor := some a, voidRun := 256 }, causes := { s.causes with chain := true } })) ∧
    (w &&& 0xFF ≠ 1 → w &&& 0xFF ≠ 2 → exec (.lockedExchange (some w)) s =
      .next (State.settle { s with intake := s.intake.faulted, causes := { s.causes with chain := true } })) ∧
    (s.intake.voidRun + 1 = 256 → exec .voidLimit s = .next { s with
      intake := { s.intake.faulted with anchor := some a, voidRun := 256 }, causes := { s.causes with chain := true } })

/-- A taken block is filed: it becomes the anchor, and its KIND, FLAGS, TAG and parameters are listed last under its address;
the pass goes on where there is room, is FULL at 8, and ends in OFF where ENABLE has been cleared. An unknown kind completes
INVALID with BAD_KIND; while HALTED any known kind but SENSE completes REJECTED; a job whose lane is empty, or holds only jobs
IN_FLIGHT, starts at once, its filing write handed to the bus, a SENSE while HALTED too; behind a WAITING or RUNNING job of its
lane it waits, PROGRESS WAITING handed to the bus after the filing write; in STANDBY and SLEEP a frame job completes NOT_RUNNING
in place of starting. In every case the entry joins the list WAITING (for one that completes at once the model's choice, log
55), and its lane is looked at (R158), in one look, before the DONE write of a job passed over (the model's choice, log 63). -/
def Obligations.TakingReadFilesTheJob : Prop :=
  ∀ (s : State) (a w tag : Word) (params : Vector Byte 32), s.intake.pass = .taking a w →
    ∃ t : State, exec (.takingRead (some (tag, params))) s = .next t.settle ∧
      t.intake.anchor = some a ∧ t.intake.voidRun = 0 ∧ t.jobs.map Job.addr = s.jobs.map Job.addr ++ [a] ∧
      (∃ j ∈ t.jobs, j.addr = a ∧ j.kind = (w >>> 8).setWidth 8 ∧ j.flags = (w >>> 16).setWidth 8 ∧ j.tag = tag ∧
        j.params = params) ∧
      (s.intake.enable = false → t.intake.state = .off ∧ t.intake.pass = .none) ∧
      (s.intake.enable = true → s.jobs.length + 1 < 8 → t.intake.state = s.intake.state ∧ t.intake.pass = .link) ∧
      (s.intake.enable = true → 8 ≤ s.jobs.length + 1 →
        t.intake.state = .full ∧ t.intake.pass = .none ∧ t.intake.rescan = false) ∧
      (s.findJob a = none → kindOf ((w >>> 8).setWidth 8) = none →
        (t.findJob a).bind Job.result = some (invalidResult .badKind none none) ∧
          (t.findJob a).map Job.writes = some []) ∧
      (∀ k, kindOf ((w >>> 8).setWidth 8) = some k → ∃ x : Job, x.addr = a ∧ x.lane = some k.lane ∧ x.status = .waiting ∧
        (x.result = none ↔ s.halted = none ∨ k = .sense) ∧ Looked k.lane { s with jobs := s.jobs ++ [x] } t) ∧
      (s.findJob a = none → ∀ k, kindOf ((w >>> 8).setWidth 8) = some k → k ≠ .sense → s.halted.isSome = true →
        t.outcomeOf a = some .rejected ∧ (t.findJob a).map Job.writes = some []) ∧
      (s.findJob a = none → ∀ k, kindOf ((w >>> 8).setWidth 8) = some k → s.halted = none ∨ k = .sense →
        ((k.lane = .control → s.settling = false) → (k.lane = .frame → s.pictureWorkStopped = false) →
          (∀ j ∈ s.jobs, j.lane = some k.lane → j.status = .inFlight) →
          (t.running k.lane).map Job.addr = some a ∧ (t.findJob a).map Job.writes = some [.filing] ∧
            (match k.lane with | .frame => t.frameRun = .started | .control => t.controlRun = .started)) ∧
        ((∃ j ∈ s.jobs, j.lane = some k.lane ∧ j.status = .running) →
          (t.findJob a).map Job.writes = some [.filing, .progress .waiting] ∧ (t.findJob a).map Job.status = some .waiting ∧
            (t.findJob a).bind Job.result = none) ∧
        ((∃ j ∈ s.jobs, j.lane = some k.lane ∧ j.status = .waiting) →
          (t.findJob a).map Job.writes = some [.filing, .progress .waiting]) ∧
        (k.lane = .frame → s.power.state ≠ .run → (∀ j ∈ s.jobs, j.lane ≠ some .frame) →
          t.outcomeOf a = some .notRunning ∧ (t.findJob a).map Job.writes = some [.filing] ∧ t.frameRun = s.frameRun))

/-- The oldest waiting write of a block ends: taken, it is made, and nothing else changes; in a bus error it is not made, and
the controller halts. What the halt does: the running frame job is handed ABORTED, every WAITING frame job REJECTED, the
Composer stops, links, control jobs and listed blocks stay; while HALTED a further fault only raises the HALT cause. -/
def Obligations.ProgressWriteEndsOrHalts : Prop :=
  ∀ (s : State) (a : Word) (j : Job) (b : BlockWrite) (rest : List BlockWrite), s.findJob a = some j → j.writes = b :: rest →
    exec (.progressWrite a true) s = .next (State.settle { s with
      jobs := s.jobs.map (fun k => if k.addr = a then { k with writes := rest } else k)
      bus := { s.bus with log := s.bus.log ++ [b.made a] } }) ∧
    ∃ t : State, exec (.progressWrite a false) s = .next t.settle ∧ t.bus.log = s.bus.log ∧ t.causes.halt = true ∧
      t.jobs.map Job.addr = s.jobs.map Job.addr ∧ (∀ p : PortId, (t.port p).link = (s.port p).link) ∧
      t.intake = s.intake ∧ t.policy = s.policy ∧ t.ref = s.ref ∧ t.power = s.power ∧ t.controlRun = s.controlRun ∧
      (s.halted = none → t.halted = some .busFault ∧ t.frameRun = .idle ∧ t.composer.engine = .free ∧
        (∀ k ∈ t.jobs, k.lane = some .frame → k.status = .waiting → k.result.isSome = true) ∧
        ((s.jobs.map Job.addr).Nodup → ∀ k ∈ s.jobs, k.lane = some .frame → k.status = .waiting → k.result = none →
          t.outcomeOf k.addr = some .rejected) ∧
        (∀ k, s.running .frame = some k → s.frameRun ≠ .idle →
          ∃ k' ∈ t.jobs, k'.addr = k.addr ∧ k'.result.map Result.outcome = some .aborted)) ∧
      (∀ h, s.halted = some h → t.halted = some h ∧ t.frameRun = s.frameRun ∧ t.composer = s.composer ∧
        t.causes = { s.causes with halt := true })

/-- A completion: the waiting writes (made first: the model's choice, log 8), then FINISHED, OUTCOME, RESULT FLAGS, DETAIL and
DONE with KIND and NOTIFY (bits 7–1 of FLAGS and byte 3 written 0: the model's choice, log 21), in that order; the entry leaves
the list; JOB is raised exactly for NOTIFY; a list of 8 that was FULL is scanned again; the entry's lane is looked at (R158), in
one look, before the DONE write of a job passed over (the model's choice, log 63), so that its oldest WAITING job starts. In a
bus error the writes before it are made and the others are not, JOB is not raised, the controller halts with BUS_FAULT, or stays
HALTED with the cause it had, and the entry leaves the list just so, FULL and lane included. -/
def Obligations.CompletionWritesTheBlock : Prop :=
  ∀ (s : State) (a : Word) (j : Job) (r : Result), s.findJob a = some j → j.result = some r →
    let rest := s.jobs.filter (fun k => k.addr != a)
    let before := s.bus.log ++ j.writes.map (BlockWrite.made a)
    let writes : List BusWrite :=
      [{ addr := a.toNat + 49, bytes := [7] }, { addr := a.toNat + 48, bytes := [r.outcome.code] },
       { addr := a.toNat + 50, bytes := r.flags.bytes }, { addr := a.toNat + 52, bytes := r.detail },
       { addr := a.toNat + 0, bytes := [8, j.kind, j.flags &&& 1, 0] }]
    let leaves (t : State) : Prop := t.jobs.map Job.addr = rest.map Job.addr ∧
      (s.intake.state = .full → s.jobs.length = 8 → s.intake.enable = true →
        t.intake.rescan = false ∧ (t.jobs.length < 8 → t.intake.state = .scanning ∧ t.intake.pass = .link)) ∧
      (s.intake.state ≠ .full → t.intake = s.intake)
    (∃ t : State, exec (.jobCompletion a) s = .next t.settle ∧ t.bus.log = before ++ writes ∧ leaves t ∧
      t.causes = { s.causes with job := s.causes.job || j.notify } ∧
      (∀ l, j.lane = some l → Looked l { s with jobs := rest } t) ∧
      (j.lane = none → t.jobs = rest ∧ t.frameRun = s.frameRun ∧ t.controlRun = s.controlRun)) ∧
    (∀ failed : CompletionWrite, ∃ t : State, exec (.completionBusError a failed) s = .next t.settle ∧
      t.bus.log = before ++
        List.take (match failed with | .finished => 0 | .outcome => 1 | .resultFlags => 2 | .detail => 3 | .done => 4) writes ∧
      leaves t ∧ t.halted = some (s.halted.getD .busFault) ∧ t.causes.halt = true ∧ t.causes.job = s.causes.job ∧
      (s.halted.isSome = true → ∀ l, j.lane = some l → Looked l { s with jobs := rest } t) ∧
      (s.halted = none → (s.jobs.map Job.addr).Nodup → ∀ l, j.lane = some l → ∃ u : State, u.halted.isSome = true ∧
        u.power = s.power ∧ u.frameRun = .idle ∧ u.controlRun = s.controlRun ∧ u.jobs.map Job.addr = rest.map Job.addr ∧
        (∀ k ∈ rest, k.lane = some .control → k ∈ u.jobs) ∧ Looked l u t))

/-! ## Frame jobs -/

/-- R17: a SCENE that starts RUNNING checks its layer count and layer list address in order; the first failing check completes
it INVALID with its reason and no index, with no epoch taken, no participants, no packet and the active table as it was; a scene
with layers goes on to its list, a background-only scene to its participants. -/
def Obligations.SceneParametersAreChecked : Prop :=
  ∀ (s : State) (j : Job), s.startedFrame .scene = some j →
    (32 < j.byte 20 → exec .scene s = .next (s.completeFrame (invalidResult .badCount none none)).settle) ∧
    (0 < j.byte 20 → j.byte 20 ≤ 32 → j.word 16 = 0 →
      exec .scene s = .next (s.completeFrame (invalidResult .badField none none)).settle) ∧
    (0 < j.byte 20 → j.byte 20 ≤ 32 → j.word 16 ≠ 0 → (j.word 16).toNat % 32 ≠ 0 →
      exec .scene s = .next (s.completeFrame (invalidResult .badAlign none none)).settle) ∧
    (0 < j.byte 20 → j.byte 20 ≤ 32 → j.word 16 ≠ 0 → (j.word 16).toNat % 32 = 0 →
      exec .scene s = .next { s with frameRun := .layers [] }) ∧
    (j.byte 20 = 0 → exec .scene s = .next (s.fixParticipants j []).settle) ∧
    (∀ r : Reason, (s.completeFrame (invalidResult r none none)).epochCounter = s.epochCounter ∧
      (s.completeFrame (invalidResult r none none)).composer = s.composer ∧
      (s.completeFrame (invalidResult r none none)).ports = s.ports ∧
      (s.completeFrame (invalidResult r none none)).scene = none ∧
      (s.findJob j.addr = some j → (s.completeFrame (invalidResult r none none)).outcomeOf j.addr = some .invalid))

/-- The read of a layer record, 32 bytes at the latched address plus 32 × its index: a bus error completes the scene BUS_ERROR
with the record's index; a record that is not the last is kept; after the last, the first record that fails a check completes
the scene INVALID with its index, and a list without one goes on to the participants. The checks are the twelve of R20, in its
order, those from the sixth on for a SURFACE only. That such an address does not wrap past FFFFFFFFh is the model's choice (log
52). -/
def Obligations.LayerRecordsAreRead : Prop :=
  (∀ (s : State) (j : Job) (ls : List Layer), s.frameRun = .layers ls → s.running .frame = some j →
    s.listRead = some { address := (j.word 16).toNat + 32 * ls.length, length := 32 } ∧
    exec (.layerRecordRead none) s =
      .next (s.completeFrame (plainResult .busError (detailBusError .layerList ls.length none 0 0))).settle ∧
    ∀ bs : Vector Byte 32,
      (ls.length + 1 < j.byte 20 →
        exec (.layerRecordRead (some bs)) s = .next { s with frameRun := .layers (ls ++ [decodeLayer bs.toList]) }) ∧
      (j.byte 20 ≤ ls.length + 1 → ∀ i r, layersFault 0 (ls ++ [decodeLayer bs.toList]) = some (i, r) →
        exec (.layerRecordRead (some bs)) s = .next (s.completeFrame (invalidResult r (some i) none)).settle) ∧
      (j.byte 20 ≤ ls.length + 1 → layersFault 0 (ls ++ [decodeLayer bs.toList]) = none →
        exec (.layerRecordRead (some bs)) s = .next (s.fixParticipants j (ls ++ [decodeLayer bs.toList])).settle)) ∧
  (∀ (ls : List Layer) (i : Nat) (r : Reason), layersFault 0 ls = some (i, r) ↔
    ∃ l, ls[i]? = some l ∧ l.fault = some r ∧ ∀ k < i, ∀ m, ls[k]? = some m → m.fault = none) ∧
  (∀ l : Layer,
    let surface : Bool := l.kind == some .surface
    let pixel : Nat := match l.format with | some .rgb565 => 2 | some .rgb888 => 3 | some .xrgb8888 => 4 | none => 0
    let checks : List (Bool × Reason) :=
      [(l.kind == none, .badLayer),
       (l.scale != 1 && l.scale != 2, .badLayer),
       (decide (l.srcWidth = 0 ∨ 4096 < l.srcWidth ∨ l.srcHeight = 0 ∨ 4096 < l.srcHeight), .badLayer),
       (decide (8192 < l.destX + l.srcWidth * l.scale), .badLayer),
       (decide (8192 < l.destY + l.srcHeight * l.scale), .badLayer),
       (surface && l.format == none, .badLayer),
       (surface && decide (l.width = 0 ∨ 4096 < l.width ∨ l.height = 0 ∨ 4096 < l.height), .badLayer),
       (surface && decide (l.width < l.srcX + l.srcWidth ∨ l.height < l.srcY + l.srcHeight), .badLayer),
       (surface && l.address == 0, .badLayer),
       (surface && decide (l.address % 4 ≠ 0 ∨ l.stride % 4 ≠ 0), .badAlign),
       (surface && decide (l.stride < l.width * pixel), .badLayer),
       (surface && decide (0xFFFFFFFF < l.address + l.stride * (l.height - 1) + l.width * pixel - 1), .badLayer)]
    l.fault = (checks.find? Prod.fst).map Prod.snd)

/-- Fixing participants, for a background-only scene at its start and for a scene with layers after its last record: NO_TILES
without one; EPOCH_SPENT at counter 2^64 − 1; else LAYERS_READ: the counter rises by one and names the scene, the active table
holds its background and its layers, LAYERS_READ is handed to the bus, and each participant whose record still holds an epoch
has that epoch's DISCARD on its port. Participants whose port is LOST are dropped: all of them, or any under REQUIRE_ALL, end
the scene TILE_LOST; else the scene record is new but for them (that no record is ARMED above the counter is an invariant of
EpochOrderIsKept; that they are dropped together, log 15, that an epoch equal to the scene's own is discarded too, log 58, and
that a drop queues no second DISCARD, log 53, are the model's choices). -/
def Obligations.LayersReadTakesTheEpoch : Prop :=
  ∀ (s : State) (j : Job) (c : Instr) (layers : List Layer),
    (c = .scene ∧ s.startedFrame .scene = some j ∧ j.byte 20 = 0 ∧ layers = [] ∨
      ∃ ls bs, c = .layerRecordRead (some bs) ∧ s.frameRun = .layers ls ∧ s.running .frame = some j ∧ j.byte 20 ≤ ls.length + 1 ∧
        layers = ls ++ [decodeLayer bs.toList] ∧ layersFault 0 layers = none) →
    let participants := s.targets (j.mask 24)
    let e := s.epochCounter + 1
    let table : LayerTable := { epoch := e, background := colourAt j.params.toList 12, layers := layers }
    let lost := s.targetsIn participants .lost
    (participants = 0 → exec c s = .next (s.completeFrame (invalidResult .noTiles none none)).settle) ∧
    (participants ≠ 0 → s.epochCounter = BitVec.allOnes 64 →
      exec c s = .next (s.completeFrame (invalidResult .epochSpent none none)).settle) ∧
    (participants ≠ 0 → s.epochCounter ≠ BitVec.allOnes 64 → (∀ i x, (s.tile i).back = .armed x → x ≤ s.epochCounter) →
      ∃ t : State, exec c s = .next t.settle ∧ t.epochCounter = e ∧ t.presented = s.presented ∧ t.tiles = s.tiles ∧
        (t.findJob j.addr).map Job.writes = (s.findJob j.addr).map (fun k => k.writes ++ [.progress .layersRead]) ∧
        (∀ i : TileId, ∀ p x, Mask.has participants i = true → (s.tile i).geom.port = some p → (s.port p).link ≠ .off →
          (s.tile i).back.epoch? = some x → (t.port p).hasDiscard x = true) ∧
        (lost = 0 → t.composer = { s.composer with active := some table } ∧ t.scene = some (newScene j e participants)) ∧
        (lost ≠ 0 → j.bit 21 0 = false → participants &&& ~~~lost ≠ 0 → t.composer.active = some table ∧
          t.scene = some { newScene j e participants with dropped := lost, lastDrop := some .lost }) ∧
        (lost ≠ 0 → j.bit 21 0 = true ∨ participants &&& ~~~lost = 0 → t.frameRun = .idle ∧ t.composer.active = none ∧
          (s.findJob j.addr = some j → t.outcomeOf j.addr = some .tileLost)))

/-- R7: a TILE_MAP that starts RUNNING checks its entry count, then its address, and the first failing check decides the reason;
the list is not read then, and it is read when all three pass. -/
def Obligations.TileMapParametersAreChecked : Prop :=
  ∀ (s : State) (j : Job), s.startedFrame .tileMap = some j →
    ((j.byte 20 < 1 ∨ 12 < j.byte 20) →
      exec .tileMap s = .next (s.completeFrame (invalidResult .badCount none none)).settle) ∧
    (1 ≤ j.byte 20 → j.byte 20 ≤ 12 → j.word 16 = 0 →
      exec .tileMap s = .next (s.completeFrame (invalidResult .badField none none)).settle) ∧
    (1 ≤ j.byte 20 → j.byte 20 ≤ 12 → j.word 16 ≠ 0 → (j.word 16).toNat % 16 ≠ 0 →
      exec .tileMap s = .next (s.completeFrame (invalidResult .badAlign none none)).settle) ∧
    (1 ≤ j.byte 20 → j.byte 20 ≤ 12 → j.word 16 ≠ 0 → (j.word 16).toNat % 16 = 0 →
      exec .tileMap s = .next { s with frameRun := .entries [] }) ∧
    (∀ r : Reason, (s.completeFrame (invalidResult r none none)).frameRun = .idle ∧
      (s.findJob j.addr = some j → (s.completeFrame (invalidResult r none none)).outcomeOf j.addr = some .invalid))

/-- The read of a tile map entry, 16 bytes at the latched address plus 16 × its index: a bus error completes BUS_ERROR with that
index; an entry that is not the last is kept; after the last, the first failing entry, by the ranges of R9 and then by the
earlier entries it meets (R10), completes INVALID with its reason, its index and the earlier entry it meets, with the map as it
was. A list that passes replaces the map in one step: every record has the list's geometry, a changed tile's other fields are
reset and an unchanged tile keeps its own; the service order is the list's; a port a changed tile names in either map restarts,
and every other port is as it was; epochs and the shown table are not touched; the job completes OK with the changed, mapped and
excluded masks. That such an address does not wrap past FFFFFFFFh is the model's choice (log 52), and so is stripe number 0 in
the bus error's detail (log 64). -/
def Obligations.TileMapEntriesReplaceTheMap : Prop :=
  (∀ (s : State) (j : Job) (es : List MapEntry), s.frameRun = .entries es → s.running .frame = some j →
    s.listRead = some { address := (j.word 16).toNat + 16 * es.length, length := 16 } ∧
    exec (.tileMapEntryRead none) s =
      .next (s.completeFrame (plainResult .busError (detailBusError .entryList es.length none 0 0))).settle ∧
    ∀ bs : Vector Byte 16,
      (es.length + 1 < j.byte 20 →
        exec (.tileMapEntryRead (some bs)) s = .next { s with frameRun := .entries (es ++ [decodeEntry bs.toList]) }) ∧
      (j.byte 20 ≤ es.length + 1 → ∀ r i earlier, entriesFault [] (es ++ [decodeEntry bs.toList]) = some (r, i, earlier) →
        exec (.tileMapEntryRead (some bs)) s = .next (s.completeFrame (invalidResult r (some i) earlier)).settle) ∧
      (∀ r : Result, (s.completeFrame r).tiles = s.tiles ∧ (s.completeFrame r).ports = s.ports ∧
        (s.completeFrame r).composer = s.composer)) ∧
  (∀ (s : State) (j : Job) (es : List MapEntry) (bs : Vector Byte 16), s.frameRun = .entries es → s.running .frame = some j →
    j.byte 20 ≤ es.length + 1 → entriesFault [] (es ++ [decodeEntry bs.toList]) = none →
    let list := es ++ [decodeEntry bs.toList]
    ∃ t : State, exec (.tileMapEntryRead (some bs)) s = .next t.settle ∧
      (∀ i : TileId, t.tile i =
        if mapGeometry list i = (s.tile i).geom then s.tile i
        else { geom := mapGeometry list i, front := 0, back := .empty, activeGen := 0, pendingGen := none, stale := false }) ∧
      t.composer.order = (list.filter (fun e => !e.excluded)).map (fun e => Fin.ofNat 12 e.tile) ∧ t.composer.pointer = 0 ∧
      t.composer.shown = s.composer.shown ∧ t.epochCounter = s.epochCounter ∧ t.presented = s.presented ∧
      (∀ p : PortId, (s.restartMask list).getLsbD p.val = false → t.port p = s.port p) ∧
      (∀ p : PortId, (s.restartMask list).getLsbD p.val = true →
        (t.port p).link = (if (t.portMapped p && !s.asleep) then .listen else .off) ∧ (t.port p).lostCause = none ∧
        (t.port p).tally = 0 ∧ (t.port p).attempts = 0 ∧ (t.port p).ind = .clear ∧ (t.port p).grade = s.policy.ceiling ∧
        (t.port p).window = [] ∧ (t.port p).bufA = .free ∧ (t.port p).bufB = .free ∧ (t.port p).ctr = (s.port p).ctr) ∧
      t.frameRun = .idle ∧
      (s.findJob j.addr = some j → (∀ p : PortId, ∀ k, (s.port p).test = some k → k.job ≠ j.addr) →
        (t.findJob j.addr).bind Job.result = some (plainResult .ok (detailMasks
          (maskOf (fun i => mapGeometry list i != (s.tile i).geom)) (maskOf (fun i => (mapGeometry list i).mapping == .mapped))
          (maskOf (fun i => (mapGeometry list i).mapping == .excluded)))))) ∧
  (∀ e f : MapEntry,
    (e.inRange = true ↔ e.tile ≤ 11 ∧ e.port ≤ 11 ∧ e.stripeCode ≠ 3 ∧ 64 ≤ e.width ∧ e.width ≤ 1024 ∧ e.width % 8 = 0 ∧
      64 ≤ e.height ∧ e.height ≤ 1024 ∧ e.height % 8 = 0 ∧ e.originX + e.width ≤ 8192 ∧ e.originY + e.height ≤ 8192) ∧
    e.collision f =
      (if e.tile = f.tile ∨ e.port = f.port then some .duplicate
       else if e.excluded = false ∧ f.excluded = false ∧ e.originX < f.originX + f.width ∧ f.originX < e.originX + e.width ∧
          e.originY < f.originY + f.height ∧ f.originY < e.originY + e.height then some .overlap
       else none)) ∧
  (∀ (es : List MapEntry) (r : Reason) (i : Nat) (met : Option Nat),
    let clearOf (k n : Nat) : Prop := ∀ m < n, ∀ e f, es[k]? = some e → es[m]? = some f → e.collision f = none
    entriesFault [] es = some (r, i, met) ↔
      (∀ k < i, clearOf k k ∧ ∀ e, es[k]? = some e → e.inRange = true) ∧
      ∃ e, es[i]? = some e ∧
        (e.inRange = false ∧ r = .badEntry ∧ met = none ∨
          e.inRange = true ∧ ∃ m f, m < i ∧ es[m]? = some f ∧ e.collision f = some r ∧ met = some m ∧ clearOf i m)) ∧
  (∀ (s : State) (es : List MapEntry) (p : PortId), (s.restartMask es).getLsbD p.val = true ↔
    ∃ i : TileId, mapGeometry es i ≠ (s.tile i).geom ∧
      ((s.tile i).geom.port = some p ∨ (mapGeometry es i).port = some p))

/-- A LUT_LOAD that starts RUNNING checks mode, count, range, address, alignment and targets in that order; past them its values
are read, and no packet has been sent. -/
def Obligations.LutLoadParametersAreChecked : Prop :=
  ∀ (s : State) (j : Job), s.startedFrame .lutLoad = some j →
    let invalid (r : Reason) : Prop := exec .lutLoad s = .next (s.completeFrame (invalidResult r none none)).settle
    (3 < j.byte 18 → invalid .badField) ∧
    (j.byte 18 ≤ 3 → (j.half 20 = 0 ∨ 256 < j.half 20) → invalid .badCount) ∧
    (j.byte 18 ≤ 3 → 1 ≤ j.half 20 → j.half 20 ≤ 256 → 256 < j.byte 19 + j.half 20 → invalid .badCount) ∧
    (j.byte 18 ≤ 3 → 1 ≤ j.half 20 → j.byte 19 + j.half 20 ≤ 256 → j.word 24 = 0 → invalid .badField) ∧
    (j.byte 18 ≤ 3 → 1 ≤ j.half 20 → j.byte 19 + j.half 20 ≤ 256 → j.word 24 ≠ 0 → (j.word 24).toNat % 2 ≠ 0 →
      invalid .badAlign) ∧
    (j.byte 18 ≤ 3 → 1 ≤ j.half 20 → j.byte 19 + j.half 20 ≤ 256 → j.word 24 ≠ 0 → (j.word 24).toNat % 2 = 0 →
      s.targets (j.mask 16) = 0 → invalid .noTiles) ∧
    (j.byte 18 ≤ 3 → 1 ≤ j.half 20 → j.byte 19 + j.half 20 ≤ 256 → j.word 24 ≠ 0 → (j.word 24).toNat % 2 = 0 →
      s.targets (j.mask 16) ≠ 0 → ∃ r : LutRec, exec .lutLoad s = .next { s with serial := s.serial + 1, frameRun := .values r } ∧
        r.targets = s.targets (j.mask 16) ∧ r.start = j.byte 19 ∧ r.count = j.half 20 ∧ r.mode.code = j.byte 18 ∧ r.values = [] ∧
        r.acked = 0 ∧ r.skipped = 0)

/-- The read of table values, from the latched address plus 2 × the first word's index on: a bus error completes BUS_ERROR with
that index; bits 9–0 of the words are kept; after the last, each target that is UP and not SCHEDULED is handed one TABLE and the
others are skipped; with no target ready the job completes at once. Its outcome: TILE_LOST with none acknowledged, PARTIAL with
one skipped, RECOVERED with RETRIED set, else OK. That such an address does not wrap past FFFFFFFFh is the model's choice (log
52), and so is stripe number 0 in the bus error's detail (log 64). -/
def Obligations.ValuesAreReadAndTablesQueued : Prop :=
  (∀ (s : State) (r : LutRec), s.frameRun = .values r →
    (∀ j, s.running .frame = some j → s.listRead =
      some { address := (j.word 24).toNat + 2 * r.values.length, length := 2 * (r.count - r.values.length) }) ∧
    exec (.valuesWordRead none) s = .next (s.completeFrame
      { outcome := .busError, flags := r.flags, detail := detailBusError .valuesList r.values.length none 0 0 }).settle ∧
    ∀ ws : List Half,
      (r.values.length + ws.length < r.count →
        exec (.valuesWordRead (some ws)) s =
          .next { s with frameRun := .values { r with values := r.values ++ ws.map (fun w => w &&& 0x3FF) } }) ∧
      (r.values.length + ws.length = r.count →
        let values := r.values ++ ws.map (fun w => w &&& 0x3FF)
        let ready := maskOf (fun i => Mask.has r.targets i && s.tableReady i)
        let queued : LutRec := { r with values := values, outstanding := ready, skipped := r.targets &&& ~~~ready }
        (ready ≠ 0 → ∃ t : State, exec (.valuesWordRead (some ws)) s = .next t.settle ∧ t.frameRun = .lut queued ∧
          (∀ i : TileId, ∀ p, Mask.has ready i = true → (s.tile i).geom.port = some p →
            (∀ k : TileId, k ≠ i → (s.tile k).geom.port ≠ some p) →
            t.port p = { s.port p with queue := (s.port p).queue ++
              [.table { mode := r.mode, start := r.start, values := values } r.serial false] }) ∧
          (∀ p : PortId, (∀ i : TileId, Mask.has ready i = true → (s.tile i).geom.port ≠ some p) → t.port p = s.port p) ∧
          t.tiles = s.tiles ∧ t.jobs = s.jobs) ∧
        (ready = 0 → exec (.valuesWordRead (some ws)) s = .next (s.completeFrame
          { outcome := queued.outcome, flags := r.flags, detail := detailMasks r.acked r.targets r.cleared }).settle))) ∧
  (∀ (s : State) (i : TileId), s.tableReady i = true ↔
    ∃ p, (s.tile i).geom.port = some p ∧ (s.port p).link = .up ∧ ∀ e f, (s.tile i).back ≠ .scheduled e f) ∧
  (∀ r : LutRec, r.outcome =
    if r.acked = 0 then .tileLost else if r.skipped ≠ 0 then .partialOk else if r.flags.retried then .recovered else .ok)

/-- A VERIFY that starts RUNNING: address, alignment and targets are checked; each target UP at the shown epoch is handed a
CHECK of that epoch and is outstanding, every other is UNCHECKED. With no target outstanding, the shown table being EMPTY
included, it completes TILE_LOST at once. Its outcome and its detail, from the masks and the mismatches found. -/
def Obligations.VerifyJudgesItsTargets : Prop :=
  (∀ (s : State) (j : Job), s.startedFrame .verify = some j →
    let targets := s.targets (j.mask 16)
    let ready := maskOf (fun i => Mask.has targets i && s.checkReady i)
    (j.word 20 = 0 → exec .verify s = .next (s.completeFrame (invalidResult .badField none none)).settle) ∧
    (j.word 20 ≠ 0 → (j.word 20).toNat % 4 ≠ 0 →
      exec .verify s = .next (s.completeFrame (invalidResult .badAlign none none)).settle) ∧
    (j.word 20 ≠ 0 → (j.word 20).toNat % 4 = 0 → targets = 0 →
      exec .verify s = .next (s.completeFrame (invalidResult .noTiles none none)).settle) ∧
    (j.word 20 ≠ 0 → (j.word 20).toNat % 4 = 0 → targets ≠ 0 → ready = 0 → exec .verify s = .next (State.settle
      (State.completeFrame { s with serial := s.serial + 1 } (plainResult .tileLost (detailVerify 0 targets 0 0 0 false))))) ∧
    (j.word 20 ≠ 0 → (j.word 20).toNat % 4 = 0 → targets ≠ 0 → ready ≠ 0 → ∀ tab, s.composer.shown = some tab →
      ∃ t : State, exec .verify s = .next t.settle ∧
        (∃ r, t.verify = some r ∧ r.table = some tab ∧ r.targets = targets ∧ r.outstanding = ready ∧ r.unchecked = targets &&& ~~~ready ∧
          r.checked = 0 ∧ r.mismatches = [] ∧ r.list = j.word 20) ∧
        (∀ i : TileId, ∀ p, Mask.has ready i = true → (s.tile i).geom.port = some p →
          (∀ k : TileId, k ≠ i → (s.tile k).geom.port ≠ some p) →
          t.port p = { s.port p with queue := (s.port p).queue ++ [.check tab.epoch (s.serial + 1) false] }) ∧
        t.tiles = s.tiles ∧ t.jobs = s.jobs)) ∧
  (∀ (s : State) (i : TileId), s.checkReady i = true ↔ ∃ tab p, s.composer.shown = some tab ∧ (s.tile i).geom.port = some p ∧
    (s.port p).link = .up ∧ (s.tile i).front = tab.epoch) ∧
  (∀ r : VerifyRec,
    (r.outcome =
      if r.checked = 0 then .tileLost else if r.unchecked ≠ 0 then .partialOk else if r.flags.retried then .recovered else .ok) ∧
    (∀ i : TileId, Mask.has r.mismatched i = true ↔ ∃ k, (i, k) ∈ r.mismatches) ∧
    r.result = {
      outcome := r.outcome
      flags := r.flags
      detail := detailVerify r.checked r.unchecked r.mismatched r.mismatches.length (min r.mismatches.length 16)
        (decide (16 < r.mismatches.length)) })

/-- A recomposed stripe of a VERIFY: its CRC is compared with the one the tile reported, a difference is a mismatch, the buffer
and the engine are free, the pointer stays, and the next stripe follows or, after the last, the target is checked; with no
target left, the list is written, or the VERIFY completes where it found no mismatch. That the table compared with is the job's
own copy of the shown one (log 19), and that two reads of one composition at one address give the same byte (log 57), are the
model's choices; what a stripe's pixels are is in CompositionEndFillsTheBuffer. -/
def Obligations.VerifyRecompositionCompares : Prop :=
  ∀ (s : State) (i : TileId) (p : PortId) (b : BufId) (r : VerifyRec) (tab : LayerTable) (rep : Report) (rest : List Report)
    (image : MemImage),
    s.composer.engine = .verify i p b → s.frameRun = .verify r → r.table = some tab → r.reports = rep :: rest →
    (s.port p).buf b ≠ .free →
    let crc := crc32 (tab.stripePixels (s.tile i).geom (imageByte image s.compositions) r.stripe)
    let found := if rep.crcs[r.stripe]? = some crc then r.mismatches else r.mismatches ++ [(rep.tile, r.stripe)]
    let freed : Port := { (s.port p).setBuf b .free with olderFree := b.other }
    let base : State := { s with ports := (s.setPort p freed).ports, compositions := s.compositions + 1,
                                 composer := { s.composer with engine := .free } }
    let last : VerifyRec :=
      { r with mismatches := found, stripe := 0, reports := rest, checked := r.checked ||| bitOf rep.tile }
    (r.stripe + 1 < rep.crcs.length →
      exec (.verifyRecomposition image) s =
        .next (State.settle { base with frameRun := .verify { r with mismatches := found, stripe := r.stripe + 1 } })) ∧
    (rep.crcs.length ≤ r.stripe + 1 → rest ≠ [] ∨ r.outstanding ≠ 0 →
      exec (.verifyRecomposition image) s = .next (State.settle { base with frameRun := .verify last })) ∧
    (rep.crcs.length ≤ r.stripe + 1 → rest = [] → r.outstanding = 0 → found ≠ [] →
      exec (.verifyRecomposition image) s = .next (State.settle { base with frameRun := .listing last 0 })) ∧
    (rep.crcs.length ≤ r.stripe + 1 → rest = [] → r.outstanding = 0 → found = [] →
      exec (.verifyRecomposition image) s = .next (State.settle (base.completeFrame last.result)))

/-- A mismatch list write: taken, it is entry n at the list address plus 4 × n, in service order, and the next follows or, after
the last, the VERIFY completes; in a bus error, the VERIFY completes BUS_ERROR with the entry's index and nothing is written.
The order is by the tile's position in the service order and then by stripe, each mismatch of a tile of that order once. That an
address does not wrap past FFFFFFFFh (log 52), stripe number 0 in the bus error's detail (log 64) and byte 1 of an entry written
0 (log 65) are the model's choices. -/
def Obligations.MismatchListIsWritten : Prop :=
  (∀ (s : State) (r : VerifyRec) (n : Nat) (m : TileId × Nat), s.frameRun = .listing r n →
    (r.sorted s.composer.order)[n]? = some m →
    let written : State := { s with bus := { s.bus with log := s.bus.log ++
      [{ addr := r.list.toNat + 4 * n, bytes := le1 m.1.val ++ [0] ++ le2 m.2 }] } }
    (n + 1 < min r.mismatches.length 16 →
      exec (.mismatchListWrite true) s = .next { written with frameRun := .listing r (n + 1) }) ∧
    (min r.mismatches.length 16 ≤ n + 1 → exec (.mismatchListWrite true) s = .next (written.completeFrame r.result).settle) ∧
    exec (.mismatchListWrite false) s = .next (s.completeFrame
      { outcome := .busError, flags := r.flags, detail := detailBusError .mismatchList n none 0 0 }).settle) ∧
  (∀ (r : VerifyRec) (order : List TileId), order.Nodup →
    (r.sorted order).Pairwise (fun a b => order.idxOf a.1 < order.idxOf b.1 ∨ a.1 = b.1 ∧ a.2 ≤ b.2) ∧
    (r.sorted order).Perm (r.mismatches.filter (fun m => order.contains m.1)))

/-- The composition of a stripe ends: the buffer is READY with the composed pixels (or what it stored) and their CRC, it is
handed to the port as a STRIPE behind what waits there, and the engine is free. The pixels are, line by line from the stripe's
top line and from column 0 on, three bytes red, green, blue: the background, replaced by each layer in turn that covers the
plane pixel, by its fill colour or by its surface pixel widened from its format, unless that is its key. That two reads of one
composition at one address give the same byte is the model's choice (log 57). -/
def Obligations.CompositionEndFillsTheBuffer : Prop :=
  (∀ (s : State) (i : TileId) (p : PortId) (b : BufId) (tab : LayerTable) (id : StripeId) (image : MemImage)
    (stored : Option (List Byte)),
    s.composer.engine = .scene i p b → s.composer.active = some tab → (s.port p).buf b = .composing id → (s.port p).link ≠ .off →
    let pixels := tab.stripePixels (s.tile i).geom (imageByte image s.compositions) id.number
    let stripe : Stripe := { id := id, pixels := stored.getD pixels, check := crc32 pixels }
    ∃ t : State, exec (.compositionEnd image stored) s = .next t.settle ∧
      t.port p = { (s.port p).setBuf b (.ready stripe) with queue := (s.port p).queue ++ [.stripe b] } ∧
      (∀ q : PortId, q ≠ p → t.port q = s.port q) ∧ t.composer = { s.composer with engine := .free } ∧
      t.compositions = s.compositions + 1 ∧ t.tiles = s.tiles ∧ t.jobs = s.jobs ∧
      t = { s with ports := t.ports, composer := t.composer, compositions := t.compositions, frameRun := t.frameRun }) ∧
  (∀ (tab : LayerTable) (g : Geometry) (mem : Nat → Byte) (k : Nat) (h : StripeHeight), g.stripe = some h →
    let lines := if (k + 1) * h.lines ≤ g.height then h.lines else g.height - k * h.lines
    (tab.stripePixels g mem k).length = 3 * (lines * g.width) ∧
    ∀ l < lines, ∀ c < g.width,
      let colour := tab.colourAt mem (g.originX + c) (g.originY + (k * h.lines + l))
      let first := 3 * (l * g.width + c)
      (tab.stripePixels g mem k)[first]? = some colour.red ∧ (tab.stripePixels g mem k)[first + 1]? = some colour.green ∧
        (tab.stripePixels g mem k)[first + 2]? = some colour.blue) ∧
  (∀ (e : Epoch) (ground : Colour) (mem : Nat → Byte) (x y : Nat),
    LayerTable.colourAt { epoch := e, background := ground, layers := [] } mem x y = ground ∧
    ∀ (ls : List Layer) (l : Layer),
      let below := LayerTable.colourAt { epoch := e, background := ground, layers := ls } mem x y
      let colour := LayerTable.colourAt { epoch := e, background := ground, layers := ls ++ [l] } mem x y
      let covered : Prop := l.destX ≤ x ∧ x < l.destX + l.srcWidth * l.scale ∧ l.destY ≤ y ∧ y < l.destY + l.srcHeight * l.scale
      let a (size : Nat) : Nat :=
        l.address + (l.srcY + (y - l.destY) / l.scale) * l.stride + (l.srcX + (x - l.destX) / l.scale) * size
      let supplies (c : Colour) : Prop := colour = (if l.keyPresent = true ∧ c = l.colour then below else c)
      let v : Nat := (mem (a 2)).toNat + 256 * (mem (a 2 + 1)).toNat
      let five (n : Nat) : Byte := BitVec.ofNat 8 (n * 8 + n / 4)
      let six (n : Nat) : Byte := BitVec.ofNat 8 (n * 4 + n / 16)
      (¬covered → colour = below) ∧
      (covered → l.kind = some .fill → colour = l.colour) ∧
      (covered → l.kind = some .surface → l.format = some .rgb565 →
        supplies { red := five (v / 2048), green := six (v / 32 % 64), blue := five (v % 32) }) ∧
      (covered → l.kind = some .surface → l.format = some .rgb888 →
        supplies { red := mem (a 3 + 2), green := mem (a 3 + 1), blue := mem (a 3) }) ∧
      (covered → l.kind = some .surface → l.format = some .xrgb8888 →
        supplies { red := mem (a 4 + 2), green := mem (a 4 + 1), blue := mem (a 4) }))

/-- A surface bus error of the running scene ends it BUS_ERROR, without a halt: the active table is empty, the epoch stays
spent, and every participant whose record holds the epoch has its DISCARD waiting or outstanding; one of a VERIFY ends that job
BUS_ERROR with the layer, the tile and the stripe. That the layers a VERIFY reads are those of its own copy of the shown table
is the model's choice (log 19). So is that R49's DISCARD already queued may be an outstanding one (log 53). -/
def Obligations.SurfaceBusErrorsEndTheJob : Prop :=
  (∀ (s : State) (i : TileId) (p : PortId) (b : BufId) (tab : LayerTable) (r : SceneRec) (id : StripeId) (j : Job) (layer : Nat),
    s.composer.engine = .scene i p b → s.composer.active = some tab → s.frameRun = .scene r → (s.port p).buf b = .composing id →
    s.running .frame = some j → s.findJob j.addr = some j → s.readsLayer tab i id.number layer = true →
    ∃ t : State, exec (.surfaceBusError layer) s = .next t.settle ∧ t.outcomeOf j.addr = some .busError ∧
      (t.findJob j.addr).bind (fun k => k.result.map Result.detail) =
        some (detailBusError .surface layer (some i) id.number r.epoch) ∧
      t.frameRun = .idle ∧ t.composer.active = none ∧ t.composer.engine = .free ∧ t.halted = s.halted ∧
      t.epochCounter = s.epochCounter ∧
      (∀ k : TileId, ∀ q, Mask.has r.participants k = true → (s.tile k).geom.port = some q → (s.port q).link ≠ .off →
        (s.tile k).back.holds r.epoch = true → (t.port q).hasDiscard r.epoch = true)) ∧
  (∀ (s : State) (i : TileId) (p : PortId) (b : BufId) (tab : LayerTable) (r : VerifyRec) (j : Job) (layer : Nat),
    s.composer.engine = .verify i p b → s.frameRun = .verify r → r.table = some tab → s.running .frame = some j →
    s.findJob j.addr = some j → s.readsLayer tab i r.stripe layer = true →
    ∃ t : State, exec (.verifySurfaceBusError layer) s = .next t.settle ∧ t.outcomeOf j.addr = some .busError ∧
      (t.findJob j.addr).bind (fun k => k.result.map Result.detail) =
        some (detailBusError .surface layer (some i) r.stripe 0) ∧
      t.frameRun = .idle ∧ t.composer.engine = .free ∧ t.halted = s.halted ∧
      (∀ q : PortId, ∀ k ∈ (t.port q).queue, k.isCheckOf r.serial = false))

/-! ## Control jobs -/

/-- A POLICY: the first field out of range completes it INVALID with the field's position and changes nothing; else all seven
fields are written in one step, a port at or below the ceiling is as it was, an UP port above it retrains, which sets RETRIED of
a VERIFY that has its tile outstanding, an attempt above it starts anew, and a stalled reference falls back where fail-safe is
enabled; the job completes OK with the ports taken from UP or from an attempt and the fallback. -/
def Obligations.PolicyWritesTheStore : Prop :=
  ∀ (s : State) (j : Job), s.startedControl .policy = some j →
    let ok1 : Prop := j.byte 16 ≤ 15
    let ok2 : Prop := 1 ≤ j.byte 17 ∧ j.byte 17 ≤ 8
    let ok3 : Prop := j.byte 18 = 1 ∨ j.byte 18 = 2 ∨ j.byte 18 = 4
    let ok4 : Prop := 20 ≤ j.half 20 ∧ j.half 20 ≤ 1000
    let ok5 : Prop := 10 ≤ j.half 22 ∧ j.half 22 ≤ 1000
    let ok6 : Prop := 500 ≤ j.half 24 ∧ j.half 24 ≤ 20000
    let invalid (n : Nat) : Prop :=
      exec .policy s = .next (s.completeControl (invalidResult .badField (some n) none)).settle
    (¬ok1 → invalid 1) ∧ (ok1 → ¬ok2 → invalid 2) ∧ (ok1 → ok2 → ¬ok3 → invalid 3) ∧ (ok1 → ok2 → ok3 → ¬ok4 → invalid 4) ∧
    (ok1 → ok2 → ok3 → ok4 → ¬ok5 → invalid 5) ∧ (ok1 → ok2 → ok3 → ok4 → ok5 → ¬ok6 → invalid 6) ∧
    (ok1 → ok2 → ok3 → ok4 → ok5 → ok6 → ∃ t : State, exec .policy s = .next t.settle ∧
      t.policy.retryLimit = j.byte 16 ∧ t.policy.downshift = j.byte 17 ∧ t.policy.ceiling.code = j.byte 18 ∧
      t.policy.silenceMs = j.half 20 ∧ t.policy.ackUs = j.half 22 ∧ t.policy.trainUs = j.half 24 ∧
      t.policy.failSafe = j.bit 19 0 ∧ t.controlRun = .idle ∧
      (s.ref.state ≠ .stalled ∨ j.bit 19 0 = false → t.ref = s.ref ∧
        ∀ p : PortId, (s.port p).grade.code ≤ j.byte 18 → t.port p = s.port p) ∧
      (∀ p : PortId, ∀ g, j.byte 18 < (s.port p).grade.code →
        usableGrade (s.port p).identity.abilities t.policy.ceiling = some g →
        ((s.port p).link = .up → (t.port p).link = .train ∧ (t.port p).grade = g ∧ (t.port p).attempts = 0 ∧
          (t.port p).ctr.retrains = satInc (s.port p).ctr.retrains ∧ (t.port p).trainTimer = some (j.half 24 * 1000) ∧
          (t.port p).window = [] ∧ t.causes.tile = true ∧
          (∀ i r, s.tileOfPort p = some i → s.frameRun = .verify r → Mask.has r.outstanding i = true →
            ∃ u, t.frameRun = .verify u ∧ u.flags.retried = true)) ∧
        ((s.port p).link = .train → (t.port p).link = .train ∧ (t.port p).grade = g ∧ (t.port p).attempts = 0 ∧
          (t.port p).lockCount = 0 ∧ (t.port p).trainTimer = some (j.half 24 * 1000))) ∧
      (s.ref.state = .stalled → j.bit 19 0 = true → t.ref.state = .intern ∧ t.ref.source = .intern ∧
        t.ref.frameNumber = s.ref.frameNumber + 1 ∧ t.causes.reference = true) ∧
      ((s.jobs.map Job.addr).Nodup → (∀ p : PortId, ∀ k, (s.port p).test = some k → k.job ≠ j.addr) →
        (t.findJob j.addr).bind Job.result = some (plainResult .ok (detailPolicy
          (maskOf (fun p => decide (j.byte 18 < (s.port p).grade.code) && ((s.port p).link == .up || (s.port p).link == .train)))
          (s.ref.state == .stalled && j.bit 19 0)))))

/-- A SENSE: its address checks; the record of 13 chunks of 64 bytes, as things stand, with the clears of every port's counters
and indications that the flags ask for, and nothing else changed; then 13 writes in ascending order, the last completing it OK,
and a bus error completing it BUS_ERROR with the write's index. The first chunk is the header, chunk n + 1 the record of tile n,
byte by byte as written here; the port's bytes of a record that names no port are 0. Stripe number 0 in the bus error's detail
(log 64) and header bytes 10 and 11 written 0 (log 65) are the model's choices. -/
def Obligations.SenseGathersThenWrites : Prop :=
  (∀ (s : State) (j : Job), s.startedControl .sense = some j →
    (j.word 16 = 0 → exec .sense s = .next (s.completeControl (invalidResult .badField none none)).settle) ∧
    (j.word 16 ≠ 0 → (j.word 16).toNat % 64 ≠ 0 →
      exec .sense s = .next (s.completeControl (invalidResult .badAlign none none)).settle) ∧
    (j.word 16 ≠ 0 → (j.word 16).toNat % 64 = 0 → 0xFFFFFCC0 < (j.word 16).toNat →
      exec .sense s = .next (s.completeControl (invalidResult .badField none none)).settle) ∧
    (j.word 16 ≠ 0 → (j.word 16).toNat % 64 = 0 → (j.word 16).toNat ≤ 0xFFFFFCC0 →
      ∃ t : State, exec .sense s = .next t ∧ t = { s with ports := t.ports, controlRun := t.controlRun } ∧
        t.controlRun = .sense s.senseRecord 0 s.ref.frameNumber (BitVec.ofNat 8 (bitsByte [j.bit 20 0, j.bit 20 1])) ∧
        ∀ p : PortId, t.port p = { s.port p with ctr := if j.bit 20 0 then .zero else (s.port p).ctr,
                                                 ind := if j.bit 20 1 then .clear else (s.port p).ind })) ∧
  (∀ s : State, s.senseRecord.length = 13 ∧ ∀ c ∈ s.senseRecord, c.length = 64) ∧
  (∀ s : State,
    let entries (l : Lane) : Nat := (s.jobs.filter (fun j => j.lane == some l)).length
    s.senseRecord[0]? = some (
      le1 (match s.power.state with | .run => 1 | .standby => 2 | .sleep => 3) ++ le1 (if s.halted.isSome then 1 else 0) ++
      le1 (match s.halted with | none => 0 | some .busFault => 1 | some .bufferFault => 2) ++
      le1 (match s.intake.state with | .off => 0 | .idle => 1 | .scanning => 2 | .full => 3 | .chainFault => 4) ++
      le1 (entries .frame) ++ le1 (entries .control) ++
      le1 (match s.ref.state with | .intern => 1 | .extern => 2 | .stalled => 3 | .stopped => 4) ++
      le1 (match s.ref.source with | .intern => 1 | .extern => 2) ++ le1 (if s.ref.lock then 1 else 0) ++
      le1 (match s.ref.switch with | none => 0 | some w => (match w.target with | .intern => 1 | .extern => 2)) ++ [0, 0] ++
      le4 s.ref.frameNumber.toNat ++ le4 s.ref.period ++ le8 s.epochCounter.toNat ++ le8 s.presented.toNat ++
      le1 s.policy.retryLimit ++ le1 s.policy.downshift ++ le1 s.policy.ceiling.code ++ le1 (if s.policy.failSafe then 1 else 0) ++
      le2 s.policy.silenceMs ++ le2 s.policy.ackUs ++ le2 s.policy.trainUs ++ List.replicate 18 0)) ∧
  (∀ (s : State) (i : TileId),
    let x := s.tile i
    let stripes := s.stripesOf i
    let back : Nat × Nat × Epoch :=
      match x.back with | .empty => (0, 0, 0) | .loading e n => (1, n, e) | .armed e => (2, stripes, e) | .scheduled e _ => (3, stripes, e)
    let ofPort (y : Port) : List Byte :=
      le1 (match y.link with | .off => 0 | .listen => 1 | .offer => 2 | .train => 3 | .up => 4 | .lost => 5) ++
      le1 (match y.lostCause with | none => 0 | some .mismatch => 1 | some .trainExhausted => 2 | some .tallySaturated => 3) ++
      le1 y.grade.code ++ le1 y.attempts ++ le1 y.tally ++
      le1 ((if y.ind.syncLost then 1 else 0) + (if y.ind.offerRestarted then 2 else 0) + (if y.ind.badPacket then 4 else 0) +
        (if y.ind.holdSeen then 8 else 0) + (if y.ind.downshifted then 16 else 0)) ++
      le2 y.identity.model.toNat ++ le2 y.identity.width.toNat ++ le2 y.identity.height.toNat
    let counters (y : Port) : List Byte :=
      le4 y.ctr.sent.toNat ++ le4 y.ctr.retransmits.toNat ++ le4 y.ctr.naks.toNat ++ le4 y.ctr.ackTimeouts.toNat ++
      le4 y.ctr.badReceived.toNat ++ le4 y.ctr.retrains.toNat ++ le4 y.ctr.downshifts.toNat
    s.senseRecord[i.val + 1]? = some (
      le1 ((match x.geom.mapping with | .unmapped => 0 | .excluded => 1 | .mapped => 2) + (if x.pendingGen.isSome then 4 else 0) +
        (if x.stale then 8 else 0)) ++
      le1 (match x.geom.port with | none => 255 | some p => p.val) ++
      (match x.geom.port with | none => List.replicate 12 0 | some p => ofPort (s.port p)) ++ le1 back.1 ++ le1 back.2.1 ++
      le8 x.front.toNat ++ le8 back.2.2.toNat ++ le2 x.activeGen.toNat ++ le2 (x.pendingGen.getD 0).toNat ++
      (match x.geom.port with | none => List.replicate 28 0 | some p => counters (s.port p)))) ∧
  (∀ (s : State) (j : Job) (c : List Byte) (rest : List (List Byte)) (n : Nat) (frame : Word) (clears : Byte),
    s.controlRun = .sense (c :: rest) n frame clears → s.running .control = some j →
    let written : State := { s with bus := { s.bus with log := s.bus.log ++
      [{ addr := (j.word 16).toNat + 64 * n, bytes := c }] } }
    (rest ≠ [] → exec (.senseRecordWrite true) s = .next { written with controlRun := .sense rest (n + 1) frame clears }) ∧
    (rest = [] → exec (.senseRecordWrite true) s =
      .next (written.completeControl (plainResult .ok (detailSense frame clears))).settle) ∧
    exec (.senseRecordWrite false) s =
      .next (s.completeControl (plainResult .busError (detailBusError .senseBuffer n none 0 0))).settle)

/-- A RECOVER: NO_TILES without a target; else the port of each target is in LISTEN (OFF in SLEEP) with tally, attempts and
stability 0, at the ceiling, its window cleared and its counters and indications kept; ports of no target and all tile records
are as they were; the job completes OK with the recovered, was-LOST and was-UP masks. -/
def Obligations.RecoverRestartsItsTargets : Prop :=
  ∀ (s : State) (j : Job), s.startedControl .recover = some j →
    let targets := s.targets (j.mask 16)
    (targets = 0 → exec .recover s = .next (s.completeControl (invalidResult .noTiles none none)).settle) ∧
    (targets ≠ 0 → ∃ t : State, exec .recover s = .next t.settle ∧ t.tiles = s.tiles ∧ t.controlRun = .idle ∧
      (∀ i : TileId, ∀ p, Mask.has targets i = true → (s.tile i).geom.port = some p →
        (t.port p).link = (if s.power.state = .sleep then .off else .listen) ∧ (t.port p).lostCause = none ∧
        (t.port p).tally = 0 ∧ (t.port p).attempts = 0 ∧ (t.port p).stability = 0 ∧ (t.port p).grade = s.policy.ceiling ∧
        (t.port p).window = [] ∧ (t.port p).ctr = (s.port p).ctr ∧ (t.port p).ind = (s.port p).ind ∧
        ((s.port p).link = .up ∨ (s.port p).link = .lost → t.causes.tile = true)) ∧
      (∀ p : PortId, (∀ i : TileId, Mask.has targets i = true → (s.tile i).geom.port ≠ some p) → t.port p = s.port p) ∧
      ((s.jobs.map Job.addr).Nodup → (∀ p : PortId, ∀ k, (s.port p).test = some k → k.job ≠ j.addr) →
        let inState (l : LinkState) : Mask := maskOf (fun i => Mask.has targets i &&
          (match (s.tile i).geom.port with | some p => (s.port p).link == l | none => false))
        (t.findJob j.addr).bind Job.result = some (plainResult .ok (detailMasks targets (inState .lost) (inState .up)))))

/-- A LINK_TEST: its codes, its count, its tile, and BUSY are judged in order; else it is IN_FLIGHT on the tile's port with
every count 0, no other port changes, and the control lane it has freed is looked at (R158), in one look, before the DONE write
of a job passed over (the model's choice, log 63). -/
def Obligations.LinkTestIsJudged : Prop :=
  ∀ (s : State) (j : Job), s.startedControl .linkTest = some j → s.findJob j.addr = some j →
    let i : TileId := Fin.ofNat 12 (j.byte 16)
    let coded : Prop := j.byte 16 ≤ 11 ∧ j.byte 17 ≤ 2 ∧ j.byte 18 ≤ 1 ∧ (j.half 20 = 128 ∨ j.half 20 = 2048)
    (¬coded → exec .linkTest s = .next (s.completeControl (invalidResult .badField none none)).settle) ∧
    (coded → j.half 22 = 0 → exec .linkTest s = .next (s.completeControl (invalidResult .badCount none none)).settle) ∧
    (coded → j.half 22 ≠ 0 → (s.tile i).geom.mapping ≠ .mapped →
      exec .linkTest s = .next (s.completeControl (invalidResult .noTiles none none)).settle) ∧
    (coded → j.half 22 ≠ 0 → (s.tile i).geom.mapping = .mapped → ∀ p, (s.tile i).geom.port = some p →
      ((s.port p).test.isSome = true ∨ (s.port p).link ≠ .up ∨ (s.tile i).back ≠ .empty ∨ s.deliveringTo i = true) →
      exec .linkTest s = .next (s.completeControl (plainResult .busy detailZero)).settle) ∧
    (coded → j.half 22 ≠ 0 → (s.tile i).geom.mapping = .mapped → ∀ p, (s.tile i).geom.port = some p →
      (s.port p).test = none → (s.port p).link = .up → (s.tile i).back = .empty → s.deliveringTo i = false →
      ∃ t : State, exec .linkTest s = .next t.settle ∧ (t.findJob j.addr).map Job.status = some .inFlight ∧
        (∀ q : PortId, q ≠ p → t.port q = s.port q) ∧
        (∃ k, t.port p = { s.port p with test := some k } ∧ k.job = j.addr ∧ k.tile = i ∧ k.length = j.half 20 ∧
          k.count = j.half 22 ∧ k.inject = j.half 24 ∧ k.sent = 0 ∧ k.good = 0 ∧ k.bad = 0 ∧ k.mismatch = 0 ∧ k.lost = 0 ∧
          k.injected = 0 ∧ k.due = true) ∧
        Looked .control { s with
          controlRun := .idle
          jobs := s.jobs.map (fun k => if k.addr = j.addr then { k with status := .inFlight } else k) } t)

/-- A WITHDRAW, by its target: misaligned, absent, another WITHDRAW, WAITING, a RUNNING job that goes on, and a SCENE at
FLIP_SCHEDULED. A target whose result has been handed over and not yet written is not found, but for a TILE_MAP that has
replaced the map, which answers TOO_LATE (how that moment is taken is the model's choice, log 11). -/
def Obligations.WithdrawByItsTarget : Prop :=
  ∀ (s : State) (j : Job), s.startedControl .withdraw = some j → s.findJob j.addr = some j →
    let a := j.word 16
    let tooLate (k : Job) : Prop :=
      exec .withdraw s = .next (s.completeControl (plainResult .tooLate (detailWithdraw (some k)))).settle
    let notFound : Prop := exec .withdraw s = .next (s.completeControl (plainResult .notFound detailZero)).settle
    (a.toNat % 64 ≠ 0 → exec .withdraw s = .next (s.completeControl (invalidResult .badAlign none none)).settle) ∧
    (a.toNat % 64 = 0 → s.findJob a = none → notFound) ∧
    (a.toNat % 64 = 0 → ∀ k, s.findJob a = some k →
      (kindOf k.kind = some .withdraw →
        exec .withdraw s = .next (s.completeControl (invalidResult .badField none none)).settle) ∧
      (kindOf k.kind ≠ some .withdraw → k.result = none → k.status = .waiting →
        ∃ t : State, exec .withdraw s = .next t.settle ∧
          (t.findJob a).bind Job.result = some (plainResult .withdrawn detailZero) ∧ t.outcomeOf j.addr = some .ok ∧
          t.frameRun = s.frameRun ∧ t.ports = s.ports ∧ t.tiles = s.tiles) ∧
      (k.status = .running → k.result = none →
        (kindOf k.kind = some .tileMap ∨ kindOf k.kind = some .lutLoad ∨ kindOf k.kind = some .verify) → tooLate k) ∧
      (k.status = .running → kindOf k.kind = some .scene → k.result = none → ∀ r, s.frameRun = .scene r →
        r.stage = .flipScheduled → tooLate k) ∧
      (∀ r, k.result = some r → kindOf k.kind ≠ some .withdraw →
        (kindOf k.kind = some .tileMap → k.status = .running → r.outcome = .ok → tooLate k) ∧
        (kindOf k.kind ≠ some .tileMap ∨ k.status ≠ .running ∨ r.outcome ≠ .ok → notFound)))

/-- A WITHDRAW of what can be stopped: a RUNNING SCENE below FLIP_SCHEDULED, an IN_FLIGHT REFERENCE and an IN_FLIGHT LINK_TEST
end WITHDRAWN, and the WITHDRAW completes OK. Before LAYERS_READ the scene leaves nothing behind, its detail 0; from there on
each participant whose record holds the epoch has its DISCARD waiting or outstanding, and the scene's flags are written clear
(the model's choice of two rules, log 12; that an outstanding DISCARD counts as queued, log 53). -/
def Obligations.WithdrawStopsItsTarget : Prop :=
  ∀ (s : State) (j k : Job), s.startedControl .withdraw = some j → s.findJob j.addr = some j →
    (j.word 16).toNat % 64 = 0 → s.findJob (j.word 16) = some k → k.result = none →
    (kindOf k.kind = some .scene → s.running .frame = some k → ∀ r, s.frameRun = .scene r → r.stage ≠ .flipScheduled →
      ∃ t : State, exec .withdraw s = .next t.settle ∧ t.outcomeOf k.addr = some .withdrawn ∧ t.outcomeOf j.addr = some .ok ∧
        t.frameRun = .idle ∧ t.composer.active = none ∧
        (t.findJob k.addr).bind (fun x => x.result.map Result.flags) = some .clear ∧
        (∀ i : TileId, ∀ q, Mask.has r.participants i = true → (s.tile i).geom.port = some q → (s.port q).link ≠ .off →
          (s.tile i).back.holds r.epoch = true → (t.port q).hasDiscard r.epoch = true)) ∧
    (kindOf k.kind = some .scene → s.running .frame = some k → (s.frameRun = .started ∨ ∃ ls, s.frameRun = .layers ls) →
      ∃ t : State, exec .withdraw s = .next t.settle ∧
        (t.findJob k.addr).bind Job.result = some (plainResult .withdrawn detailZero) ∧ t.outcomeOf j.addr = some .ok ∧
        t.frameRun = .idle ∧ t.composer = s.composer ∧ t.epochCounter = s.epochCounter ∧ t.ports = s.ports ∧ t.tiles = s.tiles) ∧
    (kindOf k.kind = some .reference → k.status = .inFlight → ∀ target, s.ref.switch = some { target := target, job := some k.addr } →
      ∃ t : State, exec .withdraw s = .next t.settle ∧ t.outcomeOf k.addr = some .withdrawn ∧ t.outcomeOf j.addr = some .ok ∧
        t.ref.switch = none ∧ t.ref.lockTimer = none ∧ t.ref.lockCount = 0 ∧ t.ref.source = s.ref.source) ∧
    (kindOf k.kind = some .linkTest → k.status = .inFlight → ∀ p : PortId, ∀ test, (s.port p).test = some test →
      test.job = k.addr →
      ∃ t : State, exec .withdraw s = .next t.settle ∧ t.outcomeOf k.addr = some .withdrawn ∧ t.outcomeOf j.addr = some .ok ∧
        (t.port p).test = none)

/-- A REFERENCE is judged: the lock, the target code, the period and SLEEP in order; UNCHANGED applies the period and, with
LOCK, locks; a target equal to the source is REDUNDANT, and cancels a pending switch, whose job completes SUPERSEDED; that a
start-up switch so cancelled raises REFERENCE is the model's reading of R147 (log 50). -/
def Obligations.ReferenceIsJudged : Prop :=
  ∀ (s : State) (j : Job), s.startedControl .reference = some j → s.findJob j.addr = some j →
    let code := j.byte 16
    let period := (j.word 20).toNat
    let inRange : Prop := period = 0 ∨ 5000 ≤ period ∧ period ≤ 50000
    (s.ref.lock = true → exec .reference s = .next (s.completeControl (plainResult .rejected detailZero)).settle) ∧
    (s.ref.lock = false → (2 < code ∨ ¬inRange) →
      exec .reference s = .next (s.completeControl (invalidResult .badField none none)).settle) ∧
    (s.ref.lock = false → code ≤ 2 → inRange → s.power.state = .sleep → code ≠ 0 →
      exec .reference s = .next (s.completeControl (plainResult .notRunning detailZero)).settle) ∧
    (s.ref.lock = false → code = 0 → inRange → ∃ t : State, exec .reference s = .next t.settle ∧
      t.outcomeOf j.addr = some .ok ∧
      t.ref = { s.ref with period := if period = 0 then s.ref.period else period, lock := j.bit 17 0 }) ∧
    (s.ref.lock = false → code = s.ref.source.code → inRange → s.power.state ≠ .sleep → s.ref.switch = none →
      ∃ t : State, exec .reference s = .next t.settle ∧ t.outcomeOf j.addr = some .redundant ∧
        t.ref = { s.ref with period := if period = 0 then s.ref.period else period }) ∧
    (s.ref.lock = false → code = s.ref.source.code → inRange → s.power.state ≠ .sleep → (s.jobs.map Job.addr).Nodup →
      ∀ w, s.ref.switch = some w → w.job ≠ some j.addr →
      ∃ t : State, exec .reference s = .next t.settle ∧ t.outcomeOf j.addr = some .redundant ∧
        t.ref = { s.ref with period := if period = 0 then s.ref.period else period
                             switch := none, lockTimer := none, sincePulse := none, lockCount := 0 } ∧
        (∀ a k, w.job = some a → s.findJob a = some k → k.result = none → t.outcomeOf a = some .superseded) ∧
        (w.job = none → t.causes = { s.causes with reference := true }) ∧ (w.job ≠ none → t.causes = s.causes))

/-- A REFERENCE that asks for the other source applies its period, supersedes a pending switch and begins its own: it is
IN_FLIGHT, and the control lane is looked at (R158), in one look, before the DONE write of a job passed over (the model's
choice, log 63); a switch to EXTERNAL starts its lock count and lock timer, for the period in force; one to INTERNAL waits in
EXTERNAL, and from EXTERNAL_STALLED completes at once, with a frame start. A start-up switch superseded, and a stall so left,
raise REFERENCE (the model's reading of R147, log 50). -/
def Obligations.ReferenceBeginsASwitch : Prop :=
  ∀ (s : State) (j : Job), s.startedControl .reference = some j → (s.jobs.map Job.addr).Nodup → s.ref.lock = false →
    s.power.state ≠ .sleep → (∀ w, s.ref.switch = some w → w.job ≠ some j.addr) →
    let period := (j.word 20).toNat
    period = 0 ∨ 5000 ≤ period ∧ period ≤ 50000 →
    let inForce := if period = 0 then s.ref.period else period
    let left : Reference :=
      if s.ref.switch.isSome then { s.ref with lockTimer := none, sincePulse := none, lockCount := 0 } else s.ref
    let supersedes (t : State) : Prop :=
      (∀ w a k, s.ref.switch = some w → w.job = some a → s.findJob a = some k → k.result = none →
        t.outcomeOf a = some .superseded) ∧
      (∀ w, s.ref.switch = some w → w.job = none → t.causes.reference = true)
    let inFlight (t : State) : Prop := (t.findJob j.addr).map Job.status = some .inFlight ∧
      ∃ r : Result, r.outcome = .superseded ∧ Looked .control { s with
        controlRun := .idle
        jobs := s.jobs.map (fun k =>
          if k.addr = j.addr then { k with status := .inFlight }
          else if s.ref.switch.bind Switch.job = some k.addr then k.hand r else k) } t
    (j.byte 16 = 2 → s.ref.source = .intern → ∃ t : State, exec .reference s = .next t.settle ∧
      t.ref = { s.ref with period := inForce, switch := some { target := .extern, job := some j.addr }, lockCount := 0,
                           sincePulse := none, lockTimer := some (64 * (inForce * 1000)) } ∧
      supersedes t ∧ inFlight t) ∧
    (j.byte 16 = 1 → s.ref.source = .extern → s.ref.state = .extern → ∃ t : State, exec .reference s = .next t.settle ∧
      t.ref = { left with period := inForce, switch := some { target := .intern, job := some j.addr } } ∧
      supersedes t ∧ inFlight t) ∧
    (j.byte 16 = 1 → s.ref.source = .extern → s.ref.state = .stalled → ∃ t : State, exec .reference s = .next t.settle ∧
      t.ref.state = .intern ∧ t.ref.source = .intern ∧ t.ref.switch = none ∧ t.ref.period = inForce ∧
      t.ref.frameNumber = s.ref.frameNumber + 1 ∧ t.ref.frameTimer = some 0 ∧ t.ref.lock = j.bit 17 0 ∧
      t.outcomeOf j.addr = some .ok ∧ t.causes.reference = true ∧ supersedes t)

/-- A POWER: BAD_FIELD for no power state; REDUNDANT for the present one; into STANDBY the Composer stops, the running frame job
ends ABORTED, the WAITING ones NOT_RUNNING, and links stay; from STANDBY to RUN at once, with the buffers as they are (the
model's choice, log 43), and the frame lane is looked at in RUN (R158), in one look, before the DONE write of a job passed over
(the model's choice, log 63); from SLEEP a settle of 2 ms. -/
def Obligations.PowerIsJudged : Prop :=
  ∀ (s : State) (j : Job), s.startedControl .power = some j → (s.jobs.map Job.addr).Nodup →
    ((j.byte 16 = 0 ∨ 3 < j.byte 16) →
      exec .power s = .next (s.completeControl (invalidResult .badField none none)).settle) ∧
    (∀ w, powerOf (j.byte 16) = some w → s.power.state = w →
      exec .power s = .next (s.completeControl (plainResult .redundant (detailPower w w))).settle) ∧
    (s.power.state = .run → j.byte 16 = 2 → ∃ t : State, exec .power s = .next t.settle ∧ t.power.state = .standby ∧
      t.outcomeOf j.addr = some .ok ∧ t.frameRun = .idle ∧ t.composer.engine = .free ∧ t.ref = s.ref ∧
      (∀ p : PortId, (t.port p).link = (s.port p).link) ∧
      (∀ k ∈ t.jobs, k.lane = some .frame → k.status = .waiting → k.result.isSome = true) ∧
      (∀ k ∈ s.jobs, k.lane = some .frame → k.status = .waiting → k.result = none → t.outcomeOf k.addr = some .notRunning) ∧
      (∀ k, s.running .frame = some k → s.frameRun ≠ .idle → t.outcomeOf k.addr = some .aborted)) ∧
    (s.power.state = .standby → j.byte 16 = 1 → ∃ t : State, exec .power s = .next t.settle ∧ t.power.state = .run ∧
      t.outcomeOf j.addr = some .ok ∧ t.ports = s.ports ∧ t.tiles = s.tiles ∧ t.ref = s.ref ∧
      Looked .frame { s with
        power := { s.power with state := .run }
        controlRun := .idle
        jobs := s.jobs.map (fun k =>
          if k.addr = j.addr then k.hand (plainResult .ok (detailPower .standby .run)) else k) } t) ∧
    (s.power.state = .sleep → ∀ w, powerOf (j.byte 16) = some w → w ≠ .sleep →
      exec .power s = .next (State.settle { s with
        controlRun := .power
        power := { s.power with phase := .settling w, settleTimer := some 2000000 } }))

/-- Into SLEEP: picture work ends, a SLEEP_NOTICE is due on every UP port and its LINK_TEST ends ABORTED, ports in LISTEN, OFFER
and TRAIN are OFF and LOST ones stay, and the reference is STOPPED with its switch gone; SLEEP is reached at once where no port
is UP, and the POWER completes OK. That the power state stays, in a phase of its own, until the notices have been sent is the
model's choice (log 27), and so is REFERENCE raised for a stall left or a start-up switch ended (log 50). -/
def Obligations.SleepIsEntered : Prop :=
  ∀ (s : State) (j : Job), s.startedControl .power = some j → j.byte 16 = 3 →
    s.power.state ≠ .sleep →
    ∃ t : State, exec .power s = .next t.settle ∧ t.power.phase = .enteringSleep ∧ t.power.state = s.power.state ∧
      t.frameRun = .idle ∧ t.composer.engine = .free ∧ t.ref.state = .stopped ∧ t.ref.switch = none ∧ t.ref.lockCount = 0 ∧
      t.ref.frameTimer = none ∧ t.ref.lossTimer = none ∧ t.ref.frameNumber = s.ref.frameNumber ∧
      (∀ p : PortId, ((s.port p).link = .up → (t.port p).link = .up ∧ (t.port p).noticeDue = true ∧ (t.port p).test = none) ∧
        ((s.port p).link = .lost → (t.port p).link = .lost) ∧
        ((s.port p).link ≠ .up → (s.port p).link ≠ .lost → (t.port p).link = .off)) ∧
      (∀ p : PortId, ∀ k x, (s.port p).test = some k → s.findJob k.job = some x → x.lane = some .control → x.result = none →
        t.outcomeOf k.job = some .aborted) ∧
      (s.ref.state = .stalled ∨ (∃ w, s.ref.switch = some w ∧ w.job = none) → t.causes.reference = true) ∧
      ((∀ p : PortId, (s.port p).link ≠ .up) → t.settle.power.state = .sleep ∧
        ((s.jobs.map Job.addr).Nodup → (∀ p : PortId, ∀ k, (s.port p).test = some k → k.job ≠ j.addr) →
          (∀ w, s.ref.switch = some w → w.job ≠ some j.addr) →
          (t.settle.findJob j.addr).bind Job.result = some (plainResult .ok (detailPower s.power.state .sleep))))

/-- The end of a wake's settle: the reference is INTERNAL from the frozen frame number, every OFF port of a MAPPED tile is in
LISTEN and the other ports are as they were, the target is the power state, the POWER completes OK, and the control lane, which
started nothing while the wake settled, is looked at (R158; in one look, before the DONE write of a job passed over, the model's
choice, log 63; said for a wake without a frame job, of which SLEEP has none). -/
def Obligations.WakeSettleEnds : Prop :=
  ∀ (s : State) (target : PowerState), s.power.phase = .settling target →
    ∃ t : State, exec .wakeSettleEnd s = .next t.settle ∧ t.power.state = target ∧ t.power.phase = .steady ∧
      t.power.settleTimer = none ∧ t.ref.state = .intern ∧ t.ref.source = .intern ∧
      t.ref.frameNumber = s.ref.frameNumber ∧ t.ref.frameTimer = some 0 ∧ t.ref.frameLength = s.ref.period ∧ t.tiles = s.tiles ∧
      (∀ p : PortId, ((s.port p).link = .off → s.portMapped p = true → (t.port p).link = .listen) ∧
        ((s.port p).link ≠ .off ∨ s.portMapped p = false → (t.port p).link = (s.port p).link)) ∧
      (∀ j, s.controlRun = .power → s.running .control = some j → (s.jobs.map Job.addr).Nodup → t.outcomeOf j.addr = some .ok) ∧
      (s.frameRun = .idle →
        let awake : State := { s with power := { s.power with state := target, phase := .steady, settleTimer := none } }
        (s.controlRun ≠ .power → Looked .control awake t) ∧
        (∀ j, s.controlRun = .power → s.running .control = some j → Looked .control { awake with
          controlRun := .idle
          jobs := s.jobs.map (fun k =>
            if k.addr = j.addr then k.hand (plainResult .ok (detailPower .sleep target)) else k) } t))

/-! ## Links: bring-up -/

/-- A packet that fails a check is counted and latched, and a damaged TRAIN, one by its type byte that fails its CRC or its
length, sets the lock count back (which damaged packets do so is the model's choice, log 25); on an OFF or LOST port nothing is
checked. A packet that its link state does not take changes nothing. -/
def Obligations.PacketsAreCheckedOrDiscardedByState : Prop :=
  ∀ (s : State) (p : PortId),
    (∀ why : CheckFailure, (s.port p).link ≠ .off → (s.port p).link ≠ .lost →
      exec (.receiveCheckFailure p why) s = .next (s.setPort p { s.port p with
        ctr := { (s.port p).ctr with badReceived :=
          if (s.port p).ctr.badReceived = 0xFFFFFFFF then 0xFFFFFFFF else (s.port p).ctr.badReceived + 1 }
        ind := { (s.port p).ind with badPacket := true }
        lockCount := if (s.port p).link = .train ∧ (why = .crc 0x83 ∨ why = .length 0x83) then 0 else (s.port p).lockCount })) ∧
    (∀ why : CheckFailure, (s.port p).link = .off ∨ (s.port p).link = .lost → exec (.receiveCheckFailure p why) s = .next s) ∧
    ((s.port p).link = .off ∨ (s.port p).link = .up ∨ (s.port p).link = .lost →
      exec (.beaconReceived p) s = .next s ∧ ∀ o, exec (.offerReceived p o) s = .next s) ∧
    ((s.port p).link = .offer → exec (.beaconReceived p) s = .next s) ∧
    ((s.port p).link ≠ .train → ∀ g l n, exec (.trainReceived p g l n) s = .next s) ∧
    ((s.port p).link ≠ .up → (∀ n, exec (.ackReceived p n) s = .next s) ∧ (∀ n, exec (.nakReceived p n) s = .next s) ∧
      (∀ q, exec (.holdReceived p q) s = .next s) ∧ (∀ x, exec (.statusReceived p x) s = .next s) ∧
      (∀ e n, exec (.flippedReceived p e n) s = .next s) ∧ (∀ n f d, exec (.testEchoReceived p n f d) s = .next s) ∧
      (∀ g b, exec (.testResultReceived p g b) s = .next s) ∧ (∀ e l, exec (.checkReportReceived p e l) s = .next s))

/-- A BEACON in LISTEN or TRAIN: the port is in OFFER with its offer timer, an OFFER due and no offer record, and an OFFER
received there is taken as in OFFER, before the port's own first OFFER (the model's choice, log 48). The 1 ms timers make a
BEACON or an OFFER due and run again. The offer timer's expiry is a restart: the port is in LISTEN with a BEACON due. -/
def Obligations.BeaconsOpenAnExchange : Prop :=
  ∀ (s : State) (p : PortId),
    ((s.port p).link = .listen ∨ (s.port p).link = .train → ∃ t : State, exec (.beaconReceived p) s = .next t.settle ∧
      (∀ o, exec (.offerReceived p o) s = .next (t.takeOffer p o).settle) ∧
      (t.port p).link = .offer ∧ (t.port p).offer = none ∧ (t.port p).offerTimer = some 10000000 ∧
      (t.port p).offerRepeat = some 1000000 ∧ (t.port p).offersDue = 1 ∧ (t.port p).offeredCeiling = s.policy.ceiling ∧
      (t.port p).tileSeen = false ∧ (t.port p).seenSent = false ∧ (t.port p).beaconTimer = none ∧ (t.port p).trainTimer = none ∧
      (t.port p).attempts = (s.port p).attempts ∧ (t.port p).grade = (s.port p).grade ∧ (t.port p).tally = (s.port p).tally ∧
      (t.port p).ctr = (s.port p).ctr ∧ (t.port p).ind = (s.port p).ind ∧
      (∀ q : PortId, q ≠ p → t.port q = s.port q) ∧ t.tiles = s.tiles) ∧
    ((s.port p).link = .listen → (s.port p).beaconTimer.isSome = true →
      exec (.beaconTimer p) s =
        .next (State.settle (s.setPort p { s.port p with beaconDue := true, beaconTimer := some 1000000 }))) ∧
    ((s.port p).link = .offer → (s.port p).offerRepeat.isSome = true →
      exec (.offerRepeatTimer p) s = .next (State.settle
        (s.setPort p { s.port p with offersDue := (s.port p).offersDue + 1, offerRepeat := some 1000000 }))) ∧
    ((s.port p).link = .offer → (s.port p).offerTimer.isSome = true → ∃ t : State, exec (.offerTimeout p) s = .next t.settle ∧
      (t.port p).link = .listen ∧ (t.port p).offer = none ∧ (t.port p).offerTimer = none ∧ (t.port p).beaconDue = true ∧
      (t.port p).beaconTimer = some 1000000 ∧ (t.port p).ind = { (s.port p).ind with offerRestarted := true } ∧
      (t.port p).ctr = (s.port p).ctr ∧ (∀ q : PortId, q ≠ p → t.port q = s.port q) ∧ t.tiles = s.tiles)

/-- An OFFER taken in OFFER: a malformed one, or one that differs from the record in anything but SEEN, restarts the exchange;
any other is recorded and answered; once both sides have said SEEN the exchange ends (`ExchangeEnds`), in TRAIN at the highest
usable grade with the identity copied and the numbering back at 0, or in LOST where the size does not fit or no grade is usable.
A completed exchange reports the tile: the front epoch by R53 and the tables by R126; the back store and the cursor of a
participant being delivered to by R45; a flip-set tile by the rows of R65; any other tile's back store by R46 and R73, with
DISCARD of the epoch it holds. Waiting DISCARDs are removed first. That a FLIP waiting for a fresh target keeps it in row 3 of
R65 (log 45), that the stores are reported before the tables (log 61) and that no second DISCARD is queued where one is
outstanding (log 53) are the model's choices. -/
def Obligations.OffersEndTheExchange : Prop :=
  ∀ (s : State) (p : PortId) (o : TileOffer), (s.port p).link = .offer →
    let restarts (c : Instr) : Prop := ∃ t : State, exec c s = .next t.settle ∧ (t.port p).link = .listen ∧
      (t.port p).ind = { (s.port p).ind with offerRestarted := true } ∧ (t.port p).beaconDue = true ∧ (t.port p).offer = none
    let differs : Prop := ∃ r, (s.port p).offer = some r ∧ o ≠ { r with seen := o.seen }
    let bad : Prop := o.width = 0 ∨ o.height = 0 ∨ 128 < o.count.toNat
    let both : Prop := ((s.port p).tileSeen || o.seen) = true ∧ (s.port p).seenSent = true
    restarts (.offerReceived p none) ∧ (bad → restarts (.offerReceived p (some o))) ∧
    (differs → restarts (.offerReceived p (some o))) ∧
    (¬bad → ¬differs → ¬both → exec (.offerReceived p (some o)) s = .next (State.settle (s.setPort p { s.port p with
      offer := some ((s.port p).offer.getD o), tileSeen := (s.port p).tileSeen || o.seen,
      offersDue := (s.port p).offersDue + 1 }))) ∧
    (¬bad → ¬differs → both → ∃ t : State, exec (.offerReceived p (some o)) s = .next t.settle ∧ ExchangeEnds p o s t)

/-- A TRAIN in TRAIN counts where it names the grade and starts the count again where it does not; with the eighth in a row the
port is locked, and with a LOCKED TRAIN from then on it is UP, numbering from the tile's expected number (that it stays locked
for the attempt is the model's choice, log 24). A train timeout counts an attempt: the next one, a step down at the downshift
threshold, which sets DOWNSHIFTED of a running scene, LUT_LOAD or VERIFY that has the tile, also while its values are read, or
LOST from L1. The 64th frame start in UP clears the attempts: at a frame start, FrameStartsBySourceAndState says it; here it is
STABILITY_REACHED by itself (the model's choice, log 6), which changes nothing while the reference is EXTERNAL_STALLED or
STOPPED, since no frame starts occur then. -/
def Obligations.TrainingLocksOrFails : Prop :=
  ∀ (s : State) (p : PortId),
    ((s.port p).link = .train → ∀ (grade : Byte) (locked : Bool) (expected : Byte),
      let n := if grade.toNat = (s.port p).grade.code then min ((s.port p).lockCount + 1) 8 else 0
      let lockedNow := (s.port p).locked || decide (n = 8)
      ((lockedNow && locked) = false → exec (.trainReceived p grade locked expected) s =
        .next (State.settle (s.setPort p { s.port p with lockCount := n, locked := lockedNow }))) ∧
      ((lockedNow && locked) = true → ∃ t : State, exec (.trainReceived p grade locked expected) s = .next t.settle ∧
        (t.port p).link = .up ∧ (t.port p).nextSeq = expected ∧ (t.port p).stability = 0 ∧ (t.port p).trainTimer = none ∧
        (t.port p).silenceTimer = some (s.policy.silenceMs * 1000000) ∧ (t.port p).grade = (s.port p).grade ∧
        (t.port p).queue = (s.port p).queue ∧ (t.port p).window = (s.port p).window ∧ t.causes = { s.causes with tile := true } ∧
        (∀ q : PortId, q ≠ p → t.port q = s.port q) ∧ t.tiles = s.tiles)) ∧
    ((s.port p).link = .train → (s.port p).trainTimer.isSome = true →
      let again (t : State) (g : Grade) : Prop := (t.port p).link = .train ∧ (t.port p).grade = g ∧ (t.port p).lockCount = 0 ∧
        (t.port p).locked = false ∧ (t.port p).trainTimer = some (s.policy.trainUs * 1000)
      ((s.port p).attempts + 1 < s.policy.downshift → ∃ t : State, exec (.trainTimeout p) s = .next t.settle ∧
        again t (s.port p).grade ∧ (t.port p).attempts = (s.port p).attempts + 1 ∧ (t.port p).ctr = (s.port p).ctr) ∧
      (s.policy.downshift ≤ (s.port p).attempts + 1 → ∀ g, (s.port p).grade.down = some g →
        ∃ t : State, exec (.trainTimeout p) s = .next t.settle ∧ again t g ∧ (t.port p).attempts = 0 ∧
          (t.port p).ind = { (s.port p).ind with downshifted := true } ∧
          (t.port p).ctr = { (s.port p).ctr with downshifts := satInc (s.port p).ctr.downshifts } ∧
          (∀ i, s.tileOfPort p = some i →
            (∀ r, s.frameRun = .scene r → Mask.has r.participants i = true →
              t.frameRun = .scene { r with flags := { r.flags with downshifted := true } }) ∧
            (∀ r, s.frameRun = .values r → Mask.has r.targets i = true →
              t.frameRun = .values { r with flags := { r.flags with downshifted := true } }) ∧
            (∀ r, s.frameRun = .lut r → Mask.has r.targets i = true →
              t.frameRun = .lut { r with flags := { r.flags with downshifted := true } }) ∧
            (∀ r, s.frameRun = .verify r → Mask.has r.targets i = true →
              t.frameRun = .verify { r with flags := { r.flags with downshifted := true } }))) ∧
      (s.policy.downshift ≤ (s.port p).attempts + 1 → (s.port p).grade = .l1 →
        ∃ t : State, exec (.trainTimeout p) s = .next t.settle ∧ (t.port p).link = .lost ∧
          (t.port p).lostCause = some .trainExhausted ∧ t.causes.tile = true)) ∧
    ((s.ref.state = .intern ∨ s.ref.state = .extern) → (s.port p).link = .up → (s.port p).stability = 63 →
      exec (.stabilityReached p) s = .next (s.setPort p { s.port p with stability := 64, attempts := 0 })) ∧
    ((s.ref.state = .stalled ∨ s.ref.state = .stopped) → exec (.stabilityReached p) s = .next s)

/-- UP is left: by silence, for LISTEN; by a retry exhaustion, for another attempt, a step down or LOST; by the 255th
retransmission, for LOST, that packet not being sent. The window is empty, the LINK_TEST in flight ends TILE_LOST, TILE is
raised. On the way to LISTEN and to TRAIN the packets that were not STRIPEs wait again at the head of the queue; in LISTEN those
of a LUT_LOAD or VERIFY go that had the tile outstanding, and it is skipped or UNCHECKED; in LOST the queue is emptied, and
holds only the DISCARD that dropping a participant of the scene hands it then. A VERIFY that has the tile outstanding sets
RETRIED where the port goes to TRAIN (R180). RETRY_EXHAUSTION and TALLY_SATURATION taken by themselves are the model's choice
(log 6). -/
def Obligations.UpIsLeft : Prop :=
  ∀ (s : State) (p : PortId), (s.port p).link = .up →
    let again := (s.port p).requeue ++ (s.port p).queue.filter (fun k => !k.isStripe)
    let mine (f : TileId → Bool) : Bool := match s.tileOfPort p with | some i => f i | none => false
    let gone (k : Reliable) : Bool :=
      match s.frameRun with
      | .lut r => mine (Mask.has r.outstanding) && k.isTableOf r.serial
      | .verify r => mine (Mask.has r.outstanding) && k.isCheckOf r.serial
      | _ => false
    let emptied (t : State) : Prop := (∀ k : TileId, (s.tile k).geom.port = some p → s.tileOfPort p = some k) →
      ∀ k ∈ (t.port p).queue, ∃ r, s.scene = some r ∧ k = .discard r.epoch
    let left (t : State) : Prop := (t.port p).window = [] ∧ (t.port p).run = [] ∧ (t.port p).ackTimer = none ∧
      (t.port p).holdTimer = none ∧ (t.port p).test = none ∧ (t.port p).bufA = .free ∧ (t.port p).bufB = .free ∧
      t.causes.tile = true ∧ (∀ k j, (s.port p).test = some k → s.findJob k.job = some j → j.result = none →
        t.outcomeOf k.job = some .tileLost)
    ((s.port p).silenceTimer.isSome = true → ∃ t : State, exec (.silence p) s = .next t.settle ∧ left t ∧
      (t.port p).link = .listen ∧ (t.port p).beaconDue = true ∧ (t.port p).ind = { (s.port p).ind with syncLost := true } ∧
      (t.port p).ctr = (s.port p).ctr ∧
      (t.port p).queue = again.filter (fun k => !gone k) ∧
      (∀ i r, s.tileOfPort p = some i → s.frameRun = .lut r → Mask.has r.outstanding i = true →
        (r.outstanding &&& ~~~bitOf i ≠ 0 → ∃ u, t.frameRun = .lut u ∧ u.skipped = r.skipped ||| bitOf i ∧ u.acked = r.acked ∧
          u.outstanding = r.outstanding &&& ~~~bitOf i) ∧
        (r.outstanding &&& ~~~bitOf i = 0 → (∀ k, (s.port p).test = some k → ∀ j ∈ s.jobs, j.addr = k.job → j.lane ≠ some .frame) →
          ∀ j, s.running .frame = some j → s.findJob j.addr = some j →
          t.outcomeOf j.addr = some (if r.acked = 0 then .tileLost else .partialOk))) ∧
      (∀ i r, s.tileOfPort p = some i → s.frameRun = .verify r → Mask.has r.outstanding i = true →
        (r.outstanding &&& ~~~bitOf i ≠ 0 ∨ r.reports ≠ [] → t.frameRun = .verify { r with
          outstanding := r.outstanding &&& ~~~bitOf i, unchecked := r.unchecked ||| bitOf i })) ∧
      (∀ i, s.tileOfPort p = some i → (t.tile i).back = (s.tile i).back ∧
        (t.tile i).front = if s.isMapped i && (s.tile i).geom.loss == .blank then 0 else (s.tile i).front)) ∧
    ((∃ o ∈ (s.port p).window, s.policy.retryLimit ≤ o.retries) → ∃ t : State, exec (.retryExhaustion p) s = .next t.settle ∧
      left t ∧ (t.port p).ctr.retrains = satInc (s.port p).ctr.retrains ∧
      ((s.port p).attempts + 1 < s.policy.downshift → (t.port p).link = .train ∧ (t.port p).grade = (s.port p).grade ∧
        (t.port p).attempts = (s.port p).attempts + 1 ∧ (t.port p).queue = again ∧
        (∀ r, s.frameRun = .verify r → t.frameRun = .verify { r with flags := { r.flags with
          retried := r.flags.retried || mine (Mask.has r.outstanding) } })) ∧
      (s.policy.downshift ≤ (s.port p).attempts + 1 → ∀ g, (s.port p).grade.down = some g → (t.port p).link = .train ∧
        (t.port p).grade = g ∧ (t.port p).attempts = 0 ∧ (t.port p).ind.downshifted = true ∧ (t.port p).queue = again ∧
        (∀ r, s.frameRun = .verify r → t.frameRun = .verify { r with flags := { r.flags with
          retried := r.flags.retried || mine (Mask.has r.outstanding)
          downshifted := r.flags.downshifted || mine (Mask.has r.targets) } })) ∧
      (s.policy.downshift ≤ (s.port p).attempts + 1 → (s.port p).grade = .l1 → (t.port p).link = .lost ∧
        (t.port p).lostCause = some .trainExhausted ∧ emptied t)) ∧
    (∀ n rest o, (s.port p).run = n :: rest → (s.port p).holdTimer = none → (s.port p).tally = 254 →
      (s.port p).window.find? (fun k => k.number == n) = some o → (s.port p).resendIntact o none = true →
      ∃ t : State, exec (.tallySaturation p) s = .next t.settle ∧ left t ∧ (t.port p).link = .lost ∧
        (t.port p).lostCause = some .tallySaturated ∧ (t.port p).tally = 255 ∧ (t.port p).tx = (s.port p).tx ∧
        emptied t ∧
        (t.port p).ctr = { (s.port p).ctr with retransmits := satInc (s.port p).ctr.retransmits })

/-! ## Links: the stream in UP -/

/-- A free transmitter takes a due BEACON in LISTEN, a due OFFER in OFFER, a TRAIN in TRAIN, nothing in OFF or LOST. The OFFER
sent with SEEN set after the tile has said SEEN ends the exchange, as OffersEndTheExchange has it (the stores reported before
the tables, the model's choice, log 61). In UP it takes a due SLEEP_NOTICE and goes OFF; else a due SYNC; else the next packet
of the open run, counted as a retransmission; else the head of the queue, a STRIPE, FLIP, DISCARD, TABLE or CHECK, while the
window has room; else a due TEST; else nothing. A hold keeps back the run and the queue. A packet is counted in SENT as it
begins; that it counts as sent from then on (a port OFF with its SLEEP_NOTICE, SEEN sent, a result timer running) is the model's
choice (log 9). -/
def Obligations.TransmitterTakesTheFirstReady : Prop :=
  ∀ (s : State) (p : PortId) (busy : Packet), (s.port p).tx = some busy →
    let x : Port := { s.port p with tx := none, txTimer := none }
    let free := exec (.transmitterFree p none) s
    (x.link = .listen → x.beaconDue = true →
      free = .next (State.settle (s.setPort p (Port.begin { x with beaconDue := false } (.beacon p))))) ∧
    (x.link = .offer → ∀ k, x.offersDue = k + 1 → x.tileSeen = false ∨ x.offer = none →
      free = .next (State.settle (s.setPort p (Port.begin { x with offersDue := k, seenSent := x.seenSent || x.offer.isSome }
        (.offer x.offeredCeiling x.offer.isSome p))))) ∧
    (x.link = .offer → ∀ k, x.offersDue = k + 1 → x.tileSeen = true → ∀ o, x.offer = some o → ∃ t : State, free = .next t.settle ∧
      (t.port p).tx = some (.offer x.offeredCeiling true p) ∧ (t.port p).ctr.sent = satInc x.ctr.sent ∧ ExchangeEnds p o s t) ∧
    (x.link = .train → free = .next (State.settle (s.setPort p (x.begin (s.trainPacket p))))) ∧
    (x.link = .off ∨ x.link = .lost → free = .next (State.settle (s.setPort p x))) ∧
    (x.link = .up →
    (x.noticeDue = true → ∃ t : State, free = .next t.settle ∧ (t.port p).link = .off ∧ (t.port p).tx = some .sleepNotice ∧
      (t.port p).ctr.sent = satInc x.ctr.sent ∧ (t.port p).window = [] ∧ (t.port p).queue = []) ∧
    (x.noticeDue = false → ∀ n, x.syncDue = some n →
      free = .next (State.settle (s.setPort p (Port.begin { x with syncDue := none } (.sync n))))) ∧
    (x.noticeDue = false → x.syncDue = none → x.holdTimer = none → ∀ n rest o k, x.run = n :: rest →
      x.window.find? (fun k => k.number == n) = some o → x.resendIntact o none = true → x.tally < 254 →
      x.resent o none = some k → ∃ t : State, free = .next t.settle ∧
        t.port p = Port.begin { x with
          run := rest
          window := x.window.map (fun y => if y.number = n then { y with retries := y.retries + 1 } else y)
          ctr := { x.ctr with retransmits := satInc x.ctr.retransmits }
          tally := x.tally + 1 } k) ∧
    (x.noticeDue = false → x.syncDue = none → x.mayStart = true → ∀ k packet rest, x.queue = k :: rest →
      ((∃ e, k = .discard e ∧ packet = .discard x.nextSeq e) ∨ (∃ l n again, k = .table l n again ∧ packet = .table x.nextSeq l) ∨
        ∃ e n again, k = .check e n again ∧ packet = .check x.nextSeq e) →
      free = .next (State.settle (s.setPort p (Port.begin { x.armAckTimer s.policy.ack with
        queue := rest, window := x.window ++ [{ number := x.nextSeq, packet := k, retries := 0 }],
        nextSeq := x.nextSeq + 1 } packet)))) ∧
    (x.noticeDue = false → x.syncDue = none → x.holdTimer.isSome = true →
      (∀ k, x.test = some k → k.due = true →
        free = .next (State.settle (s.setPort p (Port.begin { x with test := some (k.afterSend s.policy.ack) } k.packet)))) ∧
      ((∀ k, x.test = some k → k.due = false) → free = .next (State.settle (s.setPort p x)))) ∧
    (x.noticeDue = false → x.syncDue = none → x.mayStart = true → ∀ b st rest, x.queue = .stripe b :: rest →
      x.buf b = .ready st →
      (crc32 st.pixels = st.check → ∃ t : State, free = .next t.settle ∧ (t.port p).buf b = .sent st ∧
        (t.port p).tx = some (.stripe x.nextSeq st.id st.pixels) ∧ (t.port p).queue = rest ∧
        ((s.tile st.id.tile).back = .empty → (t.tile st.id.tile).back = .loading st.id.epoch 0) ∧
        ((s.tile st.id.tile).back ≠ .empty → (t.tile st.id.tile).back = (s.tile st.id.tile).back)) ∧
      (crc32 st.pixels ≠ st.check → s.halted = none → ∃ t : State, free = .next t.settle ∧ t.halted = some .bufferFault ∧
        t.causes.halt = true ∧ (t.port p).tx = none)) ∧
    (x.noticeDue = false → x.syncDue = none → x.mayStart = true → ∀ e f fresh rest i, x.queue = .flip e f fresh :: rest →
      s.tileOfPort p = some i → (s.tile i).back.holds e = true →
      let target := if fresh then freshTarget s.ref.frameNumber ((s.tile i).back.targetOr f) else f
      ∃ t : State, free = .next t.settle ∧ (t.port p).tx = some (.flip x.nextSeq e target) ∧
        (t.tile i).back = .scheduled e target) ∧
    (x.noticeDue = false → x.syncDue = none → x.run = [] → x.queue = [] → ∀ k, x.test = some k → k.due = true →
      free = .next (State.settle (s.setPort p (Port.begin { x with test := some (k.afterSend s.policy.ack) } k.packet)))) ∧
    (x.noticeDue = false → x.syncDue = none → x.run = [] → x.queue = [] → x.test = none →
      free = .next (State.settle (s.setPort p x))))

/-- An ACK of an outstanding number takes it and every older packet out of the window and sets the answered point back; an
acknowledged STRIPE frees its buffer and moves the record on, and the last one of a scene arms it: the flip set, the target two
frames on, FLIP(e, F) queued on each flip-set port, ARMED handed to the bus; an acknowledged DISCARD empties the record that
holds its epoch; an acknowledged TABLE makes or keeps the pending generation, clears TABLE_STALE for a full load, and counts in
its LUT_LOAD, which completes with its last target. A NAK is counted; of the next number to send it acknowledges everything; of
an outstanding one that is not answered it acknowledges the older ones and opens a run from there, or records it during a hold;
where a packet of that run has spent its retries, UP is left. Any other number changes nothing more. That the flip set is the
ARMED participants that are not dropped (log 14), and that the cleared mask holds every target of a full load (log 37), are the
model's choices. -/
def Obligations.AcksAndNaksAreTaken : Prop :=
  ∀ (s : State) (p : PortId) (n : Byte), (s.port p).link = .up →
    let x : Port := { s.port p with silenceTimer := some (s.policy.silenceMs * 1000000) }
    let y : Port := { x with ctr := { x.ctr with naks := satInc x.ctr.naks } }
    (x.outstanding n = none → exec (.ackReceived p n) s = .next (State.settle (s.setPort p x))) ∧
    (∀ i, x.outstanding n = some i → ∃ t : State, exec (.ackReceived p n) s = .next t.settle ∧
      (t.port p).window = x.window.drop (i + 1) ∧ (t.port p).answered = none ∧ (t.port p).nextSeq = x.nextSeq ∧
      (t.port p).ctr = x.ctr ∧ (t.port p).silenceTimer = x.silenceTimer ∧
      (t.port p).ackTimer = (if x.window.drop (i + 1) = [] then none else some (s.policy.ackUs * 1000))) ∧
    (∀ o rest b st, x.window = o :: rest → o.number = n → o.packet = .stripe b → x.buf b = .sent st →
      ∃ t : State, exec (.ackReceived p n) s = .next t.settle ∧ (t.port p).buf b = .free ∧
        (t.tile st.id.tile).back = (s.tile st.id.tile).back.afterAck st.id.epoch st.id.number (s.stripesOf st.id.tile)) ∧
    (∀ o rest e i, x.window = o :: rest → o.number = n → o.packet = .discard e → s.tileOfPort p = some i →
      ∃ t : State, exec (.ackReceived p n) s = .next t.settle ∧
        (t.tile i).back = (if (s.tile i).back.holds e then .empty else (s.tile i).back)) ∧
    (∀ o rest b st r, x.window = o :: rest → o.number = n → o.packet = .stripe b → x.buf b = .sent st →
      s.frameRun = .scene r → r.stage.delivering? = true → st.id.epoch = r.epoch →
      (s.tile st.id.tile).back = .loading r.epoch st.id.number → st.id.number + 1 = s.stripesOf st.id.tile →
      Mask.has r.participants st.id.tile = true → Mask.has r.dropped st.id.tile = false → (r.requireAll = true → r.dropped = 0) →
      r.participants &&& ~~~(s.armedMask r ||| bitOf st.id.tile ||| r.dropped) = 0 →
      let flipSet := s.armedMask r ||| bitOf st.id.tile
      let target := s.ref.frameNumber + 2
      ∃ t : State, exec (.ackReceived p n) s = .next t.settle ∧ (t.tile st.id.tile).back = .armed r.epoch ∧
        t.frameRun = .scene { r with flipSet := flipSet, target := some target, deadline := 0, stage := .armed } ∧
        (∀ j, s.running .frame = some j → s.findJob j.addr = some j →
          (t.findJob j.addr).map Job.writes = some (j.writes ++ [.progress .armed])) ∧
        (∀ k : TileId, ∀ q, Mask.has flipSet k = true → (s.tile k).geom.port = some q → (s.port q).link ≠ .off →
          (∀ m : TileId, m ≠ k → (s.tile m).geom.port ≠ some q) →
          (t.port q).queue = (s.port q).queue ++ [.flip r.epoch target false]) ∧
        (∀ q : PortId, (∀ k : TileId, Mask.has flipSet k = true → (s.tile k).geom.port ≠ some q) →
          (t.port q).queue = (s.port q).queue)) ∧
    (∀ o rest l m again i, x.window = o :: rest → o.number = n → o.packet = .table l m again → s.tileOfPort p = some i →
      let full : Prop := l.mode = .all ∧ l.start = 0 ∧ l.values.length = 256
      ∃ t : State, exec (.ackReceived p n) s = .next t.settle ∧
        t.tile i = { s.tile i with
          pendingGen := some ((s.tile i).pendingGen.getD ((s.tile i).activeGen + 1))
          stale := if full then false else (s.tile i).stale } ∧
        (∀ k : TileId, k ≠ i → t.tile k = s.tile k) ∧
        (∀ r, s.frameRun = .lut r → (r.serial ≠ m ∨ Mask.has r.outstanding i = false) → t.frameRun = s.frameRun) ∧
        (∀ r, s.frameRun = .lut r → r.serial = m → Mask.has r.outstanding i = true →
          let after : LutRec := { r with
            outstanding := r.outstanding &&& ~~~bitOf i, acked := r.acked ||| bitOf i
            cleared := if full then r.cleared ||| bitOf i else r.cleared }
          (after.outstanding ≠ 0 → t.frameRun = .lut after) ∧
          (after.outstanding = 0 → t.frameRun = .idle ∧ ∀ j, s.running .frame = some j → s.findJob j.addr = some j →
            (t.findJob j.addr).bind Job.result = some
              { outcome := if r.skipped ≠ 0 then .partialOk else if r.flags.retried then .recovered else .ok
                flags := r.flags, detail := detailMasks after.acked after.skipped after.cleared }))) ∧
    (n = x.nextSeq → ∃ t : State, exec (.nakReceived p n) s = .next t.settle ∧ (t.port p).window = [] ∧
      (t.port p).ctr = y.ctr) ∧
    (n ≠ x.nextSeq → x.outstanding n = none → exec (.nakReceived p n) s = .next (State.settle (s.setPort p y))) ∧
    (n ≠ x.nextSeq → x.outstanding n ≠ none → x.answered = some n →
      exec (.nakReceived p n) s = .next (State.settle (s.setPort p y))) ∧
    (n ≠ x.nextSeq → ∀ i, x.outstanding n = some i → x.answered ≠ some n →
      (x.holdTimer.isSome = true → ∃ t : State, exec (.nakReceived p n) s = .next t.settle ∧
        (t.port p).window = x.window.drop i ∧ (t.port p).recorded = true ∧ (t.port p).answered = some n ∧ (t.port p).ctr = y.ctr) ∧
      (x.holdTimer = none → (∀ o ∈ x.window.drop i, o.retries < s.policy.retryLimit) →
        ∃ t : State, exec (.nakReceived p n) s = .next t.settle ∧ (t.port p).window = x.window.drop i ∧
          (t.port p).run = (x.window.drop i).map Outstanding.number ∧ (t.port p).answered = some n ∧ (t.port p).recorded = false ∧
          (t.port p).ackTimer = some (s.policy.ackUs * 1000) ∧ (t.port p).ctr = y.ctr) ∧
      (x.holdTimer = none → (∃ o ∈ x.window.drop i, s.policy.retryLimit ≤ o.retries) →
        ∃ t : State, exec (.nakReceived p n) s = .next t.settle ∧ (t.port p).link ≠ .up ∧ (t.port p).window = [] ∧
          t.causes.tile = true ∧ (t.port p).ctr.naks = y.ctr.naks ∧ (t.port p).ctr.retrains = satInc x.ctr.retrains))

/-- The ack timer's expiry is counted and opens a run from the oldest packet; where one of the packets has spent its retries, UP
is left. A HOLD starts the hold timer, in slots of 128 bytes, or with 0 ends the hold; the end of a hold lets an open run go on,
or begins the recorded one, which leaves UP where one of its packets has spent its retries. -/
def Obligations.AckTimeoutsAndHolds : Prop :=
  ∀ (s : State) (p : PortId), (s.port p).link = .up →
    let x : Port := { s.port p with
      silenceTimer := some (s.policy.silenceMs * 1000000), ind := { (s.port p).ind with holdSeen := true } }
    (∀ o rest, (s.port p).ackRuns = true → (s.port p).window = o :: rest →
      ((∀ k ∈ (s.port p).window, k.retries < s.policy.retryLimit) → exec (.ackTimeout p) s = .next (State.settle (s.setPort p
        { s.port p with
          ctr := { (s.port p).ctr with ackTimeouts := satInc (s.port p).ctr.ackTimeouts }
          run := (s.port p).window.map Outstanding.number
          answered := some o.number
          recorded := false
          ackTimer := some (s.policy.ackUs * 1000) }))) ∧
      ((∃ k ∈ (s.port p).window, s.policy.retryLimit ≤ k.retries) → ∃ t : State, exec (.ackTimeout p) s = .next t.settle ∧
        (t.port p).link ≠ .up ∧ (t.port p).ctr.ackTimeouts = satInc (s.port p).ctr.ackTimeouts ∧
        (t.port p).ctr.retrains = satInc (s.port p).ctr.retrains)) ∧
    ((∀ quanta : Half, quanta ≠ 0 → exec (.holdReceived p quanta) s = .next (State.settle (s.setPort p
        { x with holdTimer := some (quanta.toNat * (128 * x.grade.byteTime)) }))) ∧
      ((s.port p).holdTimer = none → exec (.holdReceived p 0) s = .next (State.settle (s.setPort p x))) ∧
      ((s.port p).holdTimer.isSome = true → exec (.holdReceived p 0) s = exec (.holdExpiry p) (s.setPort p x))) ∧
    ((s.port p).holdTimer.isSome = true → (s.port p).recorded = false →
      exec (.holdExpiry p) s = .next (State.settle (s.setPort p { s.port p with holdTimer := none }))) ∧
    ((s.port p).holdTimer.isSome = true → (s.port p).recorded = true →
      (∃ k ∈ (s.port p).window, s.policy.retryLimit ≤ k.retries) → ∃ t : State, exec (.holdExpiry p) s = .next t.settle ∧
        (t.port p).link ≠ .up ∧ (t.port p).window = [] ∧ (t.port p).holdTimer = none ∧ t.causes.tile = true ∧
        (t.port p).ctr.retrains = satInc (s.port p).ctr.retrains) ∧
    (∀ o rest, (s.port p).holdTimer.isSome = true → (s.port p).recorded = true → (s.port p).window = o :: rest →
      (∀ k ∈ (s.port p).window, k.retries < s.policy.retryLimit) →
      exec (.holdExpiry p) s = .next (State.settle (s.setPort p { s.port p with
        holdTimer := none, recorded := false, answered := some o.number, run := (s.port p).window.map Outstanding.number,
        ackTimer := some (s.policy.ackUs * 1000) })))

/-- A FLIPPED or a STATUS that names the epoch of a SCHEDULED record confirms the flip: the epoch is the front epoch, the back
store is EMPTY, a pending table generation becomes active, the presented epoch is raised, and with it the shown table; the
running scene's tile is confirmed and, where it was the last, the scene completes; a frame other than the target sets SKEWED.
Any other epoch is only heard. That the shown table is the copy of the active one also for a late confirmation while its own
scene still runs is the model's choice (log 54, beside R74's words). -/
def Obligations.FlipReportsConfirm : Prop :=
  ∀ (s : State) (p : PortId) (i : TileId) (c : Instr) (x : Epoch) (late : Bool), (s.port p).link = .up → s.tileOfPort p = some i →
    ((∃ st : TileStatus, c = .statusReceived p st ∧ st.front = x ∧ late = false) ∨
      ∃ n, c = .flippedReceived p x n ∧
        late = (match (s.tile i).back with | .scheduled _ f => decide (n ≠ f) | .empty | .loading _ _ | .armed _ => false)) →
    ((s.tile i).back.isScheduled x = false →
      exec c s = .next (State.settle (s.setPort p { s.port p with silenceTimer := some (s.policy.silenceMs * 1000000) }))) ∧
    ((s.tile i).back.isScheduled x = true → ∃ t : State, exec c s = .next t.settle ∧
      (t.tile i).front = x ∧ (t.tile i).back = .empty ∧ (t.tile i).pendingGen = none ∧
      (t.tile i).activeGen = ((s.tile i).pendingGen).getD (s.tile i).activeGen ∧ (t.tile i).geom = (s.tile i).geom ∧
      (∀ k : TileId, k ≠ i → t.tile k = s.tile k) ∧
      t.presented = (if s.presented < x then x else s.presented) ∧
      t.composer.shown = (if s.presented < x then s.composer.active.filter (fun tab => tab.epoch = x) else s.composer.shown) ∧
      (∀ r, s.scene = some r → r.awaits x i = true →
        (r.flipSet &&& ~~~(r.confirmed ||| bitOf i ||| r.unconfirmed) ≠ 0 → ∃ u, t.scene = some u ∧
          u.confirmed = r.confirmed ||| bitOf i ∧ u.unconfirmed = r.unconfirmed ∧ u.flags.skewed = (r.flags.skewed || late)) ∧
        (r.flipSet &&& ~~~(r.confirmed ||| bitOf i ||| r.unconfirmed) = 0 → r.stage.delivering? = false →
          ∀ j, s.running .frame = some j → s.findJob j.addr = some j → t.scene = none ∧ t.composer.active = none ∧
            t.outcomeOf j.addr = some (if r.dropped ≠ 0 ∨ r.unconfirmed ≠ 0 then .partialOk
              else if r.flags.retried then .recovered else .ok))))

/-- A CHECK_REPORT of an outstanding target of the VERIFY: with its epoch and its stripe count it waits to be compared; with
another the target is UNCHECKED, and where that leaves nothing to do the VERIFY completes, or with mismatches found writes its
list. Without an outstanding CHECK it is only heard. That the epoch is that of the job's own copy of the shown table is the
model's choice (log 19). -/
def Obligations.CheckReportsAreTaken : Prop :=
  ∀ (s : State) (p : PortId) (i : TileId) (epoch : Epoch) (crcs : List Word) (r : VerifyRec), (s.port p).link = .up →
    s.tileOfPort p = some i → s.frameRun = .verify r →
    let heard : State := s.setPort p { s.port p with silenceTimer := some (s.policy.silenceMs * 1000000) }
    let answered : VerifyRec := { r with outstanding := r.outstanding &&& ~~~bitOf i }
    let missed : VerifyRec := { answered with unchecked := r.unchecked ||| bitOf i }
    let command : Instr := .checkReportReceived p epoch crcs
    (Mask.has r.outstanding i = false → exec command s = .next heard.settle) ∧
    (Mask.has r.outstanding i = true → epoch = r.epoch → crcs.length = s.stripesOf i → exec command s = .next (State.settle
      { heard with frameRun := .verify { answered with reports := r.reports ++ [{ tile := i, crcs := crcs }] } })) ∧
    (Mask.has r.outstanding i = true → (epoch ≠ r.epoch ∨ crcs.length ≠ s.stripesOf i) →
      (answered.outstanding ≠ 0 ∨ r.reports ≠ [] →
        exec command s = .next (State.settle { heard with frameRun := .verify missed })) ∧
      (answered.outstanding = 0 → r.reports = [] → r.mismatches = [] →
        exec command s = .next (State.settle (State.completeFrame { heard with frameRun := .verify missed } missed.result))) ∧
      (answered.outstanding = 0 → r.reports = [] → r.mismatches ≠ [] →
        exec command s = .next (State.settle { heard with frameRun := .listing missed 0 })))

/-- LINK_TEST in ECHO: the echo of the outstanding number counts GOOD with the payload sent, MISMATCH with another, BAD as
flagged, and its echo timer's expiry counts LOST; then the next TEST is due, or after the last the job completes OK with its
counts. In SINK a TEST_RESULT completes it with the tile's counts, and the result timer's expiry with absent ones. That a BAD
echo of another number is discarded (log 26) and that a TEST_RESULT counts before the last TEST is sent (log 40) are the model's
choices. -/
def Obligations.TestsAreCounted : Prop :=
  ∀ (s : State) (p : PortId) (k : LinkTest) (j : Job), (s.port p).link = .up → (s.port p).test = some k →
    s.findJob k.job = some j → j.result = none →
    let ends (t : State) (detail : List Byte) : Prop := (t.port p).test = none ∧
      (t.findJob k.job).bind Job.result = some { outcome := .ok, flags := .clear, detail := detail } ∧
      (∀ q : PortId, q ≠ p → t.port q = s.port q) ∧ t.tiles = s.tiles ∧ t.frameRun = s.frameRun
    (∀ (c : Instr) (k' : LinkTest), k.mode = .echo →
      ((∃ n data, k.outstanding = some n.toNat ∧ c = .testEchoReceived p n .good data ∧
          data = testPayload k.pattern k.length n.toNat ∧ k' = { k with good := k.good + 1 }) ∨
        (∃ n data, k.outstanding = some n.toNat ∧ c = .testEchoReceived p n .good data ∧
          data ≠ testPayload k.pattern k.length n.toNat ∧ k' = { k with mismatch := k.mismatch + 1 }) ∨
        (∃ n data, k.outstanding = some n.toNat ∧ c = .testEchoReceived p n .bad data ∧ k' = { k with bad := k.bad + 1 }) ∨
        (k.echoTimer.isSome = true ∧ c = .echoTimeout p ∧ k' = { k with lost := k.lost + 1 })) →
      let counted := k'.good + k'.bad + k'.mismatch + k'.lost
      (counted < k.count → ∃ t : State, exec c s = .next t.settle ∧
        (t.port p).test = some { k' with outstanding := none, echoTimer := none, due := true } ∧
        (∀ q : PortId, q ≠ p → t.port q = s.port q) ∧ t.jobs = s.jobs ∧ t.tiles = s.tiles) ∧
      (k.count ≤ counted → ∃ t : State, exec c s = .next t.settle ∧
        ends t (detailTest k'.sent k'.good k'.bad k'.mismatch k'.lost k'.injected))) ∧
    (k.mode = .sink → ∀ good bad : Half, ∃ t : State, exec (.testResultReceived p good bad) s = .next t.settle ∧
      ends t (detailTest k.sent good.toNat bad.toNat 0 (k.sent - (good.toNat + bad.toNat)) k.injected)) ∧
    (k.resultTimer.isSome = true → ∃ t : State, exec (.resultTimeout p) s = .next t.settle ∧
      ends t (detailTest k.sent 0xFFFF 0xFFFF 0 0xFFFF k.injected)) ∧
    (k.mode = .echo → ∀ n flag data, k.outstanding ≠ some n.toNat → exec (.testEchoReceived p n flag data) s =
      .next (State.settle (s.setPort p { s.port p with silenceTimer := some (s.policy.silenceMs * 1000000) })))

/-! ## The Frame Reference and the limits counted in frames -/

/-- A frame start, from whatever source: the frame number rises by one, every UP port has a SYNC with that number due and one
more frame of stability, the one that brings it to 64 clearing its attempts (R87), no link changes and no other port counts. A
scene before ARMED, of which an invariant of EpochOrderIsKept says that nothing is flipped, has its deadline lowered by one;
where that brings it to 0, the deadline expires inside the frame start (R57), the participants that are late are dropped
together and the scene ends DEADLINE or is armed with the frame number now in force. A scene from ARMED on has each tile whose
limit is that frame number made unconfirmed (R66), its FLIP replaced or removed, and completes where that settles the flip set
(R67). In INTERNAL the frame timer starts again for the period in force. A pulse and a loss, by the reference state: a pulse in
EXTERNAL counts from half a frame on, one in EXTERNAL_STALLED returns to EXTERNAL; loss falls back to INTERNAL with fail-safe on
and stalls with it off. The flip set of ARMED tiles that are not dropped (log 14), the frame a limit counts from (log 17) and a
relinked tile's FLIP counting as not transmitted (log 46) are the model's choices. -/
def Obligations.FrameStartsBySourceAndState : Prop :=
  (∀ s : State,
    let n := s.ref.frameNumber + 1
    let counted (r : SceneRec) (t : State) : Prop :=
      r.stage.delivering? = true → r.deadline ≠ 1 → t.frameRun = .scene { r with deadline := r.deadline - 1 } ∧ t.jobs = s.jobs ∧
        ∀ p : PortId, (t.port p).queue = (s.port p).queue
    let expires (r : SceneRec) (t : State) : Prop :=
      r.stage.delivering? = true → r.deadline = 1 → ∀ j, s.running .frame = some j → s.findJob j.addr = some j →
      let armed := s.armedMask r
      let late := r.participants &&& ~~~(armed ||| r.dropped)
      (late = 0 → t.frameRun = .scene { r with deadline := 0 }) ∧
      (late ≠ 0 → r.requireAll = true ∨ armed = 0 → t.frameRun = .idle ∧ t.composer.active = none ∧
        t.outcomeOf j.addr = some .deadline) ∧
      (late ≠ 0 → r.requireAll = false → armed ≠ 0 →
        (∃ u, t.frameRun = .scene u ∧ u.dropped = r.dropped ||| late ∧ u.lastDrop = some .deadline ∧ u.stage = .armed ∧
          u.flipSet = armed ∧ u.target = some (n + 2) ∧ u.deadline = 0 ∧ u.unconfirmed = 0) ∧
        (t.findJob j.addr).map Job.writes = some (j.writes ++ [.progress .armed]) ∧
        (∀ k : TileId, ∀ q, Mask.has armed k = true → (s.tile k).geom.port = some q → (s.port q).link ≠ .off →
          (∀ m : TileId, m ≠ k → (s.tile m).geom.port ≠ some q) →
          (t.port q).queue = (s.port q).queue ++ [.flip r.epoch (n + 2) false]))
    let limited (r : SceneRec) (t : State) : Prop :=
      r.stage.delivering? = false →
      let due := maskOf (fun i => r.awaits r.epoch i && n == s.limitTarget r i + 8)
      let lost := r.unconfirmed ||| due
      let allSent : Prop := r.flipSet &&& ~~~(r.flipSent ||| r.confirmed ||| lost) = 0
      (r.flipSet &&& ~~~(r.confirmed ||| lost) ≠ 0 →
        (∃ u, t.frameRun = .scene u ∧ u.unconfirmed = lost ∧ u.confirmed = r.confirmed ∧
          u.lastUnconf = (if due = 0 then r.lastUnconf else some .limit) ∧
          u.stage = (if allSent then .flipScheduled else r.stage)) ∧
        ∀ j, s.running .frame = some j → s.findJob j.addr = some j → (t.findJob j.addr).map Job.writes =
          some (if r.stage = .armed ∧ allSent then j.writes ++ [.progress .flipScheduled] else j.writes)) ∧
      (r.flipSet &&& ~~~(r.confirmed ||| lost) = 0 → t.frameRun = .idle ∧ t.composer.active = none ∧
        ∀ j, s.running .frame = some j → s.findJob j.addr = some j → t.outcomeOf j.addr = some (
          if r.confirmed = 0 then (if due ≠ 0 ∨ r.lastUnconf = some .limit then .deadline else .tileLost)
          else if r.dropped ≠ 0 ∨ lost ≠ 0 then .partialOk else if r.flags.retried then .recovered else .ok)) ∧
      (∀ i : TileId, ∀ p, Mask.has due i = true → (s.tile i).geom.port = some p →
        (∀ m : TileId, m ≠ i → (s.tile m).geom.port ≠ some p) →
        (t.port p).queue =
          if (s.tile i).back.isScheduled r.epoch then (s.port p).queue.filter (fun k => !k.isFlipOf r.epoch)
          else (s.port p).queue.map (fun k => if k.isFlipOf r.epoch then .discard r.epoch else k)) ∧
      (∀ p : PortId, (∀ i : TileId, Mask.has due i = true → (s.tile i).geom.port ≠ some p) →
        (t.port p).queue = (s.port p).queue)
    let started (t : State) : Prop := t.ref.frameNumber = s.ref.frameNumber + 1 ∧ t.ref.frameLength = s.ref.period ∧
      (∀ p : PortId, (t.port p).link = (s.port p).link ∧
        ((s.port p).link = .up → (t.port p).syncDue = some (s.ref.frameNumber + 1) ∧
          (t.port p).stability = min ((s.port p).stability + 1) 64 ∧
          (t.port p).attempts = if (s.port p).stability = 63 then 0 else (s.port p).attempts) ∧
        ((s.port p).link ≠ .up → (t.port p).stability = (s.port p).stability ∧ (t.port p).attempts = (s.port p).attempts)) ∧
      t.power = s.power ∧ t.policy = s.policy ∧
      (s.scene = none → t.frameRun = s.frameRun ∧ t.jobs = s.jobs) ∧
      (∀ r, s.frameRun = .scene r → (s.sceneOk → counted r t ∧ expires r t) ∧ limited r t)
    (s.ref.state = .intern → ∃ t : State, exec .frameStart s = .next t.settle ∧ started t ∧
      t.ref = { s.ref with frameNumber := s.ref.frameNumber + 1, frameLength := s.ref.period, frameTimer := some 0 } ∧
      t.causes = s.causes) ∧
    (s.ref.state = .stopped → exec .syncInPulse s = .next s.settle) ∧
    (s.ref.state = .intern → s.ref.switch = none → exec .syncInPulse s = .next s.settle) ∧
    (s.ref.state = .extern → ∀ e, s.ref.lossTimer = some e →
      (2 * e < s.ref.frameLength * 1000 → exec .syncInPulse s = .next s.settle) ∧
      (s.ref.frameLength * 1000 ≤ 2 * e → s.ref.switch = none → ∃ t : State, exec .syncInPulse s = .next t.settle ∧ started t ∧
        t.ref = { s.ref with frameNumber := s.ref.frameNumber + 1, frameLength := s.ref.period, lossTimer := some 0 } ∧
        t.causes = s.causes)) ∧
    (s.ref.state = .stalled → ∃ t : State, exec .syncInPulse s = .next t.settle ∧ started t ∧ t.ref.state = .extern ∧
      t.ref.lossTimer = some 0 ∧ t.causes = { s.causes with reference := true }) ∧
    (s.ref.state = .extern → s.ref.switch = none → s.policy.failSafe = true → ∃ t : State, exec .lossDeclared s = .next t.settle ∧
      started t ∧ t.ref.state = .intern ∧ t.ref.source = .intern ∧ t.ref.frameTimer = some 0 ∧ t.ref.lossTimer = none ∧
      t.causes = { s.causes with reference := true }) ∧
    (s.ref.state = .extern → s.ref.switch = none → s.policy.failSafe = false → exec .lossDeclared s = .next (State.settle { s with
      ref := { s.ref with state := .stalled, lossTimer := none }, causes := { s.causes with reference := true } }))) ∧
  (∀ (s : State) (r : SceneRec) (i : TileId),
    let back := (s.tile i).back
    let scene := r.target.getD 0
    (r.awaits r.epoch i = true ↔
      Mask.has r.flipSet i = true ∧ Mask.has r.confirmed i = false ∧ Mask.has r.unconfirmed i = false) ∧
    (∀ e f, back = .scheduled e f → s.limitTarget r i = f) ∧
    ((∀ e f, back ≠ .scheduled e f) → (s.tile i).geom.port = none → s.limitTarget r i = scene) ∧
    ((∀ e f, back ≠ .scheduled e f) → ∀ p, (s.tile i).geom.port = some p →
      ((∀ k ∈ (s.port p).queue, k.isFlipOf r.epoch = false) → s.limitTarget r i = scene) ∧
      (∀ before f fresh after, (s.port p).queue = before ++ .flip r.epoch f fresh :: after →
        (∀ k ∈ before, k.isFlipOf r.epoch = false) → s.limitTarget r i = f)))

/-- A switch to EXTERNAL: a pulse starts the lock count at 1, a well-spaced one raises it and any other starts it again; the
eighth locks, with a frame start, and completes the switch; the lock timer's expiry ends it NO_LOCK; a start-up switch raises
REFERENCE for either end. A switch to INTERNAL completes at the next qualifying pulse, or at a loss, which raises REFERENCE with
fail-safe on only. LOCK_PULSE by itself (log 6) and a lock count that stands at 8 after a lock (log 23) are the model's choices.
-/
def Obligations.SwitchesLockOrExpire : Prop :=
  ∀ (s : State) (w : Switch), s.ref.switch = some w →
    let ended (t : State) (o : JobOutcome) : Prop := t.ref.switch = none ∧ t.ref.lockTimer = none ∧ t.ref.sincePulse = none ∧
      (∀ a j, w.job = some a → s.findJob a = some j → j.status = .inFlight → j.result = none → (s.jobs.map Job.addr).Nodup →
        t.outcomeOf a = some o)
    let locked (t : State) : Prop := ended t .ok ∧ t.ref.state = .extern ∧ t.ref.source = .extern ∧ t.ref.lockCount = 8 ∧
      t.ref.frameTimer = none ∧ t.ref.lossTimer = some 0 ∧ t.ref.frameNumber = s.ref.frameNumber + 1 ∧
      (w.job = none → t.causes.reference = true)
    (w.target = .extern → s.ref.state = .intern →
      let n := match s.ref.sincePulse with
        | none => 1
        | some e => if 99 * s.ref.period * 1000 ≤ 100 * e ∧ 100 * e ≤ 101 * s.ref.period * 1000 then s.ref.lockCount + 1 else 1
      (n ≠ 8 → exec .syncInPulse s = .next (State.settle { s with ref := { s.ref with lockCount := n, sincePulse := some 0 } })) ∧
      (n = 8 → ∃ t : State, exec .syncInPulse s = .next t.settle ∧ locked t) ∧
      (s.ref.lockCount = 7 → ∃ t : State, exec .lockPulse s = .next t.settle ∧ locked t)) ∧
    (w.target = .extern → s.ref.lockTimer.isSome = true → ∃ t : State, exec .lockTimerExpiry s = .next t.settle ∧
      ended t .noLock ∧ t.ref.lockCount = 0 ∧ t.ref.state = s.ref.state ∧ t.ref.source = s.ref.source ∧
      t.ref.frameNumber = s.ref.frameNumber ∧ t.ports = s.ports ∧ (w.job = none → t.causes.reference = true)) ∧
    (w.target = .intern → s.ref.state = .extern → ∀ e, s.ref.lossTimer = some e → s.ref.frameLength * 1000 ≤ 2 * e →
      ∃ t : State, exec .syncInPulse s = .next t.settle ∧ ended t .ok ∧ t.ref.state = .intern ∧ t.ref.source = .intern ∧
        t.ref.frameTimer = some 0 ∧ t.ref.lossTimer = none ∧ t.ref.frameNumber = s.ref.frameNumber + 1) ∧
    (w.target = .intern → s.ref.state = .extern → ∃ t : State, exec .lossDeclared s = .next t.settle ∧ ended t .ok ∧
      t.ref.state = .intern ∧ t.ref.source = .intern ∧ t.ref.frameTimer = some 0 ∧ t.ref.lossTimer = none ∧
      t.ref.frameNumber = s.ref.frameNumber + 1 ∧
      (w.job ≠ none → t.causes = { s.causes with reference := s.causes.reference || s.policy.failSafe }))

/-- The deadline's expiry drops every participant that is neither dropped nor ARMED: with REQUIRE_ALL, or with no tile ARMED,
the scene ends DEADLINE; else it arms the ARMED tiles for the frame after the next, with FLIP(e, F) queued on each of their
ports and ARMED handed to the bus. A confirmation limit makes its tile unconfirmed; where that settles the flip set, the scene
completes DEADLINE with nothing confirmed and PARTIAL otherwise; a FLIP still waiting for its first transmission gives way to a
DISCARD. A limit is one frame start away where that start is numbered F + 8 or later. While the reference is EXTERNAL_STALLED or
STOPPED no frame starts occur, and neither command changes anything. DEADLINE_EXPIRY and CONFIRMATION_LIMIT by themselves, with
the frame number not moved, and a limit whose frame start has passed (log 6), the flip set of ARMED tiles that are not dropped
(log 14), the frame a limit counts from (log 17) and a relinked tile's FLIP counting as not transmitted (log 46) are the model's
choices. -/
def Obligations.FrameLimitsDropAndUnconfirm : Prop :=
  (∀ (s : State) (r : SceneRec) (j : Job), s.frameRun = .scene r → r.stage.delivering? = true → r.deadline = 1 →
    (s.ref.state = .intern ∨ s.ref.state = .extern) → s.running .frame = some j → s.findJob j.addr = some j →
    let armed := s.armedMask r
    let late := r.participants &&& ~~~(armed ||| r.dropped)
    late ≠ 0 →
    (r.requireAll = true ∨ armed = 0 → ∃ t : State, exec .deadlineExpiry s = .next t.settle ∧ t.frameRun = .idle ∧
      t.composer.active = none ∧ t.outcomeOf j.addr = some .deadline) ∧
    (r.requireAll = false → armed ≠ 0 → ∃ t : State, exec .deadlineExpiry s = .next t.settle ∧
      ∃ u, t.frameRun = .scene u ∧ u.dropped = r.dropped ||| late ∧ u.lastDrop = some .deadline ∧ u.stage = .armed ∧
        u.flipSet = armed ∧ u.target = some (s.ref.frameNumber + 2) ∧ u.deadline = 0 ∧
        (t.findJob j.addr).map Job.writes = some (j.writes ++ [.progress .armed]) ∧
        (∀ k : TileId, ∀ q, Mask.has armed k = true → (s.tile k).geom.port = some q → (s.port q).link ≠ .off →
          (∀ m : TileId, m ≠ k → (s.tile m).geom.port ≠ some q) →
          (t.port q).queue = (s.port q).queue ++ [.flip r.epoch (s.ref.frameNumber + 2) false]))) ∧
  (∀ s : State, (s.ref.state = .stalled ∨ s.ref.state = .stopped) → exec .deadlineExpiry s = .next s ∧
    ∀ i : TileId, exec (.confirmationLimit i) s = .next s) ∧
  (∀ (s : State) (i : TileId), s.limitNext i = true ↔ (s.ref.state = .intern ∨ s.ref.state = .extern) ∧
    ∃ r, s.frameRun = .scene r ∧ r.awaits r.epoch i = true ∧
      (s.ref.frameNumber + 1 - (s.limitTarget r i + 8)).toNat < 2 ^ 31) ∧
  (∀ (s : State) (r : SceneRec) (i : TileId), s.frameRun = .scene r → r.awaits r.epoch i = true → s.limitNext i = true →
    r.stage.delivering? = false →
    (r.flipSet &&& ~~~(r.confirmed ||| (r.unconfirmed ||| bitOf i)) ≠ 0 → ∃ t : State,
      exec (.confirmationLimit i) s = .next t.settle ∧ ∃ u, t.frameRun = .scene u ∧ u.unconfirmed = r.unconfirmed ||| bitOf i ∧
        u.lastUnconf = some .limit ∧ u.confirmed = r.confirmed) ∧
    (r.flipSet &&& ~~~(r.confirmed ||| (r.unconfirmed ||| bitOf i)) = 0 → ∀ j, s.running .frame = some j →
      s.findJob j.addr = some j → ∃ t : State, exec (.confirmationLimit i) s = .next t.settle ∧ t.frameRun = .idle ∧
        t.outcomeOf j.addr = some (if r.confirmed = 0 then .deadline else .partialOk)) ∧
    (∀ p, (s.tile i).geom.port = some p → (s.tile i).back.isScheduled r.epoch = false → ∃ t : State,
      exec (.confirmationLimit i) s = .next t.settle ∧ (t.port p).queue =
        (s.port p).queue.map (fun k => if k.isFlipOf r.epoch then .discard r.epoch else k)))

/-! ## What follows a command in its step -/

/-- A free engine, while composing is allowed, is granted to the first eligible tile from the pointer round the service order:
its next stripe is COMPOSING in a FREE buffer, its cursor rises, and the pointer stands past it. A tile is eligible exactly
where R37's conditions hold, and the buffer taken is the FREE one, of two the one freed longer ago. Nothing eligible, an engine
at work or picture work stopped (also while SLEEP is entered, log 27): no grant. A free engine of a VERIFY (R181) goes to the
target whose report was taken first, for its next stripe, once a buffer of its port is FREE, and the pointer does not move; its
epoch is that of the job's own copy of the shown table (log 19). What follows a command: with every transmitter busy the grant
alone; with one idle it begins what is ready on its port, and then the grant (an OFFER with SEEN that the tile's SEEN waits for
ends the exchange before it, as OffersEndTheExchange has it; the stores reported before the tables, log 61); with nothing ready,
the grant alone. That this follows in the command's own step is the model's choice (log 7). -/
def Obligations.GrantsGoRoundTheServiceOrder : Prop :=
  (∀ (s : State) (r : SceneRec) (d : Nat) (i : TileId) (p : PortId) (b : BufId),
    let place (k : Nat) := s.composer.order[(s.composer.pointer + k) % s.composer.order.length]?
    s.composer.engine = .free → s.mayCompose = true → s.frameRun = .scene r → d < s.composer.order.length →
    place d = some i → s.eligible r i = some (p, b) → (∀ k < d, ∀ m, place k = some m → s.eligible r m = none) →
    ∃ u : SceneRec, s.arbitrate.frameRun = .scene u ∧ u.cursors = r.cursors.set i.val (r.cursors[i.val] + 1) ∧
      u.stage = .delivering ∧
      s.arbitrate.composer = { s.composer with
        engine := .scene i p b
        pointer := ((s.composer.pointer + d) % s.composer.order.length + 1) % s.composer.order.length } ∧
      s.arbitrate.port p = (s.port p).setBuf b (.composing
        { tile := i, epoch := r.epoch, number := r.cursors[i.val], lines := (s.tile i).geom.linesOf r.cursors[i.val] }) ∧
      (∀ q : PortId, q ≠ p → s.arbitrate.port q = s.port q) ∧ s.arbitrate.tiles = s.tiles) ∧
  (∀ (s : State) (r : SceneRec) (i : TileId) (p : PortId) (b : BufId), s.eligible r i = some (p, b) ↔
    (s.tile i).geom.port = some p ∧ (s.port p).buf b = .free ∧
      (b = (s.port p).olderFree ∨ (s.port p).buf (s.port p).olderFree ≠ .free) ∧ (s.port p).link = .up ∧ (s.port p).test = none ∧
      Mask.has r.participants i = true ∧ Mask.has r.dropped i = false ∧ (r.stage = .layersRead ∨ r.stage = .delivering) ∧
      ((s.tile i).back = .empty ∨ ∃ n, (s.tile i).back = .loading r.epoch n) ∧
      (∀ e, .discard e ∉ (s.port p).queue ∧ ∀ o ∈ (s.port p).window, o.packet ≠ .discard e) ∧
      r.cursors[i.val] < s.stripesOf i) ∧
  (∀ s : State, s.mayCompose = true ↔ s.halted = none ∧ s.power.state = .run ∧ s.power.phase ≠ .enteringSleep) ∧
  (∀ s : State, s.composer.engine ≠ .free ∨ s.mayCompose = false → s.arbitrate = s) ∧
  (∀ (s : State) (r : VerifyRec), s.composer.engine = .free → s.mayCompose = true → s.frameRun = .verify r →
    (r.reports = [] → s.arbitrate = s) ∧
    (∀ rep rest p, r.reports = rep :: rest → (s.tile rep.tile).geom.port = some p →
      ((∀ b : BufId, (s.port p).buf b ≠ .free) → s.arbitrate = s) ∧
      (∀ b : BufId, (s.port p).buf b = .free → (b = (s.port p).olderFree ∨ (s.port p).buf (s.port p).olderFree ≠ .free) →
        s.arbitrate = { s.setPort p ((s.port p).setBuf b (.composing
            { tile := rep.tile, epoch := r.epoch, number := r.stripe, lines := (s.tile rep.tile).geom.linesOf r.stripe })) with
          composer := { s.composer with engine := .verify rep.tile p b } }))) ∧
  (∀ (s : State) (r : SceneRec), s.frameRun = .scene r → (∀ i : TileId, s.eligible r i = none) → s.arbitrate = s) ∧
  (∀ s : State, (∀ p : PortId, (s.port p).tx.isSome = true) → s.power.phase ≠ .enteringSleep →
    s.settle = s.arbitrate ∧ (s.composer.engine ≠ .free → s.settle = s)) ∧
  (∀ (s : State) (p : PortId), s.power.phase ≠ .enteringSleep → (s.port p).tx = none →
    (∀ q : PortId, q ≠ p → (s.port q).tx.isSome = true) →
    let x := s.port p
    let begins (y : Port) (k : Packet) : Prop := s.settle = (s.setPort p (y.begin k)).arbitrate
    (x.link = .listen → x.beaconDue = true → begins { x with beaconDue := false } (.beacon p)) ∧
    (x.link = .offer → ∀ k, x.offersDue = k + 1 → x.tileSeen = true → ∀ o, x.offer = some o → ∃ t : State,
      s.settle = t.arbitrate ∧ (t.port p).tx = some (.offer x.offeredCeiling true p) ∧
      (t.port p).ctr.sent = satInc x.ctr.sent ∧ ExchangeEnds p o s t) ∧
    (x.link = .offer → ∀ k, x.offersDue = k + 1 → x.tileSeen = false ∨ x.offer = none →
      begins { x with offersDue := k, seenSent := x.seenSent || x.offer.isSome } (.offer x.offeredCeiling x.offer.isSome p)) ∧
    (x.link = .train → begins x (s.trainPacket p)) ∧
    (x.link = .up → x.noticeDue = false →
      (∀ n, x.syncDue = some n → begins { x with syncDue := none } (.sync n)) ∧
      (x.syncDue = none → x.mayStart = true → ∀ k packet rest, x.queue = k :: rest →
        ((∃ e, k = .discard e ∧ packet = .discard x.nextSeq e) ∨ (∃ l n again, k = .table l n again ∧ packet = .table x.nextSeq l) ∨
          ∃ e n again, k = .check e n again ∧ packet = .check x.nextSeq e) →
        begins { x.armAckTimer s.policy.ack with
          queue := rest, window := x.window ++ [{ number := x.nextSeq, packet := k, retries := 0 }],
          nextSeq := x.nextSeq + 1 } packet) ∧
      (x.syncDue = none → x.mayStart = true → ∀ b st rest, x.queue = .stripe b :: rest → x.buf b = .ready st →
        crc32 st.pixels = st.check → (s.settle.port p).tx = some (.stripe x.nextSeq st.id st.pixels)) ∧
      (x.syncDue = none → x.run = [] → x.queue = [] → ∀ k, x.test = some k → k.due = true →
        begins { x with test := some (k.afterSend s.policy.ack) } k.packet) ∧
      (x.syncDue = none → x.run = [] → x.queue = [] → x.test = none → s.settle = s.arbitrate)) ∧
    (x.link = .off ∨ x.link = .lost → s.settle = s.arbitrate))

/-! ## Invariants -/

/-- Every step keeps the Job List at most 8 long with no block twice, each intake state with its registers, and at most one job
RUNNING in each lane. -/
def Obligations.JobListAndIntakeAreKept : Prop :=
  Kept (fun s => s.listOk ∧ s.intake.ok s.jobs ∧ s.oneRunning .frame ∧ s.oneRunning .control)

/-- Every step keeps every port's window, numbering, tally, counts and LOST cause as the spec says. -/
def Obligations.PortsAreKept : Prop := Kept (fun s => ∀ p : PortId, (s.port p).ok)

/-- Every step keeps every front epoch at most the presented epoch and that at most the epoch counter, and no ARMED or SCHEDULED
record, FLIP, stripe buffer, layer table or scene names an epoch above the counter; and it keeps a scene that has not reached
ARMED without a flip set, a confirmed or unconfirmed tile, or a FLIP of its epoch waiting or outstanding (R58, R59). -/
def Obligations.EpochOrderIsKept : Prop := Kept (fun s => s.epochsOk ∧ s.sceneOk)

/-- Every step keeps the policy store and the frame period in their ranges, and keeps picture work stopped while the controller
is HALTED, out of RUN, or entering SLEEP (that last the model's choice, log 27). -/
def Obligations.RangesAndStoppedWorkAreKept : Prop :=
  Kept (fun s => s.policy.ok ∧ s.ref.periodOk ∧ s.pictureWorkOk)

/-- The state after reset meets every one of these invariants. -/
def Obligations.ResetMeetsTheInvariants : Prop :=
  State.reset.listOk ∧ State.reset.intake.ok State.reset.jobs ∧ State.reset.oneRunning .frame ∧ State.reset.oneRunning .control ∧
    (∀ p : PortId, (State.reset.port p).ok) ∧ State.reset.epochsOk ∧ State.reset.sceneOk ∧ State.reset.policy.ok ∧ State.reset.ref.periodOk ∧
    State.reset.pictureWorkOk

end
end

