-- ==== Sys2Proof/Laws/State.lean ====
section
/-! SUPPORT. One lemma per field per update: what each named update of the state leaves as it was. -/
namespace Sys2Proof.Machine

/-! `setPort` changes only ports. -/
@[simp] theorem State.setPort_pending (s : State) (p : PortId) (x : Port) : (s.setPort p x).pending = s.pending := rfl
@[simp] theorem State.setPort_intake (s : State) (p : PortId) (x : Port) : (s.setPort p x).intake = s.intake := rfl
@[simp] theorem State.setPort_causes (s : State) (p : PortId) (x : Port) : (s.setPort p x).causes = s.causes := rfl
@[simp] theorem State.setPort_causeEnable (s : State) (p : PortId) (x : Port) : (s.setPort p x).causeEnable = s.causeEnable := rfl
@[simp] theorem State.setPort_halted (s : State) (p : PortId) (x : Port) : (s.setPort p x).halted = s.halted := rfl
@[simp] theorem State.setPort_jobs (s : State) (p : PortId) (x : Port) : (s.setPort p x).jobs = s.jobs := rfl
@[simp] theorem State.setPort_frameRun (s : State) (p : PortId) (x : Port) : (s.setPort p x).frameRun = s.frameRun := rfl
@[simp] theorem State.setPort_controlRun (s : State) (p : PortId) (x : Port) : (s.setPort p x).controlRun = s.controlRun := rfl
@[simp] theorem State.setPort_composer (s : State) (p : PortId) (x : Port) : (s.setPort p x).composer = s.composer := rfl
@[simp] theorem State.setPort_epochCounter (s : State) (p : PortId) (x : Port) : (s.setPort p x).epochCounter = s.epochCounter := rfl
@[simp] theorem State.setPort_presented (s : State) (p : PortId) (x : Port) : (s.setPort p x).presented = s.presented := rfl
@[simp] theorem State.setPort_tiles (s : State) (p : PortId) (x : Port) : (s.setPort p x).tiles = s.tiles := rfl
@[simp] theorem State.setPort_ref (s : State) (p : PortId) (x : Port) : (s.setPort p x).ref = s.ref := rfl
@[simp] theorem State.setPort_policy (s : State) (p : PortId) (x : Port) : (s.setPort p x).policy = s.policy := rfl
@[simp] theorem State.setPort_power (s : State) (p : PortId) (x : Port) : (s.setPort p x).power = s.power := rfl
@[simp] theorem State.setPort_bus (s : State) (p : PortId) (x : Port) : (s.setPort p x).bus = s.bus := rfl
@[simp] theorem State.setPort_serial (s : State) (p : PortId) (x : Port) : (s.setPort p x).serial = s.serial := rfl
@[simp] theorem State.setPort_compositions (s : State) (p : PortId) (x : Port) : (s.setPort p x).compositions = s.compositions := rfl

/-! `modPort` changes only ports. -/
@[simp] theorem State.modPort_pending (s : State) (p : PortId) (f : Port → Port) : (s.modPort p f).pending = s.pending := rfl
@[simp] theorem State.modPort_intake (s : State) (p : PortId) (f : Port → Port) : (s.modPort p f).intake = s.intake := rfl
@[simp] theorem State.modPort_causes (s : State) (p : PortId) (f : Port → Port) : (s.modPort p f).causes = s.causes := rfl
@[simp] theorem State.modPort_causeEnable (s : State) (p : PortId) (f : Port → Port) : (s.modPort p f).causeEnable = s.causeEnable := rfl
@[simp] theorem State.modPort_halted (s : State) (p : PortId) (f : Port → Port) : (s.modPort p f).halted = s.halted := rfl
@[simp] theorem State.modPort_jobs (s : State) (p : PortId) (f : Port → Port) : (s.modPort p f).jobs = s.jobs := rfl
@[simp] theorem State.modPort_frameRun (s : State) (p : PortId) (f : Port → Port) : (s.modPort p f).frameRun = s.frameRun := rfl
@[simp] theorem State.modPort_controlRun (s : State) (p : PortId) (f : Port → Port) : (s.modPort p f).controlRun = s.controlRun := rfl
@[simp] theorem State.modPort_composer (s : State) (p : PortId) (f : Port → Port) : (s.modPort p f).composer = s.composer := rfl
@[simp] theorem State.modPort_epochCounter (s : State) (p : PortId) (f : Port → Port) : (s.modPort p f).epochCounter = s.epochCounter := rfl
@[simp] theorem State.modPort_presented (s : State) (p : PortId) (f : Port → Port) : (s.modPort p f).presented = s.presented := rfl
@[simp] theorem State.modPort_tiles (s : State) (p : PortId) (f : Port → Port) : (s.modPort p f).tiles = s.tiles := rfl
@[simp] theorem State.modPort_ref (s : State) (p : PortId) (f : Port → Port) : (s.modPort p f).ref = s.ref := rfl
@[simp] theorem State.modPort_policy (s : State) (p : PortId) (f : Port → Port) : (s.modPort p f).policy = s.policy := rfl
@[simp] theorem State.modPort_power (s : State) (p : PortId) (f : Port → Port) : (s.modPort p f).power = s.power := rfl
@[simp] theorem State.modPort_bus (s : State) (p : PortId) (f : Port → Port) : (s.modPort p f).bus = s.bus := rfl
@[simp] theorem State.modPort_serial (s : State) (p : PortId) (f : Port → Port) : (s.modPort p f).serial = s.serial := rfl
@[simp] theorem State.modPort_compositions (s : State) (p : PortId) (f : Port → Port) : (s.modPort p f).compositions = s.compositions := rfl

/-! `setTile` changes only tiles. -/
@[simp] theorem State.setTile_pending (s : State) (t : TileId) (x : Tile) : (s.setTile t x).pending = s.pending := rfl
@[simp] theorem State.setTile_intake (s : State) (t : TileId) (x : Tile) : (s.setTile t x).intake = s.intake := rfl
@[simp] theorem State.setTile_causes (s : State) (t : TileId) (x : Tile) : (s.setTile t x).causes = s.causes := rfl
@[simp] theorem State.setTile_causeEnable (s : State) (t : TileId) (x : Tile) : (s.setTile t x).causeEnable = s.causeEnable := rfl
@[simp] theorem State.setTile_halted (s : State) (t : TileId) (x : Tile) : (s.setTile t x).halted = s.halted := rfl
@[simp] theorem State.setTile_jobs (s : State) (t : TileId) (x : Tile) : (s.setTile t x).jobs = s.jobs := rfl
@[simp] theorem State.setTile_frameRun (s : State) (t : TileId) (x : Tile) : (s.setTile t x).frameRun = s.frameRun := rfl
@[simp] theorem State.setTile_controlRun (s : State) (t : TileId) (x : Tile) : (s.setTile t x).controlRun = s.controlRun := rfl
@[simp] theorem State.setTile_composer (s : State) (t : TileId) (x : Tile) : (s.setTile t x).composer = s.composer := rfl
@[simp] theorem State.setTile_epochCounter (s : State) (t : TileId) (x : Tile) : (s.setTile t x).epochCounter = s.epochCounter := rfl
@[simp] theorem State.setTile_presented (s : State) (t : TileId) (x : Tile) : (s.setTile t x).presented = s.presented := rfl
@[simp] theorem State.setTile_ports (s : State) (t : TileId) (x : Tile) : (s.setTile t x).ports = s.ports := rfl
@[simp] theorem State.setTile_ref (s : State) (t : TileId) (x : Tile) : (s.setTile t x).ref = s.ref := rfl
@[simp] theorem State.setTile_policy (s : State) (t : TileId) (x : Tile) : (s.setTile t x).policy = s.policy := rfl
@[simp] theorem State.setTile_power (s : State) (t : TileId) (x : Tile) : (s.setTile t x).power = s.power := rfl
@[simp] theorem State.setTile_bus (s : State) (t : TileId) (x : Tile) : (s.setTile t x).bus = s.bus := rfl
@[simp] theorem State.setTile_serial (s : State) (t : TileId) (x : Tile) : (s.setTile t x).serial = s.serial := rfl
@[simp] theorem State.setTile_compositions (s : State) (t : TileId) (x : Tile) : (s.setTile t x).compositions = s.compositions := rfl

/-! `modTile` changes only tiles. -/
@[simp] theorem State.modTile_pending (s : State) (t : TileId) (f : Tile → Tile) : (s.modTile t f).pending = s.pending := rfl
@[simp] theorem State.modTile_intake (s : State) (t : TileId) (f : Tile → Tile) : (s.modTile t f).intake = s.intake := rfl
@[simp] theorem State.modTile_causes (s : State) (t : TileId) (f : Tile → Tile) : (s.modTile t f).causes = s.causes := rfl
@[simp] theorem State.modTile_causeEnable (s : State) (t : TileId) (f : Tile → Tile) : (s.modTile t f).causeEnable = s.causeEnable := rfl
@[simp] theorem State.modTile_halted (s : State) (t : TileId) (f : Tile → Tile) : (s.modTile t f).halted = s.halted := rfl
@[simp] theorem State.modTile_jobs (s : State) (t : TileId) (f : Tile → Tile) : (s.modTile t f).jobs = s.jobs := rfl
@[simp] theorem State.modTile_frameRun (s : State) (t : TileId) (f : Tile → Tile) : (s.modTile t f).frameRun = s.frameRun := rfl
@[simp] theorem State.modTile_controlRun (s : State) (t : TileId) (f : Tile → Tile) : (s.modTile t f).controlRun = s.controlRun := rfl
@[simp] theorem State.modTile_composer (s : State) (t : TileId) (f : Tile → Tile) : (s.modTile t f).composer = s.composer := rfl
@[simp] theorem State.modTile_epochCounter (s : State) (t : TileId) (f : Tile → Tile) : (s.modTile t f).epochCounter = s.epochCounter := rfl
@[simp] theorem State.modTile_presented (s : State) (t : TileId) (f : Tile → Tile) : (s.modTile t f).presented = s.presented := rfl
@[simp] theorem State.modTile_ports (s : State) (t : TileId) (f : Tile → Tile) : (s.modTile t f).ports = s.ports := rfl
@[simp] theorem State.modTile_ref (s : State) (t : TileId) (f : Tile → Tile) : (s.modTile t f).ref = s.ref := rfl
@[simp] theorem State.modTile_policy (s : State) (t : TileId) (f : Tile → Tile) : (s.modTile t f).policy = s.policy := rfl
@[simp] theorem State.modTile_power (s : State) (t : TileId) (f : Tile → Tile) : (s.modTile t f).power = s.power := rfl
@[simp] theorem State.modTile_bus (s : State) (t : TileId) (f : Tile → Tile) : (s.modTile t f).bus = s.bus := rfl
@[simp] theorem State.modTile_serial (s : State) (t : TileId) (f : Tile → Tile) : (s.modTile t f).serial = s.serial := rfl
@[simp] theorem State.modTile_compositions (s : State) (t : TileId) (f : Tile → Tile) : (s.modTile t f).compositions = s.compositions := rfl

/-! `modJob` changes only jobs. -/
@[simp] theorem State.modJob_pending (s : State) (a : Word) (f : Job → Job) : (s.modJob a f).pending = s.pending := rfl
@[simp] theorem State.modJob_intake (s : State) (a : Word) (f : Job → Job) : (s.modJob a f).intake = s.intake := rfl
@[simp] theorem State.modJob_causes (s : State) (a : Word) (f : Job → Job) : (s.modJob a f).causes = s.causes := rfl
@[simp] theorem State.modJob_causeEnable (s : State) (a : Word) (f : Job → Job) : (s.modJob a f).causeEnable = s.causeEnable := rfl
@[simp] theorem State.modJob_halted (s : State) (a : Word) (f : Job → Job) : (s.modJob a f).halted = s.halted := rfl
@[simp] theorem State.modJob_frameRun (s : State) (a : Word) (f : Job → Job) : (s.modJob a f).frameRun = s.frameRun := rfl
@[simp] theorem State.modJob_controlRun (s : State) (a : Word) (f : Job → Job) : (s.modJob a f).controlRun = s.controlRun := rfl
@[simp] theorem State.modJob_composer (s : State) (a : Word) (f : Job → Job) : (s.modJob a f).composer = s.composer := rfl
@[simp] theorem State.modJob_epochCounter (s : State) (a : Word) (f : Job → Job) : (s.modJob a f).epochCounter = s.epochCounter := rfl
@[simp] theorem State.modJob_presented (s : State) (a : Word) (f : Job → Job) : (s.modJob a f).presented = s.presented := rfl
@[simp] theorem State.modJob_tiles (s : State) (a : Word) (f : Job → Job) : (s.modJob a f).tiles = s.tiles := rfl
@[simp] theorem State.modJob_ports (s : State) (a : Word) (f : Job → Job) : (s.modJob a f).ports = s.ports := rfl
@[simp] theorem State.modJob_ref (s : State) (a : Word) (f : Job → Job) : (s.modJob a f).ref = s.ref := rfl
@[simp] theorem State.modJob_policy (s : State) (a : Word) (f : Job → Job) : (s.modJob a f).policy = s.policy := rfl
@[simp] theorem State.modJob_power (s : State) (a : Word) (f : Job → Job) : (s.modJob a f).power = s.power := rfl
@[simp] theorem State.modJob_bus (s : State) (a : Word) (f : Job → Job) : (s.modJob a f).bus = s.bus := rfl
@[simp] theorem State.modJob_serial (s : State) (a : Word) (f : Job → Job) : (s.modJob a f).serial = s.serial := rfl
@[simp] theorem State.modJob_compositions (s : State) (a : Word) (f : Job → Job) : (s.modJob a f).compositions = s.compositions := rfl

/-! `hand` changes only jobs. -/
@[simp] theorem State.hand_pending (s : State) (a : Word) (r : Result) : (s.hand a r).pending = s.pending := rfl
@[simp] theorem State.hand_intake (s : State) (a : Word) (r : Result) : (s.hand a r).intake = s.intake := rfl
@[simp] theorem State.hand_causes (s : State) (a : Word) (r : Result) : (s.hand a r).causes = s.causes := rfl
@[simp] theorem State.hand_causeEnable (s : State) (a : Word) (r : Result) : (s.hand a r).causeEnable = s.causeEnable := rfl
@[simp] theorem State.hand_halted (s : State) (a : Word) (r : Result) : (s.hand a r).halted = s.halted := rfl
@[simp] theorem State.hand_frameRun (s : State) (a : Word) (r : Result) : (s.hand a r).frameRun = s.frameRun := rfl
@[simp] theorem State.hand_controlRun (s : State) (a : Word) (r : Result) : (s.hand a r).controlRun = s.controlRun := rfl
@[simp] theorem State.hand_composer (s : State) (a : Word) (r : Result) : (s.hand a r).composer = s.composer := rfl
@[simp] theorem State.hand_epochCounter (s : State) (a : Word) (r : Result) : (s.hand a r).epochCounter = s.epochCounter := rfl
@[simp] theorem State.hand_presented (s : State) (a : Word) (r : Result) : (s.hand a r).presented = s.presented := rfl
@[simp] theorem State.hand_tiles (s : State) (a : Word) (r : Result) : (s.hand a r).tiles = s.tiles := rfl
@[simp] theorem State.hand_ports (s : State) (a : Word) (r : Result) : (s.hand a r).ports = s.ports := rfl
@[simp] theorem State.hand_ref (s : State) (a : Word) (r : Result) : (s.hand a r).ref = s.ref := rfl
@[simp] theorem State.hand_policy (s : State) (a : Word) (r : Result) : (s.hand a r).policy = s.policy := rfl
@[simp] theorem State.hand_power (s : State) (a : Word) (r : Result) : (s.hand a r).power = s.power := rfl
@[simp] theorem State.hand_bus (s : State) (a : Word) (r : Result) : (s.hand a r).bus = s.bus := rfl
@[simp] theorem State.hand_serial (s : State) (a : Word) (r : Result) : (s.hand a r).serial = s.serial := rfl
@[simp] theorem State.hand_compositions (s : State) (a : Word) (r : Result) : (s.hand a r).compositions = s.compositions := rfl

/-! `busWrite` changes only bus. -/
@[simp] theorem State.busWrite_pending (s : State) (a : Nat) (bs : List Byte) : (s.busWrite a bs).pending = s.pending := rfl
@[simp] theorem State.busWrite_intake (s : State) (a : Nat) (bs : List Byte) : (s.busWrite a bs).intake = s.intake := rfl
@[simp] theorem State.busWrite_causes (s : State) (a : Nat) (bs : List Byte) : (s.busWrite a bs).causes = s.causes := rfl
@[simp] theorem State.busWrite_causeEnable (s : State) (a : Nat) (bs : List Byte) : (s.busWrite a bs).causeEnable = s.causeEnable := rfl
@[simp] theorem State.busWrite_halted (s : State) (a : Nat) (bs : List Byte) : (s.busWrite a bs).halted = s.halted := rfl
@[simp] theorem State.busWrite_jobs (s : State) (a : Nat) (bs : List Byte) : (s.busWrite a bs).jobs = s.jobs := rfl
@[simp] theorem State.busWrite_frameRun (s : State) (a : Nat) (bs : List Byte) : (s.busWrite a bs).frameRun = s.frameRun := rfl
@[simp] theorem State.busWrite_controlRun (s : State) (a : Nat) (bs : List Byte) : (s.busWrite a bs).controlRun = s.controlRun := rfl
@[simp] theorem State.busWrite_composer (s : State) (a : Nat) (bs : List Byte) : (s.busWrite a bs).composer = s.composer := rfl
@[simp] theorem State.busWrite_epochCounter (s : State) (a : Nat) (bs : List Byte) : (s.busWrite a bs).epochCounter = s.epochCounter := rfl
@[simp] theorem State.busWrite_presented (s : State) (a : Nat) (bs : List Byte) : (s.busWrite a bs).presented = s.presented := rfl
@[simp] theorem State.busWrite_tiles (s : State) (a : Nat) (bs : List Byte) : (s.busWrite a bs).tiles = s.tiles := rfl
@[simp] theorem State.busWrite_ports (s : State) (a : Nat) (bs : List Byte) : (s.busWrite a bs).ports = s.ports := rfl
@[simp] theorem State.busWrite_ref (s : State) (a : Nat) (bs : List Byte) : (s.busWrite a bs).ref = s.ref := rfl
@[simp] theorem State.busWrite_policy (s : State) (a : Nat) (bs : List Byte) : (s.busWrite a bs).policy = s.policy := rfl
@[simp] theorem State.busWrite_power (s : State) (a : Nat) (bs : List Byte) : (s.busWrite a bs).power = s.power := rfl
@[simp] theorem State.busWrite_serial (s : State) (a : Nat) (bs : List Byte) : (s.busWrite a bs).serial = s.serial := rfl
@[simp] theorem State.busWrite_compositions (s : State) (a : Nat) (bs : List Byte) : (s.busWrite a bs).compositions = s.compositions := rfl

/-! `raiseJob` changes only causes. -/
@[simp] theorem State.raiseJob_pending (s : State) : (s.raiseJob).pending = s.pending := rfl
@[simp] theorem State.raiseJob_intake (s : State) : (s.raiseJob).intake = s.intake := rfl
@[simp] theorem State.raiseJob_causeEnable (s : State) : (s.raiseJob).causeEnable = s.causeEnable := rfl
@[simp] theorem State.raiseJob_halted (s : State) : (s.raiseJob).halted = s.halted := rfl
@[simp] theorem State.raiseJob_jobs (s : State) : (s.raiseJob).jobs = s.jobs := rfl
@[simp] theorem State.raiseJob_frameRun (s : State) : (s.raiseJob).frameRun = s.frameRun := rfl
@[simp] theorem State.raiseJob_controlRun (s : State) : (s.raiseJob).controlRun = s.controlRun := rfl
@[simp] theorem State.raiseJob_composer (s : State) : (s.raiseJob).composer = s.composer := rfl
@[simp] theorem State.raiseJob_epochCounter (s : State) : (s.raiseJob).epochCounter = s.epochCounter := rfl
@[simp] theorem State.raiseJob_presented (s : State) : (s.raiseJob).presented = s.presented := rfl
@[simp] theorem State.raiseJob_tiles (s : State) : (s.raiseJob).tiles = s.tiles := rfl
@[simp] theorem State.raiseJob_ports (s : State) : (s.raiseJob).ports = s.ports := rfl
@[simp] theorem State.raiseJob_ref (s : State) : (s.raiseJob).ref = s.ref := rfl
@[simp] theorem State.raiseJob_policy (s : State) : (s.raiseJob).policy = s.policy := rfl
@[simp] theorem State.raiseJob_power (s : State) : (s.raiseJob).power = s.power := rfl
@[simp] theorem State.raiseJob_bus (s : State) : (s.raiseJob).bus = s.bus := rfl
@[simp] theorem State.raiseJob_serial (s : State) : (s.raiseJob).serial = s.serial := rfl
@[simp] theorem State.raiseJob_compositions (s : State) : (s.raiseJob).compositions = s.compositions := rfl

/-! `raiseTile` changes only causes. -/
@[simp] theorem State.raiseTile_pending (s : State) : (s.raiseTile).pending = s.pending := rfl
@[simp] theorem State.raiseTile_intake (s : State) : (s.raiseTile).intake = s.intake := rfl
@[simp] theorem State.raiseTile_causeEnable (s : State) : (s.raiseTile).causeEnable = s.causeEnable := rfl
@[simp] theorem State.raiseTile_halted (s : State) : (s.raiseTile).halted = s.halted := rfl
@[simp] theorem State.raiseTile_jobs (s : State) : (s.raiseTile).jobs = s.jobs := rfl
@[simp] theorem State.raiseTile_frameRun (s : State) : (s.raiseTile).frameRun = s.frameRun := rfl
@[simp] theorem State.raiseTile_controlRun (s : State) : (s.raiseTile).controlRun = s.controlRun := rfl
@[simp] theorem State.raiseTile_composer (s : State) : (s.raiseTile).composer = s.composer := rfl
@[simp] theorem State.raiseTile_epochCounter (s : State) : (s.raiseTile).epochCounter = s.epochCounter := rfl
@[simp] theorem State.raiseTile_presented (s : State) : (s.raiseTile).presented = s.presented := rfl
@[simp] theorem State.raiseTile_tiles (s : State) : (s.raiseTile).tiles = s.tiles := rfl
@[simp] theorem State.raiseTile_ports (s : State) : (s.raiseTile).ports = s.ports := rfl
@[simp] theorem State.raiseTile_ref (s : State) : (s.raiseTile).ref = s.ref := rfl
@[simp] theorem State.raiseTile_policy (s : State) : (s.raiseTile).policy = s.policy := rfl
@[simp] theorem State.raiseTile_power (s : State) : (s.raiseTile).power = s.power := rfl
@[simp] theorem State.raiseTile_bus (s : State) : (s.raiseTile).bus = s.bus := rfl
@[simp] theorem State.raiseTile_serial (s : State) : (s.raiseTile).serial = s.serial := rfl
@[simp] theorem State.raiseTile_compositions (s : State) : (s.raiseTile).compositions = s.compositions := rfl

/-! `raiseReference` changes only causes. -/
@[simp] theorem State.raiseReference_pending (s : State) : (s.raiseReference).pending = s.pending := rfl
@[simp] theorem State.raiseReference_intake (s : State) : (s.raiseReference).intake = s.intake := rfl
@[simp] theorem State.raiseReference_causeEnable (s : State) : (s.raiseReference).causeEnable = s.causeEnable := rfl
@[simp] theorem State.raiseReference_halted (s : State) : (s.raiseReference).halted = s.halted := rfl
@[simp] theorem State.raiseReference_jobs (s : State) : (s.raiseReference).jobs = s.jobs := rfl
@[simp] theorem State.raiseReference_frameRun (s : State) : (s.raiseReference).frameRun = s.frameRun := rfl
@[simp] theorem State.raiseReference_controlRun (s : State) : (s.raiseReference).controlRun = s.controlRun := rfl
@[simp] theorem State.raiseReference_composer (s : State) : (s.raiseReference).composer = s.composer := rfl
@[simp] theorem State.raiseReference_epochCounter (s : State) : (s.raiseReference).epochCounter = s.epochCounter := rfl
@[simp] theorem State.raiseReference_presented (s : State) : (s.raiseReference).presented = s.presented := rfl
@[simp] theorem State.raiseReference_tiles (s : State) : (s.raiseReference).tiles = s.tiles := rfl
@[simp] theorem State.raiseReference_ports (s : State) : (s.raiseReference).ports = s.ports := rfl
@[simp] theorem State.raiseReference_ref (s : State) : (s.raiseReference).ref = s.ref := rfl
@[simp] theorem State.raiseReference_policy (s : State) : (s.raiseReference).policy = s.policy := rfl
@[simp] theorem State.raiseReference_power (s : State) : (s.raiseReference).power = s.power := rfl
@[simp] theorem State.raiseReference_bus (s : State) : (s.raiseReference).bus = s.bus := rfl
@[simp] theorem State.raiseReference_serial (s : State) : (s.raiseReference).serial = s.serial := rfl
@[simp] theorem State.raiseReference_compositions (s : State) : (s.raiseReference).compositions = s.compositions := rfl

/-! `raiseChain` changes only causes. -/
@[simp] theorem State.raiseChain_pending (s : State) : (s.raiseChain).pending = s.pending := rfl
@[simp] theorem State.raiseChain_intake (s : State) : (s.raiseChain).intake = s.intake := rfl
@[simp] theorem State.raiseChain_causeEnable (s : State) : (s.raiseChain).causeEnable = s.causeEnable := rfl
@[simp] theorem State.raiseChain_halted (s : State) : (s.raiseChain).halted = s.halted := rfl
@[simp] theorem State.raiseChain_jobs (s : State) : (s.raiseChain).jobs = s.jobs := rfl
@[simp] theorem State.raiseChain_frameRun (s : State) : (s.raiseChain).frameRun = s.frameRun := rfl
@[simp] theorem State.raiseChain_controlRun (s : State) : (s.raiseChain).controlRun = s.controlRun := rfl
@[simp] theorem State.raiseChain_composer (s : State) : (s.raiseChain).composer = s.composer := rfl
@[simp] theorem State.raiseChain_epochCounter (s : State) : (s.raiseChain).epochCounter = s.epochCounter := rfl
@[simp] theorem State.raiseChain_presented (s : State) : (s.raiseChain).presented = s.presented := rfl
@[simp] theorem State.raiseChain_tiles (s : State) : (s.raiseChain).tiles = s.tiles := rfl
@[simp] theorem State.raiseChain_ports (s : State) : (s.raiseChain).ports = s.ports := rfl
@[simp] theorem State.raiseChain_ref (s : State) : (s.raiseChain).ref = s.ref := rfl
@[simp] theorem State.raiseChain_policy (s : State) : (s.raiseChain).policy = s.policy := rfl
@[simp] theorem State.raiseChain_power (s : State) : (s.raiseChain).power = s.power := rfl
@[simp] theorem State.raiseChain_bus (s : State) : (s.raiseChain).bus = s.bus := rfl
@[simp] theorem State.raiseChain_serial (s : State) : (s.raiseChain).serial = s.serial := rfl
@[simp] theorem State.raiseChain_compositions (s : State) : (s.raiseChain).compositions = s.compositions := rfl

/-! `raiseHalt` changes only causes. -/
@[simp] theorem State.raiseHalt_pending (s : State) : (s.raiseHalt).pending = s.pending := rfl
@[simp] theorem State.raiseHalt_intake (s : State) : (s.raiseHalt).intake = s.intake := rfl
@[simp] theorem State.raiseHalt_causeEnable (s : State) : (s.raiseHalt).causeEnable = s.causeEnable := rfl
@[simp] theorem State.raiseHalt_halted (s : State) : (s.raiseHalt).halted = s.halted := rfl
@[simp] theorem State.raiseHalt_jobs (s : State) : (s.raiseHalt).jobs = s.jobs := rfl
@[simp] theorem State.raiseHalt_frameRun (s : State) : (s.raiseHalt).frameRun = s.frameRun := rfl
@[simp] theorem State.raiseHalt_controlRun (s : State) : (s.raiseHalt).controlRun = s.controlRun := rfl
@[simp] theorem State.raiseHalt_composer (s : State) : (s.raiseHalt).composer = s.composer := rfl
@[simp] theorem State.raiseHalt_epochCounter (s : State) : (s.raiseHalt).epochCounter = s.epochCounter := rfl
@[simp] theorem State.raiseHalt_presented (s : State) : (s.raiseHalt).presented = s.presented := rfl
@[simp] theorem State.raiseHalt_tiles (s : State) : (s.raiseHalt).tiles = s.tiles := rfl
@[simp] theorem State.raiseHalt_ports (s : State) : (s.raiseHalt).ports = s.ports := rfl
@[simp] theorem State.raiseHalt_ref (s : State) : (s.raiseHalt).ref = s.ref := rfl
@[simp] theorem State.raiseHalt_policy (s : State) : (s.raiseHalt).policy = s.policy := rfl
@[simp] theorem State.raiseHalt_power (s : State) : (s.raiseHalt).power = s.power := rfl
@[simp] theorem State.raiseHalt_bus (s : State) : (s.raiseHalt).bus = s.bus := rfl
@[simp] theorem State.raiseHalt_serial (s : State) : (s.raiseHalt).serial = s.serial := rfl
@[simp] theorem State.raiseHalt_compositions (s : State) : (s.raiseHalt).compositions = s.compositions := rfl

/-! `setAnchor` changes only intake. -/
@[simp] theorem State.setAnchor_pending (s : State) (a : Word) : (s.setAnchor a).pending = s.pending := rfl
@[simp] theorem State.setAnchor_causes (s : State) (a : Word) : (s.setAnchor a).causes = s.causes := rfl
@[simp] theorem State.setAnchor_causeEnable (s : State) (a : Word) : (s.setAnchor a).causeEnable = s.causeEnable := rfl
@[simp] theorem State.setAnchor_halted (s : State) (a : Word) : (s.setAnchor a).halted = s.halted := rfl
@[simp] theorem State.setAnchor_jobs (s : State) (a : Word) : (s.setAnchor a).jobs = s.jobs := rfl
@[simp] theorem State.setAnchor_frameRun (s : State) (a : Word) : (s.setAnchor a).frameRun = s.frameRun := rfl
@[simp] theorem State.setAnchor_controlRun (s : State) (a : Word) : (s.setAnchor a).controlRun = s.controlRun := rfl
@[simp] theorem State.setAnchor_composer (s : State) (a : Word) : (s.setAnchor a).composer = s.composer := rfl
@[simp] theorem State.setAnchor_epochCounter (s : State) (a : Word) : (s.setAnchor a).epochCounter = s.epochCounter := rfl
@[simp] theorem State.setAnchor_presented (s : State) (a : Word) : (s.setAnchor a).presented = s.presented := rfl
@[simp] theorem State.setAnchor_tiles (s : State) (a : Word) : (s.setAnchor a).tiles = s.tiles := rfl
@[simp] theorem State.setAnchor_ports (s : State) (a : Word) : (s.setAnchor a).ports = s.ports := rfl
@[simp] theorem State.setAnchor_ref (s : State) (a : Word) : (s.setAnchor a).ref = s.ref := rfl
@[simp] theorem State.setAnchor_policy (s : State) (a : Word) : (s.setAnchor a).policy = s.policy := rfl
@[simp] theorem State.setAnchor_power (s : State) (a : Word) : (s.setAnchor a).power = s.power := rfl
@[simp] theorem State.setAnchor_bus (s : State) (a : Word) : (s.setAnchor a).bus = s.bus := rfl
@[simp] theorem State.setAnchor_serial (s : State) (a : Word) : (s.setAnchor a).serial = s.serial := rfl
@[simp] theorem State.setAnchor_compositions (s : State) (a : Word) : (s.setAnchor a).compositions = s.compositions := rfl

/-! `storeExternal` changes only intake. -/
@[simp] theorem State.storeExternal_pending (s : State) (b : Bool) : (s.storeExternal b).pending = s.pending := rfl
@[simp] theorem State.storeExternal_causes (s : State) (b : Bool) : (s.storeExternal b).causes = s.causes := rfl
@[simp] theorem State.storeExternal_causeEnable (s : State) (b : Bool) : (s.storeExternal b).causeEnable = s.causeEnable := rfl
@[simp] theorem State.storeExternal_halted (s : State) (b : Bool) : (s.storeExternal b).halted = s.halted := rfl
@[simp] theorem State.storeExternal_jobs (s : State) (b : Bool) : (s.storeExternal b).jobs = s.jobs := rfl
@[simp] theorem State.storeExternal_frameRun (s : State) (b : Bool) : (s.storeExternal b).frameRun = s.frameRun := rfl
@[simp] theorem State.storeExternal_controlRun (s : State) (b : Bool) : (s.storeExternal b).controlRun = s.controlRun := rfl
@[simp] theorem State.storeExternal_composer (s : State) (b : Bool) : (s.storeExternal b).composer = s.composer := rfl
@[simp] theorem State.storeExternal_epochCounter (s : State) (b : Bool) : (s.storeExternal b).epochCounter = s.epochCounter := rfl
@[simp] theorem State.storeExternal_presented (s : State) (b : Bool) : (s.storeExternal b).presented = s.presented := rfl
@[simp] theorem State.storeExternal_tiles (s : State) (b : Bool) : (s.storeExternal b).tiles = s.tiles := rfl
@[simp] theorem State.storeExternal_ports (s : State) (b : Bool) : (s.storeExternal b).ports = s.ports := rfl
@[simp] theorem State.storeExternal_ref (s : State) (b : Bool) : (s.storeExternal b).ref = s.ref := rfl
@[simp] theorem State.storeExternal_policy (s : State) (b : Bool) : (s.storeExternal b).policy = s.policy := rfl
@[simp] theorem State.storeExternal_power (s : State) (b : Bool) : (s.storeExternal b).power = s.power := rfl
@[simp] theorem State.storeExternal_bus (s : State) (b : Bool) : (s.storeExternal b).bus = s.bus := rfl
@[simp] theorem State.storeExternal_serial (s : State) (b : Bool) : (s.storeExternal b).serial = s.serial := rfl
@[simp] theorem State.storeExternal_compositions (s : State) (b : Bool) : (s.storeExternal b).compositions = s.compositions := rfl

/-! `intakeOff` changes only intake. -/
@[simp] theorem State.intakeOff_pending (s : State) : (s.intakeOff).pending = s.pending := rfl
@[simp] theorem State.intakeOff_causes (s : State) : (s.intakeOff).causes = s.causes := rfl
@[simp] theorem State.intakeOff_causeEnable (s : State) : (s.intakeOff).causeEnable = s.causeEnable := rfl
@[simp] theorem State.intakeOff_halted (s : State) : (s.intakeOff).halted = s.halted := rfl
@[simp] theorem State.intakeOff_jobs (s : State) : (s.intakeOff).jobs = s.jobs := rfl
@[simp] theorem State.intakeOff_frameRun (s : State) : (s.intakeOff).frameRun = s.frameRun := rfl
@[simp] theorem State.intakeOff_controlRun (s : State) : (s.intakeOff).controlRun = s.controlRun := rfl
@[simp] theorem State.intakeOff_composer (s : State) : (s.intakeOff).composer = s.composer := rfl
@[simp] theorem State.intakeOff_epochCounter (s : State) : (s.intakeOff).epochCounter = s.epochCounter := rfl
@[simp] theorem State.intakeOff_presented (s : State) : (s.intakeOff).presented = s.presented := rfl
@[simp] theorem State.intakeOff_tiles (s : State) : (s.intakeOff).tiles = s.tiles := rfl
@[simp] theorem State.intakeOff_ports (s : State) : (s.intakeOff).ports = s.ports := rfl
@[simp] theorem State.intakeOff_ref (s : State) : (s.intakeOff).ref = s.ref := rfl
@[simp] theorem State.intakeOff_policy (s : State) : (s.intakeOff).policy = s.policy := rfl
@[simp] theorem State.intakeOff_power (s : State) : (s.intakeOff).power = s.power := rfl
@[simp] theorem State.intakeOff_bus (s : State) : (s.intakeOff).bus = s.bus := rfl
@[simp] theorem State.intakeOff_serial (s : State) : (s.intakeOff).serial = s.serial := rfl
@[simp] theorem State.intakeOff_compositions (s : State) : (s.intakeOff).compositions = s.compositions := rfl

/-! `intakeIdle` changes only intake. -/
@[simp] theorem State.intakeIdle_pending (s : State) : (s.intakeIdle).pending = s.pending := rfl
@[simp] theorem State.intakeIdle_causes (s : State) : (s.intakeIdle).causes = s.causes := rfl
@[simp] theorem State.intakeIdle_causeEnable (s : State) : (s.intakeIdle).causeEnable = s.causeEnable := rfl
@[simp] theorem State.intakeIdle_halted (s : State) : (s.intakeIdle).halted = s.halted := rfl
@[simp] theorem State.intakeIdle_jobs (s : State) : (s.intakeIdle).jobs = s.jobs := rfl
@[simp] theorem State.intakeIdle_frameRun (s : State) : (s.intakeIdle).frameRun = s.frameRun := rfl
@[simp] theorem State.intakeIdle_controlRun (s : State) : (s.intakeIdle).controlRun = s.controlRun := rfl
@[simp] theorem State.intakeIdle_composer (s : State) : (s.intakeIdle).composer = s.composer := rfl
@[simp] theorem State.intakeIdle_epochCounter (s : State) : (s.intakeIdle).epochCounter = s.epochCounter := rfl
@[simp] theorem State.intakeIdle_presented (s : State) : (s.intakeIdle).presented = s.presented := rfl
@[simp] theorem State.intakeIdle_tiles (s : State) : (s.intakeIdle).tiles = s.tiles := rfl
@[simp] theorem State.intakeIdle_ports (s : State) : (s.intakeIdle).ports = s.ports := rfl
@[simp] theorem State.intakeIdle_ref (s : State) : (s.intakeIdle).ref = s.ref := rfl
@[simp] theorem State.intakeIdle_policy (s : State) : (s.intakeIdle).policy = s.policy := rfl
@[simp] theorem State.intakeIdle_power (s : State) : (s.intakeIdle).power = s.power := rfl
@[simp] theorem State.intakeIdle_bus (s : State) : (s.intakeIdle).bus = s.bus := rfl
@[simp] theorem State.intakeIdle_serial (s : State) : (s.intakeIdle).serial = s.serial := rfl
@[simp] theorem State.intakeIdle_compositions (s : State) : (s.intakeIdle).compositions = s.compositions := rfl

/-! `writeCauseEnable` changes only causeEnable. -/
@[simp] theorem State.writeCauseEnable_pending (s : State) (w : Word) : (s.writeCauseEnable w).pending = s.pending := rfl
@[simp] theorem State.writeCauseEnable_intake (s : State) (w : Word) : (s.writeCauseEnable w).intake = s.intake := rfl
@[simp] theorem State.writeCauseEnable_causes (s : State) (w : Word) : (s.writeCauseEnable w).causes = s.causes := rfl
@[simp] theorem State.writeCauseEnable_halted (s : State) (w : Word) : (s.writeCauseEnable w).halted = s.halted := rfl
@[simp] theorem State.writeCauseEnable_jobs (s : State) (w : Word) : (s.writeCauseEnable w).jobs = s.jobs := rfl
@[simp] theorem State.writeCauseEnable_frameRun (s : State) (w : Word) : (s.writeCauseEnable w).frameRun = s.frameRun := rfl
@[simp] theorem State.writeCauseEnable_controlRun (s : State) (w : Word) : (s.writeCauseEnable w).controlRun = s.controlRun := rfl
@[simp] theorem State.writeCauseEnable_composer (s : State) (w : Word) : (s.writeCauseEnable w).composer = s.composer := rfl
@[simp] theorem State.writeCauseEnable_epochCounter (s : State) (w : Word) : (s.writeCauseEnable w).epochCounter = s.epochCounter := rfl
@[simp] theorem State.writeCauseEnable_presented (s : State) (w : Word) : (s.writeCauseEnable w).presented = s.presented := rfl
@[simp] theorem State.writeCauseEnable_tiles (s : State) (w : Word) : (s.writeCauseEnable w).tiles = s.tiles := rfl
@[simp] theorem State.writeCauseEnable_ports (s : State) (w : Word) : (s.writeCauseEnable w).ports = s.ports := rfl
@[simp] theorem State.writeCauseEnable_ref (s : State) (w : Word) : (s.writeCauseEnable w).ref = s.ref := rfl
@[simp] theorem State.writeCauseEnable_policy (s : State) (w : Word) : (s.writeCauseEnable w).policy = s.policy := rfl
@[simp] theorem State.writeCauseEnable_power (s : State) (w : Word) : (s.writeCauseEnable w).power = s.power := rfl
@[simp] theorem State.writeCauseEnable_bus (s : State) (w : Word) : (s.writeCauseEnable w).bus = s.bus := rfl
@[simp] theorem State.writeCauseEnable_serial (s : State) (w : Word) : (s.writeCauseEnable w).serial = s.serial := rfl
@[simp] theorem State.writeCauseEnable_compositions (s : State) (w : Word) : (s.writeCauseEnable w).compositions = s.compositions := rfl

/-! `readCause` changes only causes, bus. -/
@[simp] theorem State.readCause_pending (s : State) : (s.readCause).pending = s.pending := rfl
@[simp] theorem State.readCause_intake (s : State) : (s.readCause).intake = s.intake := rfl
@[simp] theorem State.readCause_causeEnable (s : State) : (s.readCause).causeEnable = s.causeEnable := rfl
@[simp] theorem State.readCause_halted (s : State) : (s.readCause).halted = s.halted := rfl
@[simp] theorem State.readCause_jobs (s : State) : (s.readCause).jobs = s.jobs := rfl
@[simp] theorem State.readCause_frameRun (s : State) : (s.readCause).frameRun = s.frameRun := rfl
@[simp] theorem State.readCause_controlRun (s : State) : (s.readCause).controlRun = s.controlRun := rfl
@[simp] theorem State.readCause_composer (s : State) : (s.readCause).composer = s.composer := rfl
@[simp] theorem State.readCause_epochCounter (s : State) : (s.readCause).epochCounter = s.epochCounter := rfl
@[simp] theorem State.readCause_presented (s : State) : (s.readCause).presented = s.presented := rfl
@[simp] theorem State.readCause_tiles (s : State) : (s.readCause).tiles = s.tiles := rfl
@[simp] theorem State.readCause_ports (s : State) : (s.readCause).ports = s.ports := rfl
@[simp] theorem State.readCause_ref (s : State) : (s.readCause).ref = s.ref := rfl
@[simp] theorem State.readCause_policy (s : State) : (s.readCause).policy = s.policy := rfl
@[simp] theorem State.readCause_power (s : State) : (s.readCause).power = s.power := rfl
@[simp] theorem State.readCause_serial (s : State) : (s.readCause).serial = s.serial := rfl
@[simp] theorem State.readCause_compositions (s : State) : (s.readCause).compositions = s.compositions := rfl

/-! `enterInternal` changes only ref. -/
@[simp] theorem State.enterInternal_pending (s : State) : (s.enterInternal).pending = s.pending := rfl
@[simp] theorem State.enterInternal_intake (s : State) : (s.enterInternal).intake = s.intake := rfl
@[simp] theorem State.enterInternal_causes (s : State) : (s.enterInternal).causes = s.causes := rfl
@[simp] theorem State.enterInternal_causeEnable (s : State) : (s.enterInternal).causeEnable = s.causeEnable := rfl
@[simp] theorem State.enterInternal_halted (s : State) : (s.enterInternal).halted = s.halted := rfl
@[simp] theorem State.enterInternal_jobs (s : State) : (s.enterInternal).jobs = s.jobs := rfl
@[simp] theorem State.enterInternal_frameRun (s : State) : (s.enterInternal).frameRun = s.frameRun := rfl
@[simp] theorem State.enterInternal_controlRun (s : State) : (s.enterInternal).controlRun = s.controlRun := rfl
@[simp] theorem State.enterInternal_composer (s : State) : (s.enterInternal).composer = s.composer := rfl
@[simp] theorem State.enterInternal_epochCounter (s : State) : (s.enterInternal).epochCounter = s.epochCounter := rfl
@[simp] theorem State.enterInternal_presented (s : State) : (s.enterInternal).presented = s.presented := rfl
@[simp] theorem State.enterInternal_tiles (s : State) : (s.enterInternal).tiles = s.tiles := rfl
@[simp] theorem State.enterInternal_ports (s : State) : (s.enterInternal).ports = s.ports := rfl
@[simp] theorem State.enterInternal_policy (s : State) : (s.enterInternal).policy = s.policy := rfl
@[simp] theorem State.enterInternal_power (s : State) : (s.enterInternal).power = s.power := rfl
@[simp] theorem State.enterInternal_bus (s : State) : (s.enterInternal).bus = s.bus := rfl
@[simp] theorem State.enterInternal_serial (s : State) : (s.enterInternal).serial = s.serial := rfl
@[simp] theorem State.enterInternal_compositions (s : State) : (s.enterInternal).compositions = s.compositions := rfl

/-! `beginExternal` changes only ref. -/
@[simp] theorem State.beginExternal_pending (s : State) (j : Option Word) : (s.beginExternal j).pending = s.pending := rfl
@[simp] theorem State.beginExternal_intake (s : State) (j : Option Word) : (s.beginExternal j).intake = s.intake := rfl
@[simp] theorem State.beginExternal_causes (s : State) (j : Option Word) : (s.beginExternal j).causes = s.causes := rfl
@[simp] theorem State.beginExternal_causeEnable (s : State) (j : Option Word) : (s.beginExternal j).causeEnable = s.causeEnable := rfl
@[simp] theorem State.beginExternal_halted (s : State) (j : Option Word) : (s.beginExternal j).halted = s.halted := rfl
@[simp] theorem State.beginExternal_jobs (s : State) (j : Option Word) : (s.beginExternal j).jobs = s.jobs := rfl
@[simp] theorem State.beginExternal_frameRun (s : State) (j : Option Word) : (s.beginExternal j).frameRun = s.frameRun := rfl
@[simp] theorem State.beginExternal_controlRun (s : State) (j : Option Word) : (s.beginExternal j).controlRun = s.controlRun := rfl
@[simp] theorem State.beginExternal_composer (s : State) (j : Option Word) : (s.beginExternal j).composer = s.composer := rfl
@[simp] theorem State.beginExternal_epochCounter (s : State) (j : Option Word) : (s.beginExternal j).epochCounter = s.epochCounter := rfl
@[simp] theorem State.beginExternal_presented (s : State) (j : Option Word) : (s.beginExternal j).presented = s.presented := rfl
@[simp] theorem State.beginExternal_tiles (s : State) (j : Option Word) : (s.beginExternal j).tiles = s.tiles := rfl
@[simp] theorem State.beginExternal_ports (s : State) (j : Option Word) : (s.beginExternal j).ports = s.ports := rfl
@[simp] theorem State.beginExternal_policy (s : State) (j : Option Word) : (s.beginExternal j).policy = s.policy := rfl
@[simp] theorem State.beginExternal_power (s : State) (j : Option Word) : (s.beginExternal j).power = s.power := rfl
@[simp] theorem State.beginExternal_bus (s : State) (j : Option Word) : (s.beginExternal j).bus = s.bus := rfl
@[simp] theorem State.beginExternal_serial (s : State) (j : Option Word) : (s.beginExternal j).serial = s.serial := rfl
@[simp] theorem State.beginExternal_compositions (s : State) (j : Option Word) : (s.beginExternal j).compositions = s.compositions := rfl

/-! `beginSettle` changes only power. -/
@[simp] theorem State.beginSettle_pending (s : State) (t : PowerState) : (s.beginSettle t).pending = s.pending := rfl
@[simp] theorem State.beginSettle_intake (s : State) (t : PowerState) : (s.beginSettle t).intake = s.intake := rfl
@[simp] theorem State.beginSettle_causes (s : State) (t : PowerState) : (s.beginSettle t).causes = s.causes := rfl
@[simp] theorem State.beginSettle_causeEnable (s : State) (t : PowerState) : (s.beginSettle t).causeEnable = s.causeEnable := rfl
@[simp] theorem State.beginSettle_halted (s : State) (t : PowerState) : (s.beginSettle t).halted = s.halted := rfl
@[simp] theorem State.beginSettle_jobs (s : State) (t : PowerState) : (s.beginSettle t).jobs = s.jobs := rfl
@[simp] theorem State.beginSettle_frameRun (s : State) (t : PowerState) : (s.beginSettle t).frameRun = s.frameRun := rfl
@[simp] theorem State.beginSettle_controlRun (s : State) (t : PowerState) : (s.beginSettle t).controlRun = s.controlRun := rfl
@[simp] theorem State.beginSettle_composer (s : State) (t : PowerState) : (s.beginSettle t).composer = s.composer := rfl
@[simp] theorem State.beginSettle_epochCounter (s : State) (t : PowerState) : (s.beginSettle t).epochCounter = s.epochCounter := rfl
@[simp] theorem State.beginSettle_presented (s : State) (t : PowerState) : (s.beginSettle t).presented = s.presented := rfl
@[simp] theorem State.beginSettle_tiles (s : State) (t : PowerState) : (s.beginSettle t).tiles = s.tiles := rfl
@[simp] theorem State.beginSettle_ports (s : State) (t : PowerState) : (s.beginSettle t).ports = s.ports := rfl
@[simp] theorem State.beginSettle_ref (s : State) (t : PowerState) : (s.beginSettle t).ref = s.ref := rfl
@[simp] theorem State.beginSettle_policy (s : State) (t : PowerState) : (s.beginSettle t).policy = s.policy := rfl
@[simp] theorem State.beginSettle_bus (s : State) (t : PowerState) : (s.beginSettle t).bus = s.bus := rfl
@[simp] theorem State.beginSettle_serial (s : State) (t : PowerState) : (s.beginSettle t).serial = s.serial := rfl
@[simp] theorem State.beginSettle_compositions (s : State) (t : PowerState) : (s.beginSettle t).compositions = s.compositions := rfl

/-! `tick` changes only intake, ports, ref, power. -/
@[simp] theorem State.tick_pending (s : State) : (s.tick).pending = s.pending := rfl
@[simp] theorem State.tick_causes (s : State) : (s.tick).causes = s.causes := rfl
@[simp] theorem State.tick_causeEnable (s : State) : (s.tick).causeEnable = s.causeEnable := rfl
@[simp] theorem State.tick_halted (s : State) : (s.tick).halted = s.halted := rfl
@[simp] theorem State.tick_jobs (s : State) : (s.tick).jobs = s.jobs := rfl
@[simp] theorem State.tick_frameRun (s : State) : (s.tick).frameRun = s.frameRun := rfl
@[simp] theorem State.tick_controlRun (s : State) : (s.tick).controlRun = s.controlRun := rfl
@[simp] theorem State.tick_composer (s : State) : (s.tick).composer = s.composer := rfl
@[simp] theorem State.tick_epochCounter (s : State) : (s.tick).epochCounter = s.epochCounter := rfl
@[simp] theorem State.tick_presented (s : State) : (s.tick).presented = s.presented := rfl
@[simp] theorem State.tick_tiles (s : State) : (s.tick).tiles = s.tiles := rfl
@[simp] theorem State.tick_policy (s : State) : (s.tick).policy = s.policy := rfl
@[simp] theorem State.tick_bus (s : State) : (s.tick).bus = s.bus := rfl
@[simp] theorem State.tick_serial (s : State) : (s.tick).serial = s.serial := rfl
@[simp] theorem State.tick_compositions (s : State) : (s.tick).compositions = s.compositions := rfl

end Sys2Proof.Machine
end

