-- ==== Sys2Proof/Laws/Frame.lean ====
section
/-! SUPPORT. Reading after writing a port or a tile; loops over the ids; and what `settle` and every operation under it leave
alone: intake registers, CAUSE_ENABLE, policy, Frame Reference, bus log, epoch counter and the listed blocks. -/
namespace Sys2Proof.Machine

/-! ## Ports and tiles -/

@[simp] theorem State.port_setPort_self (s : State) (p : PortId) (x : Port) : (s.setPort p x).port p = x := by
  simp [State.port, State.setPort]

theorem State.port_setPort_ne (s : State) {p q : PortId} (h : p ≠ q) (x : Port) : (s.setPort p x).port q = s.port q := by
  have : p.val ≠ q.val := fun e => h (Fin.ext e)
  simp [State.port, State.setPort, Vector.getElem_set_ne, this]

@[simp] theorem State.port_modPort_self (s : State) (p : PortId) (f : Port → Port) : (s.modPort p f).port p = f (s.port p) := by
  simp [State.modPort]

theorem State.port_modPort_ne (s : State) {p q : PortId} (h : p ≠ q) (f : Port → Port) :
    (s.modPort p f).port q = s.port q := by
  simp [State.modPort, State.port_setPort_ne s h]

theorem State.port_modPort (s : State) (p q : PortId) (f : Port → Port) :
    (s.modPort p f).port q = if p = q then f (s.port q) else s.port q := by
  by_cases h : p = q
  · subst h; simp
  · simp [h, State.port_modPort_ne s h]

@[simp] theorem State.tile_setTile_self (s : State) (t : TileId) (x : Tile) : (s.setTile t x).tile t = x := by
  simp [State.tile, State.setTile]

theorem State.tile_setTile_ne (s : State) {t u : TileId} (h : t ≠ u) (x : Tile) : (s.setTile t x).tile u = s.tile u := by
  have : t.val ≠ u.val := fun e => h (Fin.ext e)
  simp [State.tile, State.setTile, Vector.getElem_set_ne, this]

theorem State.tile_modTile (s : State) (t u : TileId) (f : Tile → Tile) :
    (s.modTile t f).tile u = if t = u then f (s.tile u) else s.tile u := by
  by_cases h : t = u
  · subst h; simp [State.modTile]
  · simp [State.modTile, h, State.tile_setTile_ne s h]

@[simp] theorem State.port_modTile (s : State) (t : TileId) (f : Tile → Tile) (p : PortId) :
    (s.modTile t f).port p = s.port p := rfl

@[simp] theorem State.tile_modPort (s : State) (p : PortId) (f : Port → Port) (t : TileId) :
    (s.modPort p f).tile t = s.tile t := rfl

/-! ## Loops -/

/-- A projection that every round keeps is kept by the loop. -/
theorem State.forEach_keeps {α : Type} (g : State → α) (f : Fin 12 → State → State) (h : ∀ i s, g (f i s) = g s)
    (ids : List (Fin 12)) (s : State) : g (s.forEach ids f) = g s := by
  unfold State.forEach
  induction ids generalizing s with
  | nil => rfl
  | cons i is ih => simp only [List.foldl_cons]; rw [ih, h]

/-- The same for a loop over any list. -/
theorem foldl_keeps {α β : Type} (g : State → α) (f : State → β → State) (h : ∀ s b, g (f s b) = g s)
    (bs : List β) (s : State) : g (bs.foldl f s) = g s := by
  induction bs generalizing s with
  | nil => rfl
  | cons b bs ih => simp only [List.foldl_cons]; rw [ih, h]

/-! ## What everything under `settle` leaves alone -/

/-- The parts of the state no send, grant or report touches: registers and intake, policy, Frame Reference, bus log, epoch
counter, the queue of commands and the blocks listed. -/
def State.fixed (s : State) :
    List Instr × Intake × Causes × Policy × Reference × Bus × Epoch × List Word :=
  (s.pending, s.intake, s.causeEnable, s.policy, s.ref, s.bus, s.epochCounter, s.jobs.map Job.addr)

/-- Updates of the other fields. -/
@[simp] theorem State.fixed_ports (s : State) (x) : ({ s with ports := x } : State).fixed = s.fixed := rfl
@[simp] theorem State.fixed_tiles (s : State) (x) : ({ s with tiles := x } : State).fixed = s.fixed := rfl
@[simp] theorem State.fixed_frameRun (s : State) (x) : ({ s with frameRun := x } : State).fixed = s.fixed := rfl
@[simp] theorem State.fixed_controlRun (s : State) (x) : ({ s with controlRun := x } : State).fixed = s.fixed := rfl
@[simp] theorem State.fixed_composer (s : State) (x) : ({ s with composer := x } : State).fixed = s.fixed := rfl
@[simp] theorem State.fixed_causes (s : State) (x) : ({ s with causes := x } : State).fixed = s.fixed := rfl
@[simp] theorem State.fixed_halted (s : State) (x) : ({ s with halted := x } : State).fixed = s.fixed := rfl
@[simp] theorem State.fixed_power (s : State) (x) : ({ s with power := x } : State).fixed = s.fixed := rfl
@[simp] theorem State.fixed_present (s : State) (x y) : ({ s with presented := x, composer := y } : State).fixed = s.fixed := rfl

theorem State.fixed_jobs (s : State) (js : List Job) (h : js.map Job.addr = s.jobs.map Job.addr) :
    ({ s with jobs := js } : State).fixed = s.fixed := by simp [State.fixed, h]

@[simp] theorem State.fixed_setPort (s : State) (p x) : (s.setPort p x).fixed = s.fixed := rfl
@[simp] theorem State.fixed_modPort (s : State) (p f) : (s.modPort p f).fixed = s.fixed := rfl
@[simp] theorem State.fixed_setTile (s : State) (t x) : (s.setTile t x).fixed = s.fixed := rfl
@[simp] theorem State.fixed_modTile (s : State) (t f) : (s.modTile t f).fixed = s.fixed := rfl
@[simp] theorem State.fixed_raiseTile (s : State) : s.raiseTile.fixed = s.fixed := rfl
@[simp] theorem State.fixed_raiseHalt (s : State) : s.raiseHalt.fixed = s.fixed := rfl

@[simp] theorem Job.hand_addr (j : Job) (r : Result) : (j.hand r).addr = j.addr := by
  unfold Job.hand; split <;> rfl

/-- An entry changed in place keeps the listed blocks. -/
theorem State.fixed_modJob (s : State) (a : Word) (f : Job → Job) (h : ∀ j, (f j).addr = j.addr) :
    (s.modJob a f).fixed = s.fixed := by
  unfold State.modJob
  apply State.fixed_jobs
  simp only [List.map_map]
  congr 1; funext j; simp only [Function.comp]; split <;> simp [h]

@[simp] theorem State.fixed_hand (s : State) (a r) : (s.hand a r).fixed = s.fixed :=
  State.fixed_modJob _ _ _ (fun j => Job.hand_addr j r)

@[simp] theorem State.fixed_writeProgress (s : State) (v) : (s.writeProgress v).fixed = s.fixed := by
  unfold State.writeProgress
  split
  · rfl
  · exact State.fixed_modJob _ _ _ (fun _ => rfl)

@[simp] theorem State.fixed_completeFrame (s : State) (r) : (s.completeFrame r).fixed = s.fixed := by
  unfold State.completeFrame; split
  · rfl
  · exact State.fixed_hand s _ r

@[simp] theorem State.fixed_completeControl (s : State) (r) : (s.completeControl r).fixed = s.fixed := by
  unfold State.completeControl; split
  · rfl
  · exact State.fixed_hand s _ r

@[simp] theorem State.fixed_endWaitingFrame (s : State) (o) : (s.endWaitingFrame o).fixed = s.fixed := by
  unfold State.endWaitingFrame
  apply State.fixed_jobs
  simp only [List.map_map]
  congr 1; funext j; simp only [Function.comp]; split <;> simp

@[simp] theorem State.fixed_modScene (s : State) (f) : (s.modScene f).fixed = s.fixed := by
  unfold State.modScene; split <;> simp
@[simp] theorem State.fixed_modLut (s : State) (f) : (s.modLut f).fixed = s.fixed := by
  unfold State.modLut; split <;> simp
@[simp] theorem State.fixed_modVerify (s : State) (f) : (s.modVerify f).fixed = s.fixed := by
  unfold State.modVerify; split <;> simp
@[simp] theorem State.fixed_queueDiscard (s : State) (t e) : (s.queueDiscard t e).fixed = s.fixed := by
  unfold State.queueDiscard; split <;> simp
@[simp] theorem State.fixed_releaseEngine (s : State) (p) : (s.releaseEngine p).fixed = s.fixed := by
  unfold State.releaseEngine; split <;> (try split) <;> simp
@[simp] theorem State.fixed_setCursor (s : State) (t n) : (s.setCursor t n).fixed = s.fixed := by
  simp [State.setCursor]
@[simp] theorem State.fixed_flushPort (s : State) (p) : (s.flushPort p).fixed = s.fixed := by
  unfold State.flushPort; simp only; repeat' split
  all_goals simp
@[simp] theorem State.fixed_freeTile (s : State) (t) : (s.freeTile t).fixed = s.fixed := by
  unfold State.freeTile; split <;> simp
@[simp] theorem State.fixed_stopDelivery (s : State) (e t) : (s.stopDelivery e t).fixed = s.fixed := by
  unfold State.stopDelivery; simp only; split <;> simp
@[simp] theorem State.fixed_endAtTile (s : State) (e t) : (s.endAtTile e t).fixed = s.fixed := by
  unfold State.endAtTile; simp only; repeat' split
  all_goals simp
@[simp] theorem State.fixed_completeScene (s : State) (r) : (s.completeScene r).fixed = s.fixed := by
  simp [State.completeScene]
@[simp] theorem State.fixed_endSceneWith (s : State) (r x) : (s.endSceneWith r x).fixed = s.fixed := by
  simp [State.endSceneWith, foldl_keeps State.fixed]
@[simp] theorem State.fixed_endSceneEarly (s : State) (o) : (s.endSceneEarly o).fixed = s.fixed := by
  unfold State.endSceneEarly; split <;> simp
@[simp] theorem State.fixed_settleScene (s : State) : s.settleScene.fixed = s.fixed := by
  unfold State.settleScene; split <;> (repeat' split) <;> simp
@[simp] theorem State.fixed_armScene (s : State) (r) : (s.armScene r).fixed = s.fixed := by
  unfold State.armScene
  simp only [State.fixed_writeProgress]
  rw [foldl_keeps State.fixed]
  · simp
  · intro s t; split <;> simp
@[simp] theorem State.fixed_armingRule (s : State) : s.armingRule.fixed = s.fixed := by
  unfold State.armingRule; split <;> simp only <;> (repeat' split) <;> simp
@[simp] theorem State.fixed_dropTiles (s : State) (m c) : (s.dropTiles m c).fixed = s.fixed := by
  unfold State.dropTiles; split <;> simp only <;> (try split) <;> simp [foldl_keeps State.fixed]
@[simp] theorem State.fixed_expireDeadline (s : State) : s.expireDeadline.fixed = s.fixed := by
  unfold State.expireDeadline; split <;> simp
@[simp] theorem State.fixed_present_op (s : State) (x) : (s.present x).fixed = s.fixed := by
  unfold State.present; split <;> simp
@[simp] theorem State.fixed_confirmFlip (s : State) (t x) : (s.confirmFlip t x).fixed = s.fixed := by
  unfold State.confirmFlip; simp only; split <;> simp
@[simp] theorem State.fixed_flipReport (s : State) (t x f) : (s.flipReport t x f).fixed = s.fixed := by
  unfold State.flipReport; split <;> (try split) <;> simp
@[simp] theorem State.fixed_unconfirm (s : State) (t c) : (s.unconfirm t c).fixed = s.fixed := by
  simp [State.unconfirm]
@[simp] theorem State.fixed_passLimit (s : State) (r t) : (s.passLimit r t).fixed = s.fixed := by
  unfold State.passLimit; simp only; split <;> (try split) <;> simp
@[simp] theorem State.fixed_checkLimits (s : State) : s.checkLimits.fixed = s.fixed := by
  unfold State.checkLimits; split
  · rfl
  · simp [foldl_keeps State.fixed]
@[simp] theorem State.fixed_blankFront (s : State) (t) : (s.blankFront t).fixed = s.fixed := by
  unfold State.blankFront; split <;> simp
@[simp] theorem State.fixed_lostTile (s : State) (t) : (s.lostTile t).fixed = s.fixed := by
  unfold State.lostTile; simp only; split <;> (repeat' split) <;> simp
@[simp] theorem State.fixed_reportFront (s : State) (t f) : (s.reportFront t f).fixed = s.fixed := by
  simp [State.reportFront]
@[simp] theorem State.fixed_reportBack (s : State) (t b n) : (s.reportBack t b n).fixed = s.fixed := by
  unfold State.reportBack; split <;> simp
@[simp] theorem State.fixed_reportFlip (s : State) (t f) : (s.reportFlip t f).fixed = s.fixed := by
  unfold State.reportFlip; split <;> simp
@[simp] theorem State.fixed_resume (s : State) (r t b n) : (s.resume r t b n).fixed = s.fixed := by
  unfold State.resume; simp only; repeat' split
  all_goals simp
@[simp] theorem State.fixed_requeueFlip (s : State) (t e f) : (s.requeueFlip t e f).fixed = s.fixed := by
  unfold State.requeueFlip; split <;> simp
@[simp] theorem State.fixed_loseFlip (s : State) (r t f b n) : (s.loseFlip r t f b n).fixed = s.fixed := by
  unfold State.loseFlip; simp only; split <;> simp
@[simp] theorem State.fixed_relinkFlip (s : State) (r t f b n) : (s.relinkFlip r t f b n).fixed = s.fixed := by
  unfold State.relinkFlip; simp only; repeat' split
  all_goals simp
@[simp] theorem State.fixed_storeReport (s : State) (t f b n) : (s.storeReport t f b n).fixed = s.fixed := by
  unfold State.storeReport; repeat' split
  all_goals simp

/-! ### Correction tables and VERIFY -/

@[simp] theorem State.fixed_settleLut (s : State) : s.settleLut.fixed = s.fixed := by
  unfold State.settleLut; split <;> (try split) <;> simp
@[simp] theorem State.fixed_dropQueuedOf (s : State) (t f) : (s.dropQueuedOf t f).fixed = s.fixed := by
  unfold State.dropQueuedOf; split <;> simp
@[simp] theorem State.fixed_lutSkip (s : State) (t) : (s.lutSkip t).fixed = s.fixed := by
  unfold State.lutSkip; split <;> (try split) <;> simp
@[simp] theorem State.fixed_ackTable (s : State) (t l n) : (s.ackTable t l n).fixed = s.fixed := by
  unfold State.ackTable; simp only; split <;> (try split) <;> simp
@[simp] theorem State.fixed_settleVerify (s : State) : s.settleVerify.fixed = s.fixed := by
  unfold State.settleVerify; repeat' split
  all_goals simp
@[simp] theorem State.fixed_verifyMiss (s : State) (t) : (s.verifyMiss t).fixed = s.fixed := by
  unfold State.verifyMiss; split <;> (try split) <;> simp
@[simp] theorem State.fixed_takeReport (s : State) (t e c) : (s.takeReport t e c).fixed = s.fixed := by
  unfold State.takeReport; split <;> (try split) <;> simp
@[simp] theorem State.fixed_leaveTargets (s : State) (t) : (s.leaveTargets t).fixed = s.fixed := by
  simp [State.leaveTargets]
@[simp] theorem State.fixed_portLeft (s : State) (p) : (s.portLeft p).fixed = s.fixed := by
  unfold State.portLeft; split <;> simp
@[simp] theorem State.fixed_noteTable (s : State) (k) : (s.noteTable k).fixed = s.fixed := by simp [State.noteTable]
@[simp] theorem State.fixed_noteCheck (s : State) (k) : (s.noteCheck k).fixed = s.fixed := by simp [State.noteCheck]
@[simp] theorem State.fixed_noteResent (s : State) (p k) : (s.noteResent p k).fixed = s.fixed := by
  unfold State.noteResent; simp only; split <;> simp
@[simp] theorem State.fixed_noteDownshift (s : State) (p) : (s.noteDownshift p).fixed = s.fixed := by
  unfold State.noteDownshift; split <;> simp

/-! ### Links -/

@[simp] theorem State.fixed_endTestWith (s : State) (p o d) : (s.endTestWith p o d).fixed = s.fixed := by
  unfold State.endTestWith; split <;> simp
@[simp] theorem State.fixed_endTest (s : State) (p o) : (s.endTest p o).fixed = s.fixed := by simp [State.endTest]
@[simp] theorem State.fixed_exitUp (s : State) (p) : (s.exitUp p).fixed = s.fixed := by
  simp [State.exitUp, foldl_keeps State.fixed]
@[simp] theorem State.fixed_noteRetrain (s : State) (p) : (s.noteRetrain p).fixed = s.fixed := by
  unfold State.noteRetrain; (repeat' split) <;> simp
@[simp] theorem State.fixed_enterListen (s : State) (p) : (s.enterListen p).fixed = s.fixed := by simp [State.enterListen]
@[simp] theorem State.fixed_enterOffer (s : State) (p) : (s.enterOffer p).fixed = s.fixed := by simp [State.enterOffer]
@[simp] theorem State.fixed_beginAttempt (s : State) (p g) : (s.beginAttempt p g).fixed = s.fixed := rfl
@[simp] theorem State.fixed_enterUp (s : State) (p n) : (s.enterUp p n).fixed = s.fixed := rfl
@[simp] theorem State.fixed_enterLost (s : State) (p c) : (s.enterLost p c).fixed = s.fixed := by
  unfold State.enterLost; simp only; split <;> simp
@[simp] theorem State.fixed_goOff (s : State) (p) : (s.goOff p).fixed = s.fixed := by simp [State.goOff]
@[simp] theorem State.fixed_countFailure (s : State) (p) : (s.countFailure p).fixed = s.fixed := by
  unfold State.countFailure; simp only; repeat' split
  all_goals simp
@[simp] theorem State.fixed_exhaust (s : State) (p) : (s.exhaust p).fixed = s.fixed := by simp [State.exhaust]
@[simp] theorem State.fixed_restartOffer (s : State) (p) : (s.restartOffer p).fixed = s.fixed := by simp [State.restartOffer]
@[simp] theorem State.fixed_takeReports (s : State) (p o) : (s.takeReports p o).fixed = s.fixed := by
  unfold State.takeReports; split <;> simp
@[simp] theorem State.fixed_endExchange (s : State) (p o) : (s.endExchange p o).fixed = s.fixed := by
  unfold State.endExchange; split <;> simp
@[simp] theorem State.fixed_checkExchange (s : State) (p) : (s.checkExchange p).fixed = s.fixed := by
  unfold State.checkExchange; split <;> (try split) <;> simp
@[simp] theorem State.fixed_takeOffer (s : State) (p o) : (s.takeOffer p o).fixed = s.fixed := by
  unfold State.takeOffer; split
  · simp
  · simp only [apply_ite State.fixed, State.fixed_restartOffer, State.fixed_checkExchange, State.fixed_modPort, ite_self]
@[simp] theorem State.fixed_leaveForRequest (s : State) (p) : (s.leaveForRequest p).fixed = s.fixed := by
  unfold State.leaveForRequest; split <;> simp
@[simp] theorem State.fixed_restartPort (s : State) (p) : (s.restartPort p).fixed = s.fixed := by
  unfold State.restartPort; simp only; split <;> simp
@[simp] theorem State.fixed_recoverPort (s : State) (p) : (s.recoverPort p).fixed = s.fixed := by
  unfold State.recoverPort; simp only; split <;> simp
@[simp] theorem State.fixed_applyCeiling (s : State) (p) : (s.applyCeiling p).fixed = s.fixed := by
  unfold State.applyCeiling; simp only; repeat' split
  all_goals simp
@[simp] theorem State.fixed_fallSilent (s : State) (p) : (s.fallSilent p).fixed = s.fixed := by
  unfold State.fallSilent; simp only; split <;> simp
@[simp] theorem State.fixed_heard (s : State) (p) : (s.heard p).fixed = s.fixed := rfl

/-! ### Halt -/

@[simp] theorem State.fixed_dropQueuedAll (s : State) (f) : (s.dropQueuedAll f).fixed = s.fixed := by
  unfold State.dropQueuedAll
  rw [State.forEach_keeps State.fixed]
  intro i s; rfl
@[simp] theorem State.fixed_stopVerify (s : State) (f) : (s.stopVerify f).fixed = s.fixed := by
  have h := State.fixed_dropQueuedAll s f
  unfold State.stopVerify; simp only
  generalize s.dropQueuedAll f = u at h ⊢
  split
  · exact h
  · exact h
  · exact h
@[simp] theorem State.fixed_abortFrameJob (s : State) : s.abortFrameJob.fixed = s.fixed := by
  unfold State.abortFrameJob; split <;> simp
@[simp] theorem State.fixed_stopComposer (s : State) : s.stopComposer.fixed = s.fixed := by
  unfold State.stopComposer; simp only [State.fixed_composer]
  rw [State.forEach_keeps State.fixed]
  intro i s; rfl
@[simp] theorem State.fixed_stopWork (s : State) (o) : (s.stopWork o).fixed = s.fixed := by simp [State.stopWork]
@[simp] theorem State.fixed_halt (s : State) (c) : (s.halt c).fixed = s.fixed := by
  unfold State.halt; split <;> simp

/-! ### Stream, transmitter, arbiter -/

@[simp] theorem State.fixed_ackStripe (s : State) (p b) : (s.ackStripe p b).fixed = s.fixed := by
  unfold State.ackStripe; split <;> simp only <;> (try split) <;> simp
@[simp] theorem State.fixed_ackOwner (s : State) (p k) : (s.ackOwner p k).fixed = s.fixed := by
  unfold State.ackOwner; split <;> (try split) <;> simp
@[simp] theorem State.fixed_ackOldest (s : State) (p k) : (s.ackOldest p k).fixed = s.fixed := by
  induction k generalizing s with
  | zero => rfl
  | succ k ih => unfold State.ackOldest; split <;> simp [ih]
@[simp] theorem State.fixed_acknowledge (s : State) (p k) : (s.acknowledge p k).fixed = s.fixed := by
  unfold State.acknowledge; split <;> simp
@[simp] theorem State.fixed_takeAck (s : State) (p n) : (s.takeAck p n).fixed = s.fixed := by
  unfold State.takeAck; split <;> simp
@[simp] theorem State.fixed_beginRun (s : State) (p i) : (s.beginRun p i).fixed = s.fixed := by
  unfold State.beginRun; simp only; split <;> simp
@[simp] theorem State.fixed_runFromOldest (s : State) (p) : (s.runFromOldest p).fixed = s.fixed := by
  unfold State.runFromOldest; split <;> simp
@[simp] theorem State.fixed_takeNak (s : State) (p e) : (s.takeNak p e).fixed = s.fixed := by
  unfold State.takeNak; simp only; repeat' split
  all_goals simp
@[simp] theorem State.fixed_ackExpired (s : State) (p) : (s.ackExpired p).fixed = s.fixed := by simp [State.ackExpired]
@[simp] theorem State.fixed_endHold (s : State) (p) : (s.endHold p).fixed = s.fixed := by
  unfold State.endHold; simp only; split <;> simp
@[simp] theorem State.fixed_takeHold (s : State) (p q) : (s.takeHold p q).fixed = s.fixed := by
  unfold State.takeHold; simp only; repeat' split
  all_goals simp
@[simp] theorem State.fixed_sendStripe (s : State) (p b k) : (s.sendStripe p b k).fixed = s.fixed := by
  unfold State.sendStripe; simp only; split <;> (try split) <;> simp
@[simp] theorem State.fixed_sendFlip (s : State) (p e f k) : (s.sendFlip p e f k).fixed = s.fixed := by
  unfold State.sendFlip; split <;> simp
@[simp] theorem State.fixed_sendHead (s : State) (p k r) : (s.sendHead p k r).fixed = s.fixed := by
  unfold State.sendHead; split <;> simp
@[simp] theorem State.fixed_sendResend (s : State) (p n l k) : (s.sendResend p n l k).fixed = s.fixed := by
  unfold State.sendResend; simp only; repeat' split
  all_goals simp
@[simp] theorem State.fixed_countEcho (s : State) (p k) : (s.countEcho p k).fixed = s.fixed := by
  unfold State.countEcho; simp only; split <;> simp
@[simp] theorem State.fixed_takeEcho (s : State) (p n f l) : (s.takeEcho p n f l).fixed = s.fixed := by
  unfold State.takeEcho; repeat' split
  all_goals simp
@[simp] theorem State.fixed_echoExpired (s : State) (p) : (s.echoExpired p).fixed = s.fixed := by
  unfold State.echoExpired; repeat' split
  all_goals simp
@[simp] theorem State.fixed_takeResult (s : State) (p g b) : (s.takeResult p g b).fixed = s.fixed := by
  unfold State.takeResult; repeat' split
  all_goals simp
@[simp] theorem State.fixed_resultExpired (s : State) (p) : (s.resultExpired p).fixed = s.fixed := by
  unfold State.resultExpired; repeat' split
  all_goals simp
@[simp] theorem State.fixed_transmitUp (s : State) (p k) : (s.transmitUp p k).fixed = s.fixed := by
  unfold State.transmitUp; simp only; repeat' split
  all_goals simp
@[simp] theorem State.fixed_transmit (s : State) (p k) : (s.transmit p k).fixed = s.fixed := by
  unfold State.transmit; simp only; repeat' split
  all_goals simp
@[simp] theorem State.fixed_pump (s : State) : s.pump.fixed = s.fixed := by
  simp [State.pump, State.forEach_keeps State.fixed]
@[simp] theorem State.fixed_sleepPort (s : State) (p) : (s.sleepPort p).fixed = s.fixed := by
  unfold State.sleepPort; split <;> simp
@[simp] theorem State.fixed_sleepPorts (s : State) : s.sleepPorts.fixed = s.fixed := by
  unfold State.sleepPorts; split <;> simp [State.forEach_keeps State.fixed]
@[simp] theorem State.fixed_completePower (s : State) (b a) : (s.completePower b a).fixed = s.fixed := by
  unfold State.completePower; split <;> simp
@[simp] theorem State.fixed_settleSleep (s : State) : s.settleSleep.fixed = s.fixed := by
  unfold State.settleSleep; split <;> simp
@[simp] theorem State.fixed_startDelivering (s : State) (r) : (s.startDelivering r).fixed = s.fixed := by
  unfold State.startDelivering; split <;> simp
@[simp] theorem State.fixed_grant (s : State) (r i t p b) : (s.grant r i t p b).fixed = s.fixed := by simp [State.grant]
@[simp] theorem State.fixed_grantVerify (s : State) (r) : (s.grantVerify r).fixed = s.fixed := by
  unfold State.grantVerify; repeat' split
  all_goals rfl
@[simp] theorem State.fixed_arbitrate (s : State) : s.arbitrate.fixed = s.fixed := by
  unfold State.arbitrate; repeat' split
  all_goals simp

/-- What follows a command in the same step leaves the registers, the intake, the policy, the Frame Reference, the bus log, the
epoch counter, the queue of commands and the listed blocks as they are. -/
@[simp] theorem State.fixed_settle (s : State) : s.settle.fixed = s.fixed := by simp [State.settle]

end Sys2Proof.Machine
end

