-- ==== Sys2Proof/Laws/Commands.lean ====
section
/-! SUPPORT. The frame of the commands: which of them leave every part of `State.fixed` alone, and which all of it but the Frame
Reference (`State.core`). -/
namespace Sys2Proof.Machine

/-! ## The fixed parts but for the Frame Reference -/

/-- Updates that `Laws/Frame.lean` does not name. -/
@[simp] theorem State.fixed_compositions (s : State) (x) : ({ s with compositions := x } : State).fixed = s.fixed := rfl
@[simp] theorem State.fixed_serial (s : State) (x) : ({ s with serial := x } : State).fixed = s.fixed := rfl

/-- The types of the parts of `State.core`. -/
abbrev CoreParts := List Instr × Intake × Causes × Policy × Bus × Epoch × List Word

/-- The fixed parts but for the Frame Reference. -/
def State.core (s : State) : CoreParts :=
  (s.pending, s.intake, s.causeEnable, s.policy, s.bus, s.epochCounter, s.jobs.map Job.addr)

/-- The fixed parts without their fifth. -/
def coreOf (x : List Instr × Intake × Causes × Policy × Reference × Bus × Epoch × List Word) : CoreParts :=
  (x.1, x.2.1, x.2.2.1, x.2.2.2.1, x.2.2.2.2.2.1, x.2.2.2.2.2.2.1, x.2.2.2.2.2.2.2)

theorem State.core_eq (s : State) : s.core = coreOf s.fixed := rfl
theorem State.core_of {s t : State} (h : t.fixed = s.fixed) : t.core = s.core := by rw [State.core_eq, State.core_eq, h]
@[simp] theorem State.core_ref (s : State) (x) : ({ s with ref := x } : State).core = s.core := rfl
@[simp] theorem State.core_power (s : State) (x) : ({ s with power := x } : State).core = s.core := rfl
@[simp] theorem State.core_refpower (s : State) (x y) : ({ s with ref := x, power := y } : State).core = s.core := rfl
@[simp] theorem State.core_controlRun (s : State) (x) : ({ s with controlRun := x } : State).core = s.core := rfl
@[simp] theorem State.core_hand (s : State) (a r) : (s.hand a r).core = s.core := State.core_of (by simp)
@[simp] theorem State.core_raiseReference (s : State) : s.raiseReference.core = s.core := rfl
@[simp] theorem State.fixed_raiseReference (s : State) : s.raiseReference.fixed = s.fixed := rfl
@[simp] theorem State.core_expire (s : State) : s.expireDeadline.core = s.core := State.core_of (by simp)
@[simp] theorem State.core_modScene (s : State) (f) : (s.modScene f).core = s.core := State.core_of (by simp)
@[simp] theorem State.core_checkLimits (s : State) : s.checkLimits.core = s.core := State.core_of (by simp)
@[simp] theorem State.core_settle (s : State) : s.settle.core = s.core := State.core_of (by simp)
@[simp] theorem State.core_countDeadline (s : State) : s.countDeadline.core = s.core := by
  unfold State.countDeadline; repeat' split
  all_goals simp

@[simp] theorem State.core_issue (s : State) : s.issueFrame.core = s.core := by
  unfold State.issueFrame; simp only [State.core_checkLimits, State.core_countDeadline]
  rw [State.forEach_keeps State.core]
  · rfl
  · intro i s; exact State.core_of (by simp)

@[simp] theorem State.core_enterInternal (s : State) : s.enterInternal.core = s.core := rfl
@[simp] theorem State.core_endSwitch (s : State) (o) : (s.endSwitch o).core = s.core := by
  unfold State.endSwitch; simp only; repeat' split
  all_goals simp

@[simp] theorem State.core_fallBack (s : State) : s.fallBack.core = s.core := by simp [State.fallBack]
@[simp] theorem State.core_lockPulse (s : State) : s.lockPulse.core = s.core := by simp [State.lockPulse]
@[simp] theorem State.core_switchPulse (s : State) : s.switchPulse.core = s.core := by
  unfold State.switchPulse; simp only; split <;> simp

@[simp] theorem State.core_takePulse (s : State) : s.takePulse.core = s.core := by
  unfold State.takePulse; simp only; repeat' split
  all_goals simp

@[simp] theorem State.core_declareLoss (s : State) : s.declareLoss.core = s.core := by
  unfold State.declareLoss; simp only; repeat' split
  all_goals simp

@[simp] theorem State.core_timed (s : State) : s.timedFrame.core = s.core := by
  unfold State.timedFrame; repeat' split
  all_goals simp

@[simp] theorem State.core_lockExpired (s : State) : s.lockExpired.core = s.core := by
  unfold State.lockExpired; repeat' split
  all_goals simp

@[simp] theorem State.core_failSafe (s : State) : s.failSafeEnabled.core = s.core := by
  unfold State.failSafeEnabled; repeat' split
  all_goals simp

@[simp] theorem State.core_beginExternal (s : State) (j) : (s.beginExternal j).core = s.core := rfl
@[simp] theorem State.core_beginInternal (s : State) (j) : (s.beginInternal j).core = s.core := by
  unfold State.beginInternal; simp only; repeat' split
  all_goals simp

@[simp] theorem State.core_stopReference (s : State) : s.stopReference.core = s.core := by
  unfold State.stopReference; simp only [State.core_ref, State.core_endSwitch]; split <;> simp
@[simp] theorem State.core_stopWork (s : State) (o) : (s.stopWork o).core = s.core := State.core_of (by simp)
@[simp] theorem State.core_completePower (s : State) (a b) : (s.completePower a b).core = s.core := State.core_of (by simp)
@[simp] theorem State.core_sleepPorts (s : State) : s.sleepPorts.core = s.core := State.core_of (by simp)
@[simp] theorem State.core_enterStandby (s : State) : s.enterStandby.core = s.core := by simp [State.enterStandby]
@[simp] theorem State.core_enterSleep (s : State) : s.enterSleep.core = s.core := by
  unfold State.enterSleep; simp only [State.core_stopReference, State.core_sleepPorts]
  rw [State.forEach_keeps State.core]
  · simp
  · intro i s; exact State.core_of (by simp)

@[simp] theorem State.core_beginSettle (s : State) (t) : (s.beginSettle t).core = s.core := rfl

theorem startOldest_addr (l f) (js : List Job) : (startOldest l f js).1.map Job.addr = js.map Job.addr := by
  induction js with
  | nil => rfl
  | cons j js ih =>
    unfold startOldest
    repeat' split
    all_goals simp_all

@[simp] theorem State.fixed_lookControl (s : State) : s.lookControl.fixed = s.fixed := by
  unfold State.lookControl; split
  · rfl
  · simp [State.fixed, startOldest_addr]

@[simp] theorem State.fixed_lookFrame (s : State) : s.lookFrame.fixed = s.fixed := by
  unfold State.lookFrame; split
  · rfl
  · simp [State.fixed, startOldest_addr]

@[simp] theorem State.core_lookControl (s : State) : s.lookControl.core = s.core := State.core_of (by simp)
@[simp] theorem State.core_lookFrame (s : State) : s.lookFrame.core = s.core := State.core_of (by simp)
@[simp] theorem State.core_completeControl (s : State) (r) : (s.completeControl r).core = s.core := State.core_of (by simp)
@[simp] theorem State.fixed_takeFlight (s : State) (j) : (s.takeFlight j).fixed = s.fixed := by
  unfold State.takeFlight
  rw [State.fixed_controlRun]
  exact State.fixed_modJob _ _ _ (fun _ => rfl)

@[simp] theorem State.core_takeFlight (s : State) (j) : (s.takeFlight j).core = s.core := State.core_of (by simp)
@[simp] theorem State.core_enterListen (s : State) (p) : (s.enterListen p).core = s.core := State.core_of (by simp)
@[simp] theorem State.core_endSettle (s : State) : s.endSettle.core = s.core := by
  unfold State.endSettle
  split
  · rfl
  · rfl
  · simp only [State.core_lookControl, State.core_completePower]
    rw [State.forEach_keeps State.core _ (by intro i s; split <;> simp)]
    rfl

@[simp] theorem State.core_changePower (s : State) (t) : (s.changePower t).core = s.core := by
  unfold State.changePower; split <;> simp

/-- The command answers a next state with the fixed parts of `s` but for the Frame Reference. -/
def KeepsCore (o : Host.Outcome State Fault Refusal) (s : State) : Prop := ∃ t, o = .next t ∧ t.core = s.core
theorem keepsCore_settled (u s : State) (h : u.core = s.core) : KeepsCore u.settled s := ⟨_, rfl, by simp [h]⟩
theorem keepsCore_next (u s : State) (h : u.core = s.core) : KeepsCore (.next u) s := ⟨_, rfl, h⟩
@[simp] theorem State.core_applyPeriod (s : State) (t) : (s.applyPeriod t).core = s.core := by
  unfold State.applyPeriod; split <;> rfl

@[simp] theorem State.core_completeReference (s : State) (a b c) : (s.completeReference a b c).core = s.core := by
  unfold State.completeReference; simp only; split <;> simp

@[simp] theorem State.core_requestSource (s : State) (a b) : (s.requestSource a b).core = s.core := by
  unfold State.requestSource; simp only; repeat' split
  all_goals simp

@[simp] theorem State.core_completeFrame (s : State) (o) : (s.completeFrame o).core = s.core := State.core_of (by simp)
theorem State.core_withdraw (s : State) (j) : (s.withdrawTarget j).1.core = s.core := by
  unfold State.withdrawTarget; repeat' split
  all_goals try simp
  all_goals try exact State.core_of (by simp)
  rw [State.forEach_keeps State.core]
  intro i s
  apply State.core_of
  repeat' split
  all_goals simp

theorem execFrameStart_keepsCore (s) : KeepsCore (execFrameStart s) s := keepsCore_settled _ _ (by simp)
theorem execSyncInPulse_keepsCore (s) : KeepsCore (execSyncInPulse s) s := keepsCore_settled _ _ (by simp)
theorem execLossDeclared_keepsCore (s) : KeepsCore (execLossDeclared s) s := keepsCore_settled _ _ (by simp)
theorem execLockPulse_keepsCore (s) : KeepsCore (execLockPulse s) s := by
  unfold execLockPulse; split
  · exact keepsCore_settled _ _ (by simp)
  · exact keepsCore_next _ _ rfl

theorem execLockTimerExpiry_keepsCore (s) : KeepsCore (execLockTimerExpiry s) s := keepsCore_settled _ _ (by simp)
theorem execWakeSettleEnd_keepsCore (s) : KeepsCore (execWakeSettleEnd s) s := keepsCore_settled _ _ (by simp)
theorem execPower_keepsCore (s) : KeepsCore (execPower s) s := by
  unfold execPower; repeat' split
  all_goals first | (with_reducible exact keepsCore_next _ _ rfl) | (with_reducible apply keepsCore_settled; simp)

theorem execReference_keepsCore (s) : KeepsCore (execReference s) s := by
  unfold execReference; simp only; repeat' split
  all_goals first | (with_reducible exact keepsCore_next _ _ rfl) | (with_reducible apply keepsCore_settled; simp)

theorem execWithdraw_keepsCore (s) : KeepsCore (execWithdraw s) s := by
  unfold execWithdraw; simp only; repeat' split
  all_goals first | (with_reducible exact keepsCore_next _ _ rfl) | 
      (with_reducible apply keepsCore_settled; simp [State.core_withdraw])

/-! ## Commands that leave every fixed part alone -/

/-- The command answers a next state with the fixed parts of `s`. -/
def KeepsFixed (o : Host.Outcome State Fault Refusal) (s : State) : Prop := ∃ t, o = .next t ∧ t.fixed = s.fixed

theorem keepsFixed_settled (u s : State) (h : u.fixed = s.fixed) : KeepsFixed u.settled s := ⟨_, rfl, by simp [h]⟩
theorem keepsFixed_next (u s : State) (h : u.fixed = s.fixed) : KeepsFixed (.next u) s := ⟨_, rfl, h⟩
theorem execLinkTest_keepsFixed (s) : KeepsFixed (execLinkTest s) s := by
  unfold execLinkTest; repeat' split
  all_goals first | (with_reducible exact keepsFixed_next _ _ rfl) | (with_reducible apply keepsFixed_settled; simp)

@[simp] theorem State.fixed_recoverTile (s : State) (i) : (s.recoverTile i).fixed = s.fixed := by
  unfold State.recoverTile; split <;> simp

theorem State.fixed_recoverAll (s : State) (ts : List TileId) : (s.forEach ts (fun t s => s.recoverTile t)).fixed = s.fixed :=
  State.forEach_keeps State.fixed _ (fun _ _ => State.fixed_recoverTile _ _) ts s

theorem execRecover_keepsFixed (s) : KeepsFixed (execRecover s) s := by
  unfold execRecover
  split
  · exact keepsFixed_next _ _ rfl
  · simp only
    split
    · with_reducible apply keepsFixed_settled; simp
    · with_reducible apply keepsFixed_settled; simp [State.fixed_recoverAll]

@[simp] theorem State.fixed_senseClears (s : State) (a b) : (s.senseClears a b).fixed = s.fixed := by
  unfold State.senseClears
  rw [State.forEach_keeps State.fixed _ (by intro i s; simp)]

@[simp] theorem State.fixed_handPacket (s : State) (i r) : (s.handPacket i r).fixed = s.fixed := by
  unfold State.handPacket; split <;> simp

theorem execSense_keepsFixed (s) : KeepsFixed (execSense s) s := by
  unfold execSense
  split
  · exact keepsFixed_next _ _ rfl
  · split
    · with_reducible apply keepsFixed_settled; simp
    · with_reducible apply keepsFixed_next; rw [State.fixed_controlRun, State.fixed_senseClears]

@[simp] theorem State.fixed_replaceMap (s : State) (es) : (s.replaceMap es).fixed = s.fixed := by
  unfold State.replaceMap; simp only [State.fixed_completeFrame]
  rw [State.forEach_keeps State.fixed _ (by intro i s; simp), State.fixed_composer,
    State.forEach_keeps State.fixed _ (by intro i s; split <;> simp)]

@[simp] theorem State.fixed_checkEntries (s : State) (es) : (s.checkEntries es).fixed = s.fixed := by
  unfold State.checkEntries; split <;> simp

theorem execTileMap_keepsFixed (s) : KeepsFixed (execTileMap s) s := by
  unfold execTileMap; repeat' split
  all_goals first | (with_reducible exact keepsFixed_next _ _ rfl) | (with_reducible apply keepsFixed_settled; simp)

theorem execTileMapEntryRead_keepsFixed (d s) : KeepsFixed (execTileMapEntryRead d s) s := by
  unfold execTileMapEntryRead; simp only; repeat' split
  all_goals first | (with_reducible exact keepsFixed_next _ _ rfl) | (with_reducible apply keepsFixed_settled; simp)

theorem execLutLoad_keepsFixed (s) : KeepsFixed (execLutLoad s) s := by
  unfold execLutLoad; simp only; repeat' split
  all_goals first | (with_reducible exact keepsFixed_next _ _ rfl) | (with_reducible apply keepsFixed_settled; simp)

@[simp] theorem State.fixed_queueTables (s : State) (r) : (s.queueTables r).fixed = s.fixed := by
  unfold State.queueTables; simp only [State.fixed_settleLut]
  rw [State.forEach_keeps State.fixed _ (by intro i s; simp)]; rfl

@[simp] theorem State.fixed_queueChecks (s : State) (r i) : (s.queueChecks r i).fixed = s.fixed := by
  unfold State.queueChecks; simp only [State.fixed_settleVerify]
  rw [State.forEach_keeps State.fixed _ (by intro i s; simp)]; rfl

theorem execValuesWordRead_keepsFixed (d s) : KeepsFixed (execValuesWordRead d s) s := by
  unfold execValuesWordRead; simp only; repeat' split
  all_goals first | (with_reducible exact keepsFixed_next _ _ rfl) | (with_reducible apply keepsFixed_settled; simp)

theorem execVerify_keepsFixed (s) : KeepsFixed (execVerify s) s := by
  unfold execVerify; simp only; repeat' split
  all_goals first | (with_reducible exact keepsFixed_next _ _ rfl) | (with_reducible apply keepsFixed_settled; simp)

theorem execVerifyRecomposition_keepsFixed (d s) : KeepsFixed (execVerifyRecomposition d s) s := by
  unfold execVerifyRecomposition
  split
  · split
    · exact keepsFixed_next _ _ rfl
    · apply keepsFixed_settled
      rw [State.fixed_settleVerify]
      rfl
  · exact keepsFixed_next _ _ rfl

theorem execVerifySurfaceBusError_keepsFixed (d s) : KeepsFixed (execVerifySurfaceBusError d s) s := by
  unfold execVerifySurfaceBusError
  split
  · split
    · exact keepsFixed_next _ _ rfl
    · split
      · with_reducible apply keepsFixed_settled; rw [State.fixed_completeFrame, State.fixed_stopVerify]
      · exact keepsFixed_next _ _ rfl
  · exact keepsFixed_next _ _ rfl

theorem keepsFixed_takeInUp (s : State) (p f) (h : ∀ u : State, (f u).fixed = u.fixed) : KeepsFixed (s.takeInUp p f) s := by
  unfold State.takeInUp; split
  · exact keepsFixed_settled _ _ (by rw [h]; simp)
  all_goals exact keepsFixed_next _ _ rfl

/-- What a report does at a tile keeps them where it does at every tile. -/
@[simp] theorem State.fixed_atTileOf (s : State) (p) (f : TileId → State → State) (h : ∀ t u, (f t u).fixed = u.fixed) :
    (s.atTileOf p f).fixed = s.fixed := by
  unfold State.atTileOf; split
  · rfl
  · apply h

@[simp] theorem State.fixed_takeTrain (s : State) (p g l e) : (s.takeTrain p g l e).fixed = s.fixed := by
  unfold State.takeTrain; simp only; split <;> simp

@[simp] theorem State.fixed_storeStripe (s : State) (t p b x) : (s.storeStripe t p b x).fixed = s.fixed := by
  simp [State.storeStripe]

theorem execAckReceived_keepsFixed (s : State) (p) (n) : KeepsFixed (execAckReceived p n s) s :=
  keepsFixed_takeInUp _ _ _ (fun _ => by simp)

theorem execNakReceived_keepsFixed (s : State) (p) (n) : KeepsFixed (execNakReceived p n s) s :=
  keepsFixed_takeInUp _ _ _ (fun _ => by simp)

theorem execHoldReceived_keepsFixed (s : State) (p) (n) : KeepsFixed (execHoldReceived p n s) s :=
  keepsFixed_takeInUp _ _ _ (fun _ => by simp)

theorem execStatusReceived_keepsFixed (s : State) (p) (n) : KeepsFixed (execStatusReceived p n s) s :=
  keepsFixed_takeInUp _ _ _ (fun _ => by simp)

theorem execFlippedReceived_keepsFixed (s : State) (p) (e) (n) : KeepsFixed (execFlippedReceived p e n s) s :=
  keepsFixed_takeInUp _ _ _ (fun _ => by simp)

theorem execTestEchoReceived_keepsFixed (s : State) (p) (n) (a) (b) : KeepsFixed (execTestEchoReceived p n a b s) s :=
  keepsFixed_takeInUp _ _ _ (fun _ => by simp)

theorem execTestResultReceived_keepsFixed (s : State) (p) (a) (b) : KeepsFixed (execTestResultReceived p a b s) s :=
  keepsFixed_takeInUp _ _ _ (fun _ => by simp)

theorem execCheckReportReceived_keepsFixed (s : State) (p) (a) (b) : KeepsFixed (execCheckReportReceived p a b s) s :=
  keepsFixed_takeInUp _ _ _ (fun _ => by simp)

theorem execTransmitterFree_keepsFixed (s : State) (p) (r) : KeepsFixed (execTransmitterFree p r s) s := by
  unfold execTransmitterFree; repeat' split
  all_goals first | (with_reducible exact keepsFixed_next _ _ rfl) | (with_reducible apply keepsFixed_settled; simp)

theorem execReceiveCheckFailure_keepsFixed (s : State) (p) (r) : KeepsFixed (execReceiveCheckFailure p r s) s := by
  unfold execReceiveCheckFailure; repeat' split
  all_goals with_reducible exact keepsFixed_next _ _ rfl

theorem execBeaconReceived_keepsFixed (s : State) (p) : KeepsFixed (execBeaconReceived p s) s := by
  unfold execBeaconReceived; repeat' split
  all_goals first | (with_reducible exact keepsFixed_next _ _ rfl) | (with_reducible apply keepsFixed_settled; simp)

theorem execOfferReceived_keepsFixed (s : State) (p) (o) : KeepsFixed (execOfferReceived p o s) s := by
  unfold execOfferReceived; repeat' split
  all_goals first | (with_reducible exact keepsFixed_next _ _ rfl) | (with_reducible apply keepsFixed_settled; simp)

theorem execTrainReceived_keepsFixed (s : State) (p) (g) (l) (e) : KeepsFixed (execTrainReceived p g l e s) s := by
  unfold execTrainReceived; repeat' split
  all_goals first | (with_reducible exact keepsFixed_next _ _ rfl) | (with_reducible apply keepsFixed_settled; simp)

theorem execBeaconTimer_keepsFixed (s : State) (p) : KeepsFixed (execBeaconTimer p s) s := by
  unfold execBeaconTimer; repeat' split
  all_goals first | (with_reducible exact keepsFixed_next _ _ rfl) | (with_reducible apply keepsFixed_settled; simp)

theorem execOfferRepeatTimer_keepsFixed (s : State) (p) : KeepsFixed (execOfferRepeatTimer p s) s := by
  unfold execOfferRepeatTimer; repeat' split
  all_goals first | (with_reducible exact keepsFixed_next _ _ rfl) | (with_reducible apply keepsFixed_settled; simp)

theorem execOfferTimeout_keepsFixed (s : State) (p) : KeepsFixed (execOfferTimeout p s) s := by
  unfold execOfferTimeout; repeat' split
  all_goals first | (with_reducible exact keepsFixed_next _ _ rfl) | (with_reducible apply keepsFixed_settled; simp)

theorem execTrainTimeout_keepsFixed (s : State) (p) : KeepsFixed (execTrainTimeout p s) s := by
  unfold execTrainTimeout; repeat' split
  all_goals first | (with_reducible exact keepsFixed_next _ _ rfl) | (with_reducible apply keepsFixed_settled; simp)

theorem execSilence_keepsFixed (s : State) (p) : KeepsFixed (execSilence p s) s := by
  unfold execSilence; repeat' split
  all_goals first | (with_reducible exact keepsFixed_next _ _ rfl) | (with_reducible apply keepsFixed_settled; simp)

theorem execAckTimeout_keepsFixed (s : State) (p) : KeepsFixed (execAckTimeout p s) s := by
  unfold execAckTimeout; repeat' split
  all_goals first | (with_reducible exact keepsFixed_next _ _ rfl) | (with_reducible apply keepsFixed_settled; simp)

theorem execRetryExhaustion_keepsFixed (s : State) (p) : KeepsFixed (execRetryExhaustion p s) s := by
  unfold execRetryExhaustion; repeat' split
  all_goals first | (with_reducible exact keepsFixed_next _ _ rfl) | (with_reducible apply keepsFixed_settled; simp)

theorem execHoldExpiry_keepsFixed (s : State) (p) : KeepsFixed (execHoldExpiry p s) s := by
  unfold execHoldExpiry; repeat' split
  all_goals first | (with_reducible exact keepsFixed_next _ _ rfl) | (with_reducible apply keepsFixed_settled; simp)

theorem execTallySaturation_keepsFixed (s : State) (p) : KeepsFixed (execTallySaturation p s) s := by
  unfold execTallySaturation; simp only; repeat' split
  all_goals first | (with_reducible exact keepsFixed_next _ _ rfl) | (with_reducible apply keepsFixed_settled; simp)

theorem execEchoTimeout_keepsFixed (s : State) (p) : KeepsFixed (execEchoTimeout p s) s := 
  keepsFixed_settled _ _ (by simp)

theorem execResultTimeout_keepsFixed (s : State) (p) : KeepsFixed (execResultTimeout p s) s := 
  keepsFixed_settled _ _ (by simp)

/-- Frame starts occur in INTERNAL and in EXTERNAL, and in no other state (R57, R66, R87). -/
theorem framesOccur_iff (r : Reference) : r.framesOccur = true ↔ r.state = .intern ∨ r.state = .extern := by
  simp [Reference.framesOccur]

theorem execStabilityReached_keepsFixed (s : State) (p) : KeepsFixed (execStabilityReached p s) s := by
  unfold execStabilityReached; repeat' split
  all_goals with_reducible exact keepsFixed_next _ _ rfl

theorem execDeadlineExpiry_keepsFixed (s : State) : KeepsFixed (execDeadlineExpiry s) s := by
  unfold execDeadlineExpiry; repeat' split
  all_goals first | (with_reducible exact keepsFixed_next _ _ rfl) | (with_reducible apply keepsFixed_settled; simp)

theorem execConfirmationLimit_keepsFixed (s : State) (t) : KeepsFixed (execConfirmationLimit t s) s := by
  unfold execConfirmationLimit; repeat' split
  all_goals first | (with_reducible exact keepsFixed_next _ _ rfl) | (with_reducible apply keepsFixed_settled; simp)

theorem execSurfaceBusError_keepsFixed (s : State) (l) : KeepsFixed (execSurfaceBusError l s) s := by
  unfold execSurfaceBusError; repeat' split
  all_goals first | (with_reducible exact keepsFixed_next _ _ rfl) | (with_reducible apply keepsFixed_settled; simp)

theorem execCompositionEnd_keepsFixed (s : State) (i) (r) : KeepsFixed (execCompositionEnd i r s) s := by
  unfold execCompositionEnd; simp only; repeat' split
  all_goals first | (with_reducible exact keepsFixed_next _ _ rfl) | (with_reducible apply keepsFixed_settled; simp)

end Sys2Proof.Machine
end

