-- ==== Sys2Proof/Laws/Lanes.lean ====
section
/-! SUPPORT. What looking at a lane does (R158): the predicate `Looked` of Safety holds of it. -/
namespace Sys2Proof.Machine

/-- No job of the list starts: each one that is due is completed in place. -/
theorem startOldest_none (l : Lane) (inPlace : Job → Option Result) (js : List Job)
    (h : ∀ k ∈ js, k.lane = some l → k.status = .waiting → k.result = none → (inPlace k).isSome = true) :
    startOldest l inPlace js =
      (js.map (fun k => if k.lane = some l ∧ k.status = .waiting ∧ k.result = none then { k with result := inPlace k } else k),
        false) := by
  induction js with
  | nil => rfl
  | cons j js ih =>
    have ih' := ih (fun k hk => h k (List.mem_cons_of_mem _ hk))
    by_cases c : j.lane = some l ∧ j.status = .waiting ∧ j.result = none
    · obtain ⟨r, hr⟩ := Option.isSome_iff_exists.mp (h j List.mem_cons_self c.1 c.2.1 c.2.2)
      simp [startOldest, c, hr, ih']
    · simp [startOldest, if_neg c, ih']

/-- The first job that is due and not completed in place becomes RUNNING. -/
theorem startOldest_some (l : Lane) (inPlace : Job → Option Result) (before : List Job) (k : Job) (after : List Job)
    (h : ∀ m ∈ before, m.lane = some l → m.status = .waiting → m.result = none → (inPlace m).isSome = true)
    (hl : k.lane = some l) (hw : k.status = .waiting) (hr : k.result = none) (hp : inPlace k = none) :
    startOldest l inPlace (before ++ k :: after) =
      (before.map (fun k => if k.lane = some l ∧ k.status = .waiting ∧ k.result = none then { k with result := inPlace k } else k)
        ++ { k with status := .running } :: after, true) := by
  induction before with
  | nil => simp [startOldest, hl, hw, hr, hp]
  | cons j js ih =>
    have ih' := ih (fun m hm => h m (List.mem_cons_of_mem _ hm))
    by_cases c : j.lane = some l ∧ j.status = .waiting ∧ j.result = none
    · obtain ⟨r, hr⟩ := Option.isSome_iff_exists.mp (h j List.mem_cons_self c.1 c.2.1 c.2.2)
      simp [startOldest, c, hr, ih']
    · simp [startOldest, if_neg c, ih']

/-- A lane is busy exactly while one of its jobs is RUNNING. -/
theorem laneBusy_iff (s : State) (l : Lane) :
    s.laneBusy l = true ↔ ∃ k ∈ s.jobs, k.lane = some l ∧ k.status = .running := by
  simp [State.laneBusy, List.any_eq_true]

/-- What is looked at after the jobs that have been passed. -/
theorem startOldest_passed (l : Lane) (inPlace : Job → Option Result) (jobs : List Job) :
    ((∀ k ∈ jobs, k.lane = some l → k.status = .waiting → k.result = none → (inPlace k).isSome = true) →
      startOldest l inPlace jobs =
        (jobs.map (fun k => if k.lane = some l ∧ k.status = .waiting ∧ k.result = none then { k with result := inPlace k } else k),
          false)) ∧
    (∀ before k after, jobs = before ++ k :: after →
      (∀ m ∈ before, m.lane = some l → m.status = .waiting → m.result = none → (inPlace m).isSome = true) →
      ¬(k.lane = some l → k.status = .waiting → k.result = none → (inPlace k).isSome = true) →
      startOldest l inPlace jobs =
        (before.map (fun k => if k.lane = some l ∧ k.status = .waiting ∧ k.result = none then { k with result := inPlace k } else k)
          ++ { k with status := .running } :: after, true)) := by
  refine ⟨startOldest_none l inPlace jobs, ?_⟩
  intro before k after hj hb hk
  subst hj
  simp only [Classical.not_imp] at hk
  obtain ⟨h1, h2, h3, h4⟩ := hk
  exact startOldest_some l inPlace before k after hb h1 h2 h3 (by simpa using h4)

/-- A lane that is looked at, in terms of what completes in place (`inPlace`) and what keeps it closed. -/
theorem looked_of_startOldest (l : Lane) (s t : State) (inPlace : Job → Option Result)
    (hin : inPlace = fun k =>
      (match l with
        | .frame => if s.pictureWorkStopped then some JobOutcome.notRunning else none
        | .control => if s.halted.isSome = true ∧ kindOf k.kind ≠ some Kind.sense then some JobOutcome.rejected else none).map
        (fun o => plainResult o detailZero))
    (hclosed : (s.laneBusy l = true ∨ (l = .frame ∧ s.halted.isSome = true) ∨ (l = .control ∧ s.settling = true)) → t = s)
    (hopen : ¬(s.laneBusy l = true ∨ (l = .frame ∧ s.halted.isSome = true) ∨ (l = .control ∧ s.settling = true)) →
      t = { s with
        jobs := (startOldest l inPlace s.jobs).1
        frameRun := if l = .frame ∧ (startOldest l inPlace s.jobs).2 = true then .started else s.frameRun
        controlRun := if l = .control ∧ (startOldest l inPlace s.jobs).2 = true then .started else s.controlRun }) :
    Looked l s t := by
  rw [laneBusy_iff] at hclosed hopen
  obtain ⟨hn, hs⟩ := startOldest_passed l inPlace s.jobs
  refine ⟨fun h => ?_, fun h hp => ?_, fun h before k after hj hp hk => ?_⟩
  · rw [hclosed h]; exact ⟨rfl, rfl, rfl⟩
  · have e := hn (fun k hk a b d => by
      have := hp k hk a b d
      rw [hin]; cases l <;> simpa using this)
    rw [hopen h, e]
    subst hin
    exact ⟨rfl, by simp, by simp⟩
  · have e := hs before k after hj (fun m hm a b d => by
      have := hp m hm a b d
      rw [hin]; cases l <;> simpa using this) (fun g => hk (fun a b d => by
        have := g a b d
        rw [hin] at this; cases l <;> simpa using this))
    rw [hopen h, e]
    subst hin
    exact ⟨rfl, by simp, by simp⟩

/-- What a look does rests on the jobs, the two runs, HALTED and the power state alone. -/
theorem looked_congr {l : Lane} {s s' t t' : State} (h : Looked l s t) (hj : s'.jobs = s.jobs) (hf : s'.frameRun = s.frameRun)
    (hc : s'.controlRun = s.controlRun) (hh : s'.halted = s.halted) (hp : s'.power = s.power) (tj : t'.jobs = t.jobs)
    (tf : t'.frameRun = t.frameRun) (tc : t'.controlRun = t.controlRun) : Looked l s' t' := by
  unfold Looked State.pictureWorkStopped State.settling at h ⊢
  simp only [hj, hf, hc, hh, hp, tj, tf, tc]
  exact h

/-- Looking at the frame lane does what R158 says. -/
theorem looked_lookFrame (s : State) : Looked .frame s s.lookFrame := by
  refine looked_of_startOldest .frame s _
    (fun _ => if s.pictureWorkStopped then some (plainResult .notRunning detailZero) else none) ?_ ?_ ?_
  · funext k; cases s.pictureWorkStopped <;> rfl
  · intro h; simp at h; simp [State.lookFrame, h]
  · intro h; simp at h; simp [State.lookFrame, h]

/-- Looking at the control lane does what R158 says. -/
theorem looked_lookControl (s : State) : Looked .control s s.lookControl := by
  refine looked_of_startOldest .control s _
    (fun j => if s.halted.isSome && kindOf j.kind != some .sense then some (plainResult .rejected detailZero) else none) ?_ ?_ ?_
  · funext k; cases s.halted.isSome <;> cases h : (kindOf k.kind != some .sense) <;> simp_all
  · intro h; simp at h; simp [State.lookControl, h]
  · intro h; simp at h; simp [State.lookControl, h]

/-- Looking at a lane does what R158 says. -/
theorem looked_look (s : State) (l : Lane) : Looked l s (s.look (some l)) := by
  cases l
  · exact looked_lookFrame s
  · exact looked_lookControl s

end Sys2Proof.Machine
end

