-- ==== Sys2Proof/Laws/PerInstr.lean ====
section
/-! SUPPORT. What well-formedness says of each command, constructor by constructor: a block a command names lies at a multiple of 64
(R152), and a layer it names is one of at most 32 (R17). -/
namespace Sys2Proof.Laws.Shape

/-- The block address a command names. -/
def blockOf : Instr → Option Word
  | .progressWrite block _ => some block
  | .jobCompletion block => some block
  | .completionBusError block _ => some block
  | _ => none

/-- The layer a command names. -/
def layerOf : Instr → Option Nat
  | .surfaceBusError layer => some layer
  | .verifySurfaceBusError layer => some layer
  | _ => none

/-- A well-formed command names an aligned block and a layer of a table. -/
def Statement (i : Instr) : Prop :=
  i.wf = true → (∀ b, blockOf i = some b → b.toNat % 64 = 0) ∧ (∀ n, layerOf i = some n → n < 32)

theorem powerOnReset : Statement .powerOnReset :=
  fun _ => ⟨(fun _ h => nomatch h), (fun _ h => nomatch h)⟩
theorem softReset : Statement .softReset :=
  fun _ => ⟨(fun _ h => nomatch h), (fun _ h => nomatch h)⟩
theorem enableSet (startExternal : Bool) : Statement (.enableSet startExternal) :=
  fun _ => ⟨(fun _ h => nomatch h), (fun _ h => nomatch h)⟩
theorem enableClear (startExternal : Bool) : Statement (.enableClear startExternal) :=
  fun _ => ⟨(fun _ h => nomatch h), (fun _ h => nomatch h)⟩
theorem startExternalWrite (startExternal : Bool) : Statement (.startExternalWrite startExternal) :=
  fun _ => ⟨(fun _ h => nomatch h), (fun _ h => nomatch h)⟩
theorem attention : Statement .attention :=
  fun _ => ⟨(fun _ h => nomatch h), (fun _ h => nomatch h)⟩
theorem causeRead : Statement .causeRead :=
  fun _ => ⟨(fun _ h => nomatch h), (fun _ h => nomatch h)⟩
theorem causeEnableWrite (w : Word) : Statement (.causeEnableWrite w) :=
  fun _ => ⟨(fun _ h => nomatch h), (fun _ h => nomatch h)⟩
theorem scanPeriodWrite (w : Word) : Statement (.scanPeriodWrite w) :=
  fun _ => ⟨(fun _ h => nomatch h), (fun _ h => nomatch h)⟩
theorem registerWrite (r : RegName) (w : Word) : Statement (.registerWrite r w) :=
  fun _ => ⟨(fun _ h => nomatch h), (fun _ h => nomatch h)⟩
theorem scanTimerExpiry : Statement .scanTimerExpiry :=
  fun _ => ⟨(fun _ h => nomatch h), (fun _ h => nomatch h)⟩
theorem linkRead (link : Option Word) : Statement (.linkRead link) :=
  fun _ => ⟨(fun _ h => nomatch h), (fun _ h => nomatch h)⟩
theorem lockedExchange (word0 : Option Word) : Statement (.lockedExchange word0) :=
  fun _ => ⟨(fun _ h => nomatch h), (fun _ h => nomatch h)⟩
theorem takingRead (data : Option (Word × Vector Byte 32)) : Statement (.takingRead data) :=
  fun _ => ⟨(fun _ h => nomatch h), (fun _ h => nomatch h)⟩
theorem voidLimit : Statement .voidLimit :=
  fun _ => ⟨(fun _ h => nomatch h), (fun _ h => nomatch h)⟩
theorem progressWrite (block : Word) (ok : Bool) : Statement (.progressWrite block ok) :=
  fun h => ⟨(fun b hb => by cases hb; exact eq_of_beq h), fun _ h => nomatch h⟩
theorem jobCompletion (block : Word) : Statement (.jobCompletion block) :=
  fun h => ⟨(fun b hb => by cases hb; exact eq_of_beq h), fun _ h => nomatch h⟩
theorem completionBusError (block : Word) (failed : CompletionWrite) : Statement (.completionBusError block failed) :=
  fun h => ⟨(fun b hb => by cases hb; exact eq_of_beq h), fun _ h => nomatch h⟩
theorem scene : Statement .scene :=
  fun _ => ⟨(fun _ h => nomatch h), (fun _ h => nomatch h)⟩
theorem layerRecordRead (data : Option (Vector Byte 32)) : Statement (.layerRecordRead data) :=
  fun _ => ⟨(fun _ h => nomatch h), (fun _ h => nomatch h)⟩
theorem tileMap : Statement .tileMap :=
  fun _ => ⟨(fun _ h => nomatch h), (fun _ h => nomatch h)⟩
theorem tileMapEntryRead (data : Option (Vector Byte 16)) : Statement (.tileMapEntryRead data) :=
  fun _ => ⟨(fun _ h => nomatch h), (fun _ h => nomatch h)⟩
theorem lutLoad : Statement .lutLoad :=
  fun _ => ⟨(fun _ h => nomatch h), (fun _ h => nomatch h)⟩
theorem valuesWordRead (words : Option (List Half)) : Statement (.valuesWordRead words) :=
  fun _ => ⟨(fun _ h => nomatch h), (fun _ h => nomatch h)⟩
theorem verify : Statement .verify :=
  fun _ => ⟨(fun _ h => nomatch h), (fun _ h => nomatch h)⟩
theorem verifyRecomposition (image : MemImage) : Statement (.verifyRecomposition image) :=
  fun _ => ⟨(fun _ h => nomatch h), (fun _ h => nomatch h)⟩
theorem mismatchListWrite (ok : Bool) : Statement (.mismatchListWrite ok) :=
  fun _ => ⟨(fun _ h => nomatch h), (fun _ h => nomatch h)⟩
theorem policy : Statement .policy :=
  fun _ => ⟨(fun _ h => nomatch h), (fun _ h => nomatch h)⟩
theorem sense : Statement .sense :=
  fun _ => ⟨(fun _ h => nomatch h), (fun _ h => nomatch h)⟩
theorem senseRecordWrite (ok : Bool) : Statement (.senseRecordWrite ok) :=
  fun _ => ⟨(fun _ h => nomatch h), (fun _ h => nomatch h)⟩
theorem recover : Statement .recover :=
  fun _ => ⟨(fun _ h => nomatch h), (fun _ h => nomatch h)⟩
theorem linkTest : Statement .linkTest :=
  fun _ => ⟨(fun _ h => nomatch h), (fun _ h => nomatch h)⟩
theorem withdraw : Statement .withdraw :=
  fun _ => ⟨(fun _ h => nomatch h), (fun _ h => nomatch h)⟩
theorem reference : Statement .reference :=
  fun _ => ⟨(fun _ h => nomatch h), (fun _ h => nomatch h)⟩
theorem power : Statement .power :=
  fun _ => ⟨(fun _ h => nomatch h), (fun _ h => nomatch h)⟩
theorem wakeSettleEnd : Statement .wakeSettleEnd :=
  fun _ => ⟨(fun _ h => nomatch h), (fun _ h => nomatch h)⟩
theorem compositionEnd (image : MemImage) (stored : Option (List Byte)) : Statement (.compositionEnd image stored) :=
  fun _ => ⟨(fun _ h => nomatch h), (fun _ h => nomatch h)⟩
theorem surfaceBusError (layer : Nat) : Statement (.surfaceBusError layer) :=
  fun h => ⟨(fun _ h => nomatch h), fun n hn => by cases hn; exact of_decide_eq_true h⟩
theorem transmitterFree (p : PortId) (readBack : Option (List Byte)) : Statement (.transmitterFree p readBack) :=
  fun _ => ⟨(fun _ h => nomatch h), (fun _ h => nomatch h)⟩
theorem receiveCheckFailure (p : PortId) (why : CheckFailure) : Statement (.receiveCheckFailure p why) :=
  fun _ => ⟨(fun _ h => nomatch h), (fun _ h => nomatch h)⟩
theorem beaconReceived (p : PortId) : Statement (.beaconReceived p) :=
  fun _ => ⟨(fun _ h => nomatch h), (fun _ h => nomatch h)⟩
theorem offerReceived (p : PortId) (offer : Option TileOffer) : Statement (.offerReceived p offer) :=
  fun _ => ⟨(fun _ h => nomatch h), (fun _ h => nomatch h)⟩
theorem trainReceived (p : PortId) (grade : Byte) (locked : Bool) (expected : Byte) : Statement (.trainReceived p grade locked expected) :=
  fun _ => ⟨(fun _ h => nomatch h), (fun _ h => nomatch h)⟩
theorem ackReceived (p : PortId) (number : Byte) : Statement (.ackReceived p number) :=
  fun _ => ⟨(fun _ h => nomatch h), (fun _ h => nomatch h)⟩
theorem nakReceived (p : PortId) (number : Byte) : Statement (.nakReceived p number) :=
  fun _ => ⟨(fun _ h => nomatch h), (fun _ h => nomatch h)⟩
theorem holdReceived (p : PortId) (quanta : Half) : Statement (.holdReceived p quanta) :=
  fun _ => ⟨(fun _ h => nomatch h), (fun _ h => nomatch h)⟩
theorem statusReceived (p : PortId) (status : TileStatus) : Statement (.statusReceived p status) :=
  fun _ => ⟨(fun _ h => nomatch h), (fun _ h => nomatch h)⟩
theorem flippedReceived (p : PortId) (epoch : Epoch) (frame : Word) : Statement (.flippedReceived p epoch frame) :=
  fun _ => ⟨(fun _ h => nomatch h), (fun _ h => nomatch h)⟩
theorem testEchoReceived (p : PortId) (number : Half) (flag : EchoFlag) (payload : List Byte) : Statement (.testEchoReceived p number flag payload) :=
  fun _ => ⟨(fun _ h => nomatch h), (fun _ h => nomatch h)⟩
theorem testResultReceived (p : PortId) (good bad : Half) : Statement (.testResultReceived p good bad) :=
  fun _ => ⟨(fun _ h => nomatch h), (fun _ h => nomatch h)⟩
theorem checkReportReceived (p : PortId) (epoch : Epoch) (crcs : List Word) : Statement (.checkReportReceived p epoch crcs) :=
  fun _ => ⟨(fun _ h => nomatch h), (fun _ h => nomatch h)⟩
theorem beaconTimer (p : PortId) : Statement (.beaconTimer p) :=
  fun _ => ⟨(fun _ h => nomatch h), (fun _ h => nomatch h)⟩
theorem offerRepeatTimer (p : PortId) : Statement (.offerRepeatTimer p) :=
  fun _ => ⟨(fun _ h => nomatch h), (fun _ h => nomatch h)⟩
theorem offerTimeout (p : PortId) : Statement (.offerTimeout p) :=
  fun _ => ⟨(fun _ h => nomatch h), (fun _ h => nomatch h)⟩
theorem trainTimeout (p : PortId) : Statement (.trainTimeout p) :=
  fun _ => ⟨(fun _ h => nomatch h), (fun _ h => nomatch h)⟩
theorem silence (p : PortId) : Statement (.silence p) :=
  fun _ => ⟨(fun _ h => nomatch h), (fun _ h => nomatch h)⟩
theorem ackTimeout (p : PortId) : Statement (.ackTimeout p) :=
  fun _ => ⟨(fun _ h => nomatch h), (fun _ h => nomatch h)⟩
theorem retryExhaustion (p : PortId) : Statement (.retryExhaustion p) :=
  fun _ => ⟨(fun _ h => nomatch h), (fun _ h => nomatch h)⟩
theorem tallySaturation (p : PortId) : Statement (.tallySaturation p) :=
  fun _ => ⟨(fun _ h => nomatch h), (fun _ h => nomatch h)⟩
theorem holdExpiry (p : PortId) : Statement (.holdExpiry p) :=
  fun _ => ⟨(fun _ h => nomatch h), (fun _ h => nomatch h)⟩
theorem echoTimeout (p : PortId) : Statement (.echoTimeout p) :=
  fun _ => ⟨(fun _ h => nomatch h), (fun _ h => nomatch h)⟩
theorem resultTimeout (p : PortId) : Statement (.resultTimeout p) :=
  fun _ => ⟨(fun _ h => nomatch h), (fun _ h => nomatch h)⟩
theorem stabilityReached (p : PortId) : Statement (.stabilityReached p) :=
  fun _ => ⟨(fun _ h => nomatch h), (fun _ h => nomatch h)⟩
theorem frameStart : Statement .frameStart :=
  fun _ => ⟨(fun _ h => nomatch h), (fun _ h => nomatch h)⟩
theorem syncInPulse : Statement .syncInPulse :=
  fun _ => ⟨(fun _ h => nomatch h), (fun _ h => nomatch h)⟩
theorem lossDeclared : Statement .lossDeclared :=
  fun _ => ⟨(fun _ h => nomatch h), (fun _ h => nomatch h)⟩
theorem lockPulse : Statement .lockPulse :=
  fun _ => ⟨(fun _ h => nomatch h), (fun _ h => nomatch h)⟩
theorem lockTimerExpiry : Statement .lockTimerExpiry :=
  fun _ => ⟨(fun _ h => nomatch h), (fun _ h => nomatch h)⟩
theorem deadlineExpiry : Statement .deadlineExpiry :=
  fun _ => ⟨(fun _ h => nomatch h), (fun _ h => nomatch h)⟩
theorem confirmationLimit (t : TileId) : Statement (.confirmationLimit t) :=
  fun _ => ⟨(fun _ h => nomatch h), (fun _ h => nomatch h)⟩
theorem verifySurfaceBusError (layer : Nat) : Statement (.verifySurfaceBusError layer) :=
  fun h => ⟨(fun _ h => nomatch h), fun n hn => by cases hn; exact of_decide_eq_true h⟩

end Sys2Proof.Laws.Shape
end

