-- ==== Sys2Proof/Laws/Sense.lean ====
section
/-! SUPPORT. The lengths of the parts of a sense record, and where its chunks stand (R169, R186). -/
namespace Sys2Proof.Machine

/-- A little-endian field of `k` bytes is `k` bytes long. -/
@[simp] theorem leBytes_length (k n : Nat) : (leBytes k n).length = k := by
  induction k generalizing n with
  | zero => rfl
  | succ k ih => simp [leBytes, ih]

/-- A record shorter than its length by `k` bytes is filled with `k` bytes of 0. -/
theorem fixLength_of_length {bs : List Byte} {n k : Nat} (h : bs.length + k = n) : fixLength n bs = bs ++ zeros k := by
  simp only [fixLength, zeros, List.take_append, ← h]
  simp

@[simp] theorem Port.senseBytes_length (x : Port) : x.senseBytes.length = 12 := by
  simp [Port.senseBytes, le1, le2, Indications.byte]

@[simp] theorem Counters.bytes_length (c : Counters) : c.bytes.length = 28 := by simp [Counters.bytes, le4]

/-- The first chunk of the record is the header. -/
@[simp] theorem State.senseRecord_header (s : State) : s.senseRecord[0]? = some s.senseHeader := rfl

/-- Chunk n + 1 of the record is the record of tile n. -/
@[simp] theorem State.senseRecord_tile (s : State) (i : TileId) : s.senseRecord[i.val + 1]? = some (s.senseTile i) := by
  fin_cases i <;> rfl

end Sys2Proof.Machine
end

