-- ==== Sys2Proof/Tests/Slice0.lean ====
section
/-! SUPPORT. The model's own tests: ill-formed commands, packets and register writes spelt out in bits, a few steps on small states,
and for every statement a state and operands that meet its hypotheses, clause by clause. -/
namespace Sys2Proof.Tests
set_option Elab.async false
open Sys2Proof.Machine

/-! ## Well-formedness: one ill-formed command for each check -/

theorem test_wf_register : (Instr.registerWrite .control 0).wf = false ∧ (Instr.registerWrite .chainBase 0).wf = true := by
  decide +kernel
theorem test_wf_progress_block : (Instr.progressWrite 0x1001 true).wf = false ∧ (Instr.progressWrite 0x1040 true).wf = true := by
  decide +kernel
theorem test_wf_completion_block : (Instr.jobCompletion 0x1020).wf = false := by decide +kernel
theorem test_wf_completion_error_block : (Instr.completionBusError 0x1020 .done).wf = false := by decide +kernel
theorem test_wf_values : (Instr.valuesWordRead (some [])).wf = false ∧
    (Instr.valuesWordRead (some (List.replicate 257 0))).wf = false ∧
    (Instr.valuesWordRead (some (List.replicate 256 0))).wf = true := by decide +kernel
theorem test_wf_image_order : (Instr.compositionEnd [(5, 0), (5, 1)] none).wf = false ∧
    (Instr.verifyRecomposition [(5, 0), (4, 1)]).wf = false := by decide +kernel
theorem test_wf_image_space : (Instr.compositionEnd [(4294967296, 0)] none).wf = false ∧
    (Instr.compositionEnd [(4294967295, 0)] none).wf = true := by decide +kernel
theorem test_wf_layer : (Instr.surfaceBusError 32).wf = false ∧ (Instr.surfaceBusError 31).wf = true ∧
    (Instr.verifySurfaceBusError 32).wf = false := by decide +kernel
theorem test_wf_failed_type : (Instr.receiveCheckFailure 0 (.type 0x83)).wf = false ∧
    (Instr.receiveCheckFailure 0 (.type 0x01)).wf = true := by decide +kernel
theorem test_wf_failed_length : (Instr.receiveCheckFailure 0 (.length 0x82)).wf = false ∧
    (Instr.receiveCheckFailure 0 (.length 0x83)).wf = true := by decide +kernel
theorem test_wf_echo : (Instr.testEchoReceived 0 1 .good []).wf = false ∧ (Instr.testEchoReceived 0 1 .bad [0]).wf = false ∧
    (Instr.testEchoReceived 0 1 .bad []).wf = true := by decide +kernel
theorem test_wf_report : (Instr.checkReportReceived 0 1 []).wf = false ∧
    (Instr.checkReportReceived 0 1 (List.replicate 129 0)).wf = false ∧
    (Instr.checkReportReceived 0 1 (List.replicate 128 0)).wf = true := by decide +kernel

/-! ## Bits: packets and register writes -/

/-- A tile packet with its check word. -/
def framed (body : List Byte) : List Byte := body ++ le4 (crc32 body).toNat

/-- The CRC-32 of the nine characters 1–9. -/
theorem test_crc : crc32 [0x31, 0x32, 0x33, 0x34, 0x35, 0x36, 0x37, 0x38, 0x39] = 0xCBF43926 := by decide +kernel
theorem test_ack_bits : decodePacket 3 (framed [0x90, 0, 1, 0, 0, 0, 0x2A]) = .ackReceived 3 0x2A := by decide +kernel
theorem test_nak_bits : decodePacket 3 (framed [0x91, 0, 1, 0, 0, 0, 0x2A]) = .nakReceived 3 0x2A := by decide +kernel
theorem test_hold_bits : decodePacket 0 (framed [0x92, 0, 2, 0, 0, 0, 0x34, 0x12]) = .holdReceived 0 0x1234 := by decide +kernel
theorem test_train_bits : decodePacket 0 (framed [0x83, 0, 8, 0, 0, 0, 4, 1, 9, 0, 0, 0, 0, 0]) = .trainReceived 0 4 true 9 := by
  decide +kernel
theorem test_beacon_bits : decodePacket 0 (framed [0x81, 0, 1, 0, 0, 0, 5]) = .beaconReceived 0 := by decide +kernel
theorem test_flipped_bits : decodePacket 0 (framed [0x94, 0, 12, 0, 0, 0, 7, 0, 0, 0, 0, 0, 0, 0, 2, 1, 0, 0]) =
    .flippedReceived 0 7 0x102 := by decide +kernel
theorem test_result_bits : decodePacket 0 (framed [0x96, 0, 4, 0, 0, 0, 1, 0, 2, 0]) = .testResultReceived 0 1 2 := by
  decide +kernel
theorem test_damaged_bits : decodePacket 0 [0x90, 0, 1, 0, 0, 0, 0x2A, 0, 0, 0, 0] = .receiveCheckFailure 0 (.crc 0x90) := by
  decide +kernel
theorem test_unknown_bits : decodePacket 0 (framed [0x55, 0, 0, 0, 0, 0]) = .receiveCheckFailure 0 (.type 0x55) := by
  decide +kernel
theorem test_short_bits : decodePacket 0 (framed [0x90, 0, 2, 0, 0, 0, 1, 2]) = .receiveCheckFailure 0 (.length 0x90) ∧
    decodePacket 0 (framed [0x82, 0, 1, 0, 0, 0, 7]) = .offerReceived 0 none := by decide +kernel
theorem test_control_bits : decodeRegisterWrite false .control 1 = .enableSet false ∧
    decodeRegisterWrite false .control 3 = .enableSet true ∧ decodeRegisterWrite true .control 0 = .enableClear false ∧
    decodeRegisterWrite true .control 1 = .startExternalWrite false ∧ decodeRegisterWrite true .control 7 = .softReset := by
  decide +kernel
theorem test_sent_bits : (Packet.sync 0x01020304).bytes.take 10 = [4, 0, 4, 0, 0, 0, 4, 3, 2, 1] ∧
    (Packet.discard 9 0x0807060504030201).bytes.take 14 = [0x12, 9, 8, 0, 0, 0, 1, 2, 3, 4, 5, 6, 7, 8] := by decide +kernel
theorem test_no_table_word : decodeTableWord 8 0 = none := rfl

/-! ## Small states -/

/-- What a step answers, for tests; every command of this block answers a next state. -/
def after (o : Host.Outcome State Fault Refusal) : State :=
  match o with
  | .next t => t
  | .fault _ | .refused _ => .reset

/-- The command after a state. -/
def run (c : Instr) (s : State) : State := after (exec c s)

/-- Thirty-two parameter bytes, 0 but for those listed by block offset. -/
def params (l : List (Nat × Byte)) : Vector Byte 32 := l.foldl (fun v b => v.set! (b.1 - 16) b.2) (Vector.replicate 32 0)

/-- A listed job. -/
def job (addr : Word) (k : Kind) (st : Status) (l : List (Nat × Byte)) : Job :=
  { addr := addr, kind := k.code, flags := 1, tag := 7, params := params l, lane := some k.lane, status := st, writes := [],
    result := none }

/-- A job that has just been made RUNNING on a base state. -/
def started (s : State) (k : Kind) (l : List (Nat × Byte)) : State :=
  let s := { s with jobs := s.jobs ++ [job 0x1000 k .running l] }
  match k.lane with
  | .frame => { s with frameRun := .started }
  | .control => { s with controlRun := .started }

/-- A MAPPED tile of 64 × 64 pixels in two stripes, on port 0. -/
def wallTile : Tile :=
  { Tile.reset with geom := { mapping := .mapped, port := some 0, originX := 0, originY := 0, width := 64, height := 64,
                              stripe := some .s32, loss := .blank, bypass := false } }

/-- One MAPPED tile, its port OFF. -/
def wall : State := { (State.reset.setTile 0 wallTile) with composer := { Composer.reset with order := [0] } }

/-- The wall with its port, busy with a packet, in a link state and otherwise as given. -/
def linked (l : LinkState) (f : Port → Port) : State :=
  wall.setPort 0 (f { Port.reset with link := l, tx := some .sleepNotice, txTimer := some 20 })

/-- The wall UP. -/
def up : State := linked .up (fun x => { x with silenceTimer := some 5 })

/-- Another port field of the wall UP. -/
def upWith (f : Port → Port) : State := up.modPort 0 f

/-- A scene over tile 0, at a stage, with tile 0 as given. -/
def sceneOf (e : Epoch) (f : SceneRec → SceneRec) (s : State) : State :=
  let j := job 0x1000 .scene .running []
  { s with
    jobs := s.jobs ++ [j]
    frameRun := .scene (f (newScene j e 1))
    composer := { s.composer with active := some { epoch := e, background := { red := 1, green := 2, blue := 3 }, layers := [] } }
    epochCounter := e }

/-- The back store of tile 0 set. -/
def withBack (b : BackStore) (s : State) : State := s.modTile 0 (fun t => { t with back := b })

/-- The wall in a reference state with its timers at `n` ns and a switch. -/
def reference (st : RefState) (n : Nat) (w : Option Switch) : State :=
  { wall with ref := { Reference.reset with
      state := st
      source := if st = .extern ∨ st = .stalled then .extern else .intern
      frameTimer := if st = .intern then some n else none
      lossTimer := if st = .extern then some n else none
      switch := w
      lockTimer := if w = some { target := .extern, job := none } then some 9 else none } }

/-- A window of packets numbered 0, 1, none yet retried. -/
def window (ks : List Reliable) : List Outstanding :=
  ks.mapIdx (fun i k => { number := BitVec.ofNat 8 i, packet := k, retries := 0 })

/-- A pixel's worth of composed stripe. -/
def stripe (check : Word) : Stripe :=
  { id := { tile := 0, epoch := 5, number := 0, lines := 32 }, pixels := [1, 2, 3], check := check }

/-! ## One step each -/

theorem test_reset_intake : State.reset.intake.state = .off ∧ State.reset.readRegister .control = 0 := by decide +kernel
theorem test_enable_scans : (run (.enableSet false) State.reset).intake.pass = .link := by decide +kernel
theorem test_enable_start_up : (run (.enableSet true) State.reset).ref.switch = some { target := .extern, job := none } := by
  decide +kernel
theorem test_posted_block_is_taken :
    (run (.lockedExchange (some 0x00011001)) { State.reset with intake := { Intake.reset with
      state := .scanning, enable := true, pass := .exchange 0x1000 } }).bus.log = [{ addr := 0x1000, bytes := [4, 0x10, 1, 0] }] := by
  decide +kernel
theorem test_unknown_kind_is_invalid :
    (run (.takingRead (some (9, params []))) { State.reset with intake := { Intake.reset with
      state := .scanning, enable := true, pass := .taking 0x1000 0x00017704 } }).outcomeOf 0x1000 = some .invalid := by
  decide +kernel
theorem test_background_scene : (run .scene (started wall .scene [(12, 0)])).epochCounter = 1 := by decide +kernel
theorem test_scene_bad_count : (run .scene (started wall .scene [(20, 33)])).outcomeOf 0x1000 = some .invalid := by decide +kernel
theorem test_listen_beacons : ((run (.beaconTimer 0) (linked .listen (fun x =>
    { x with tx := none, beaconTimer := some 0 }))).port 0).tx = some (.beacon 0) := by decide +kernel
theorem test_silence_blanks : ((run (.silence 0) (up.modTile 0 (fun t => { t with front := 3 }))).tile 0).front = 0 := by
  decide +kernel
theorem test_flip_is_presented :
    (run (.flippedReceived 0 5 9) (withBack (.scheduled 5 9) (sceneOf 5 (fun r =>
      { r with stage := .flipScheduled, flipSet := 1, flipSent := 1, target := some 9 }) up))).outcomeOf 0x1000 = some .ok := by
  decide +kernel
theorem test_frame_number_rises : (run .frameStart State.reset).ref.frameNumber = 1 := by decide +kernel
theorem test_loss_stalls : (run .lossDeclared { reference .extern 30000000 none with
    policy := { Policy.default with failSafe := false } }).ref.state = .stalled := by decide +kernel
theorem test_halt_on_bad_buffer :
    (run (.transmitterFree 0 none) (upWith (fun x => { x with
      bufA := .ready (stripe 0), queue := [.stripe .first] }))).halted = some .bufferFault := by decide +kernel

/-! ## Hypotheses met: steps, resets, registers -/

theorem test_met_step : ({ State.reset with pending := [.attention] } : State).pending = .attention :: [] ∧
    State.reset.pending = [] ∧ State.reset.dueCommand = none ∧ (reference .intern 16667000 none).pending = [] ∧
    (reference .intern 16667000 none).dueCommand = some .frameStart := by decide +kernel

theorem test_met_frame : exec (.beaconTimer 0) .reset = .next .reset ∧
    (Instr.beaconTimer 0).movesIntake = false ∧ (Instr.beaconTimer 0).changesList = false ∧
    (Instr.beaconTimer 0).writesCauseEnable = false ∧ (Instr.beaconTimer 0).writesPolicy = false ∧
    (Instr.beaconTimer 0).movesReference = false ∧ (Instr.beaconTimer 0).usesBus = false ∧
    (Instr.beaconTimer 0).countsEpoch = false := ⟨rfl, by decide +kernel⟩

theorem test_met_soft_reset : up.power.state ≠ .sleep ∧ up.power.phase = .steady ∧ (reference .stalled 0 none).ref.state = .stalled ∧
    ({ up with power := { Power.reset with state := .sleep } } : State).settling = false ∧
    ({ up with power := { Power.reset with phase := .enteringSleep } } : State).power.phase = .enteringSleep ∧
    ({ up with power := { Power.reset with state := .sleep, phase := .settling .run } } : State).settling = true := by
  decide +kernel

/-- An intake state for the register tests. -/
def intake (st : IntakeState) (enable : Bool) (pass : PassStage) : State :=
  { State.reset with intake := { Intake.reset with state := st, enable := enable, pass := pass } }

theorem test_met_enable : (intake .off false .none).intake.enable = false ∧ (intake .scanning false .link).intake.state = .scanning ∧
    (intake .chainFault false .none).intake.enable = false ∧ (intake .idle true .none).intake.enable = true ∧
    (intake .full true .none).intake.state = .full := by decide +kernel

theorem test_met_attention : (intake .idle true .none).intake.state = .idle ∧ (intake .chainFault true .none).intake.enable = true ∧
    (intake .chainFault false .none).intake.enable = false := by decide +kernel

theorem test_met_scan : ({ (intake .idle true .none) with intake := { Intake.reset with
      state := .idle, enable := true, scanTimer := some 0 } } : State).intake.scanTimer.isSome = true ∧
    (intake .off false .none).intake.state ≠ .idle := by decide +kernel

/-- The intake with its anchor at 1000h, following a link, with a job listed at 2000h. -/
def linking (rescan : Bool) : State :=
  { State.reset with
    intake := { Intake.reset with state := .scanning, enable := true, pass := .link, anchor := some 0x1000, rescan := rescan }
    jobs := [job 0x2000 .power .waiting []] }

theorem test_met_link : (linking false).intake.pass = .link ∧ (linking false).intake.enable = true ∧
    (linking false).intake.anchor.isSome = true ∧ (linking false).intake.rescan = false ∧ (linking true).intake.rescan = true ∧
    (0x1020 : Word).toNat % 64 ≠ 0 ∧ (linking false).intake.anchor = some 0x1000 ∧
    ((linking false).findJob 0x2000).isSome = true ∧ (0x1040 : Word).toNat % 64 = 0 ∧
    (linking false).intake.anchor ≠ some 0x1040 ∧ (linking false).findJob 0x1040 = none ∧
    (intake .scanning true .link).intake.anchor = none := by decide +kernel

/-- A link read with ENABLE cleared meanwhile: a listed block and 0 end the pass in OFF, the anchor's own address is a chain fault. -/
theorem test_met_link_disabled :
    (let s : State := { linking false with intake := { (linking false).intake with enable := false } }
     s.intake.pass = .link ∧ (run (.linkRead (some 0x2000)) s).intake.state = .off ∧
       (run (.linkRead (some 0)) s).intake.state = .off ∧ (run (.linkRead (some 0x1000)) s).intake.state = .chainFault) := by
  decide +kernel

theorem test_met_pass_error : (linking false).intake.anchor.isSome = true ∧ (linking false).halted = none ∧
    (intake .scanning true (.exchange 0x1000)).intake.pass = .exchange 0x1000 ∧
    (intake .scanning true (.taking 0x1000 4)).intake.pass = .taking 0x1000 4 ∧
    (intake .scanning false (.exchange 0x1000)).intake.enable = false := by decide +kernel

theorem test_met_exchange : (intake .scanning true (.exchange 0x1000)).intake.pass = .exchange 0x1000 ∧
    (0x00011001 : Word) &&& 0xFF = 1 ∧ (2 : Word) &&& 0xFF = 2 ∧ (intake .scanning true (.exchange 0x1000)).intake.voidRun + 1 ≠ 256 ∧
    (intake .scanning true (.exchange 0x1000)).jobs.length < 8 ∧ (intake .scanning false (.exchange 0x1000)).intake.enable = false ∧
    ({ Intake.reset with voidRun := 255 } : Intake).voidRun + 1 = 256 ∧ (4 : Word) &&& 0xFF ≠ 1 ∧ (4 : Word) &&& 0xFF ≠ 2 := by
  decide +kernel

theorem test_met_taking : (intake .scanning true (.taking 0x1000 0x00011004)).intake.pass = .taking 0x1000 0x00011004 ∧
    (intake .scanning true (.taking 0x1000 0x00011004)).findJob 0x1000 = none ∧
    kindOf ((0x00011004 : Word) >>> 8 |>.setWidth 8) = some .scene ∧ kindOf ((0x00017704 : Word) >>> 8 |>.setWidth 8) = none ∧
    State.reset.halted = none ∧ State.reset.settling = false ∧ State.reset.pictureWorkStopped = false ∧ State.reset.jobs = [] ∧
    (intake .scanning false (.taking 0x1000 0x00011004)).intake.enable = false ∧
    ({ State.reset with halted := some .busFault } : State).halted.isSome = true ∧
    ({ State.reset with jobs := List.replicate 7 (job 0x2000 .power .waiting []) } : State).jobs.length + 1 = 8 := by decide +kernel

/-- The intake taking block 1000h beside one job of the list. -/
def takingBeside (j : Job) : State := { (intake .scanning true (.taking 0x1000 0)) with jobs := [j] }

/-- A job behind another of its lane; a SENSE while HALTED; a frame job in STANDBY. -/
theorem test_met_taking_lane :
    ((run (.takingRead (some (9, params []))) { (takingBeside (job 0x2000 .scene .running [])) with
      intake := (intake .scanning true (.taking 0x1000 0x00011104)).intake }).findJob 0x1000).map Job.writes =
        some [.filing, .progress .waiting] ∧
    ((run (.takingRead (some (9, params []))) { State.reset with
      halted := some .busFault
      intake := (intake .scanning true (.taking 0x1000 0x00012104)).intake }).running .control).map Job.addr = some 0x1000 ∧
    (run (.takingRead (some (9, params []))) { State.reset with
      power := { Power.reset with state := .standby }
      intake := (intake .scanning true (.taking 0x1000 0x00011004)).intake }).outcomeOf 0x1000 = some .notRunning := by
  decide +kernel

/-- A control job taken while its lane holds one job IN_FLIGHT starts; one taken while HALTED completes, listed WAITING. -/
theorem test_met_taking_in_flight :
    (let s := { (takingBeside (job 0x2000 .linkTest .inFlight [])) with
                intake := (intake .scanning true (.taking 0x1000 0x00012604)).intake }
     let take := Instr.takingRead (some (9, params []))
     (∀ j ∈ s.jobs, j.lane = some Lane.control → j.status = .inFlight) ∧
       kindOf ((0x00012604 : Word) >>> 8 |>.setWidth 8) = some .power ∧
       ((run take s).running .control).map Job.addr = some 0x1000 ∧ (run take s).controlRun = .started ∧
       ((run take { s with halted := some .busFault }).findJob 0x1000).map Job.status = some .waiting) := by decide +kernel

/-- A frame job running its scene, with one write waiting and a result at hand for another. -/
def written : State :=
  { (sceneOf 5 id up) with jobs := [{ job 0x1000 .scene .running [] with writes := [.filing, .progress .layersRead] },
      { job 0x2000 .policy .running [] with result := some (plainResult .ok detailZero) }] }

theorem test_met_progress : (written.findJob 0x1000).map Job.writes = some [.filing, .progress .layersRead] ∧
    written.halted = none ∧ (written.running .frame).map Job.addr = some 0x1000 ∧ written.frameRun ≠ .idle ∧
    ({ written with halted := some .busFault } : State).halted = some .busFault := by decide +kernel

/-- The same with a frame job WAITING. -/
def writtenWaiting : State := { written with jobs := written.jobs ++ [job 0x3000 .lutLoad .waiting []] }

theorem test_met_waiting_job : (writtenWaiting.jobs.map Job.addr).Nodup ∧ job 0x3000 .lutLoad .waiting [] ∈ writtenWaiting.jobs ∧
    (run (.progressWrite 0x1000 false) writtenWaiting).outcomeOf 0x3000 = some .rejected ∧
    (run (.progressWrite 0x1000 false) writtenWaiting).outcomeOf 0x1000 = some .aborted := by decide +kernel

theorem test_met_completion : ((written.findJob 0x2000).bind Job.result).isSome = true ∧
    (written.findJob 0x2000).map Job.writes = some [] ∧
    ({ (intake .full true .none) with jobs := List.replicate 8 (job 0x1000 .scene .waiting []) } : State).jobs.length = 8 := by
  decide +kernel

/-- A FULL intake, eight jobs listed, one result at hand. -/
def fullList : State :=
  { (intake .full true .none) with
    jobs := { job 0x1000 .power .running [] with result := some (plainResult .ok detailZero) } ::
      (List.range 7).map (fun n => job (BitVec.ofNat 32 (0x2000 + 64 * n)) .scene .waiting []) }

theorem test_met_full : fullList.intake.state = .full ∧ fullList.jobs.length = 8 ∧ fullList.intake.enable = true ∧
    ((fullList.findJob 0x1000).bind Job.result).isSome = true ∧
    (run (.jobCompletion 0x1000) fullList).intake.pass = .link := by decide +kernel

/-- A bus error in a completion from a FULL list: a new pass begins, and the frame jobs that wait have been completed. -/
theorem test_met_full_error :
    (let t := run (.completionBusError 0x1000 .detail) fullList
     fullList.halted = none ∧ (fullList.jobs.map Job.addr).Nodup ∧ t.intake.pass = .link ∧ t.jobs.length = 7 ∧
       t.bus.log.length = 3 ∧ t.outcomeOf 0x2000 = some .rejected ∧
       (run (.completionBusError 0x1000 .detail) { fullList with halted := some .bufferFault }).halted = some .bufferFault) := by
  decide +kernel

/-- Two jobs of each lane, the first of each completed and not yet written. -/
def twoLanes : State :=
  { up with jobs := [{ job 0x1000 .power .running [] with result := some (plainResult .ok detailZero) },
      { job 0x2000 .scene .running [] with result := some (plainResult .ok detailZero) },
      job 0x3000 .power .waiting [], job 0x4000 .scene .waiting []] }

/-- The lane of the entry that leaves is looked at, and the other is not; in STANDBY the frame job completes in its place; after a
bus error the control job is REJECTED. -/
theorem test_met_look :
    ((run (.jobCompletion 0x1000) twoLanes).running .control).map Job.addr = some 0x3000 ∧
    (run (.jobCompletion 0x1000) twoLanes).controlRun = .started ∧
    (run (.jobCompletion 0x1000) twoLanes).running .frame = none ∧
    ((run (.jobCompletion 0x2000) twoLanes).running .frame).map Job.addr = some 0x4000 ∧
    (run (.jobCompletion 0x2000) { twoLanes with power := { Power.reset with state := .standby } }).outcomeOf 0x4000 =
      some .notRunning ∧
    (run (.completionBusError 0x1000 .finished) twoLanes).outcomeOf 0x3000 = some .rejected := by decide +kernel

/-! ## Hypotheses met: frame jobs -/

/-- The job of a state that has just been started. -/
def startedJob (k : Kind) (l : List (Nat × Byte)) : Job := job 0x1000 k .running l

theorem test_met_scene : (started wall .scene []).startedFrame .scene = some (startedJob .scene []) ∧
    32 < (startedJob .scene [(20, 33)]).byte 20 ∧ (startedJob .scene [(20, 32)]).byte 20 = 32 ∧
    (startedJob .scene [(20, 32)]).word 16 = 0 ∧ (startedJob .scene [(20, 1), (16, 16)]).word 16 ≠ 0 ∧
    ((startedJob .scene [(20, 1), (16, 16)]).word 16).toNat % 32 ≠ 0 ∧
    ((startedJob .scene [(20, 1), (16, 32)]).word 16).toNat % 32 = 0 ∧
    (started wall .scene []).findJob 0x1000 = some (startedJob .scene []) := by decide +kernel

/-- A state reading the records of a list for its frame job. -/
def reading (run : FrameRun) (k : Kind) (l : List (Nat × Byte)) : State := { started wall k l with frameRun := run }

/-- The bytes of a FILL record over the first pixel. -/
def fillRecord : Vector Byte 32 := ((Vector.replicate 32 0).set! 0 2 |>.set! 1 1 |>.set! 8 1 |>.set! 10 1)

theorem test_met_layers : (reading (.layers []) .scene [(20, 1)]).running .frame = some (startedJob .scene [(20, 1)]) ∧
    (startedJob .scene [(20, 2)]).byte 20 = 2 ∧ layersFault 0 [decodeLayer fillRecord.toList] = none ∧
    (layersFault 0 [decodeLayer (Vector.replicate 32 (0 : Byte)).toList]).isSome = true := by decide +kernel

/-- The sixth check of a SURFACE record, which a FILL record of the same fields passes. -/
theorem test_met_layer_checks : (decodeLayer ((fillRecord.set! 0 1).set! 2 0).toList).fault = some .badLayer ∧
    (reading (.layers []) .scene [(20, 1), (16, 32)]).listRead = some { address := 32, length := 32 } := by decide +kernel

theorem test_met_layers_read : State.reset.targets 0 = 0 ∧ wall.targets 0 = 1 ∧ wall.epochCounter ≠ BitVec.allOnes 64 ∧
    ({ wall with epochCounter := BitVec.allOnes 64 } : State).targets 0 ≠ 0 ∧ (wall.port 0).link ≠ .lost ∧
    (started wall .scene []).startedFrame .scene = some (startedJob .scene []) ∧ (startedJob .scene []).byte 20 = 0 := by
  decide +kernel

/-- The wall with the scene's one tile LOST, its record still holding scene 4. -/
def staleWall : State :=
  { withBack (.loading 4 1) (linked .lost (fun x => { x with lostCause := some .mismatch })) with epochCounter := 4 }

theorem test_met_layers_read_lost :
    (reading (.layers []) .scene [(20, 1)]).running .frame = some (startedJob .scene [(20, 1)]) ∧
    layersFault 0 [decodeLayer fillRecord.toList] = none ∧ staleWall.targetsIn 1 .lost = 1 ∧
    (run .scene (started staleWall .scene [])).outcomeOf 0x1000 = some .tileLost ∧
    ((run .scene (started staleWall .scene [])).port 0).hasDiscard 4 = true ∧
    (run .scene (started staleWall .scene [])).epochCounter = 5 ∧
    ((run (.layerRecordRead (some fillRecord)) (reading (.layers []) .scene [(20, 1)])).composer.active.map LayerTable.layers) =
      some [decodeLayer fillRecord.toList] := by decide +kernel

/-- A scene of two tiles, the second one LOST, that goes on without it. -/
def twoTiles : State :=
  ((wall.setTile 1 { wallTile with geom := { wallTile.geom with port := some 1, originX := 64 } }).setPort 1
    { Port.reset with link := .lost, lostCause := some .mismatch, tx := some .sleepNotice })

theorem test_met_layers_read_part : twoTiles.targetsIn 3 .lost = 2 ∧ (3 : Mask) &&& ~~~2 ≠ 0 ∧ (startedJob .scene []).bit 21 0 = false ∧
    (run .scene (started twoTiles .scene [])).scene =
      some { newScene (startedJob .scene []) 1 3 with dropped := 2, lastDrop := some .lost } ∧
    (run .scene (started twoTiles .scene [(21, 1)])).outcomeOf 0x1000 = some .tileLost := by decide +kernel

theorem test_met_tile_map : (started wall .tileMap [(20, 1)]).startedFrame .tileMap = some (startedJob .tileMap [(20, 1)]) ∧
    (startedJob .tileMap []).byte 20 < 1 ∧ 12 < (startedJob .tileMap [(20, 13)]).byte 20 ∧
    (startedJob .tileMap [(20, 12)]).byte 20 ≤ 12 ∧ (startedJob .tileMap [(20, 1)]).word 16 = 0 ∧
    ((startedJob .tileMap [(20, 1), (16, 8)]).word 16).toNat % 16 ≠ 0 ∧
    ((startedJob .tileMap [(20, 1), (16, 16)]).word 16).toNat % 16 = 0 ∧
    (startedJob .tileMap [(20, 1), (16, 16)]).word 16 ≠ 0 := by decide +kernel

/-- The bytes of an entry for tile 0 on port 0, 64 × 128 pixels. -/
def entryBytes : Vector Byte 16 := ((Vector.replicate 16 0).set! 8 64 |>.set! 10 128)

theorem test_met_entries : (reading (.entries []) .tileMap [(20, 1)]).running .frame = some (startedJob .tileMap [(20, 1)]) ∧
    (startedJob .tileMap [(20, 2)]).byte 20 = 2 ∧ entriesFault [] [decodeEntry entryBytes.toList] = none ∧
    (entriesFault [] [decodeEntry (Vector.replicate 16 (0 : Byte)).toList]).isSome = true ∧
    (entriesFault [] [decodeEntry entryBytes.toList, decodeEntry entryBytes.toList]).isSome = true ∧
    (wall.restartMask [decodeEntry entryBytes.toList]).getLsbD 0 = true ∧
    (wall.restartMask [decodeEntry entryBytes.toList]).getLsbD 1 = false := by decide +kernel

theorem test_met_entries_result : (reading (.entries []) .tileMap [(20, 1)]).findJob 0x1000 = some (startedJob .tileMap [(20, 1)]) ∧
    (reading (.entries []) .tileMap [(20, 1), (16, 16)]).listRead = some { address := 16, length := 16 } ∧
    (∀ p : PortId, ((reading (.entries []) .tileMap [(20, 1)]).port p).test = none) ∧
    ((run (.tileMapEntryRead (some entryBytes)) (reading (.entries []) .tileMap [(20, 1)])).findJob 0x1000).bind Job.result =
      some (plainResult .ok (detailMasks 1 1 0)) ∧
    (decodeEntry entryBytes.toList).inRange = true ∧ (decodeEntry entryBytes.toList).collision (decodeEntry entryBytes.toList) =
      some .duplicate := by decide +kernel

theorem test_met_lut : (started wall .lutLoad []).startedFrame .lutLoad = some (startedJob .lutLoad []) ∧
    3 < (startedJob .lutLoad [(18, 4)]).byte 18 ∧ (startedJob .lutLoad [(18, 3)]).byte 18 ≤ 3 ∧
    (startedJob .lutLoad []).half 20 = 0 ∧ 256 < (startedJob .lutLoad [(20, 1), (21, 1)]).half 20 ∧
    (startedJob .lutLoad [(21, 1)]).half 20 = 256 ∧ 256 < (startedJob .lutLoad [(19, 1), (21, 1)]).byte 19 +
      (startedJob .lutLoad [(19, 1), (21, 1)]).half 20 ∧ (startedJob .lutLoad [(21, 1)]).word 24 = 0 ∧
    ((startedJob .lutLoad [(21, 1), (24, 1)]).word 24).toNat % 2 ≠ 0 ∧
    ((startedJob .lutLoad [(21, 1), (24, 2)]).word 24).toNat % 2 = 0 ∧ (startedJob .lutLoad [(24, 2)]).word 24 ≠ 0 ∧
    State.reset.targets 0 = 0 ∧ wall.targets 0 ≠ 0 := by decide +kernel

/-- A LUT_LOAD of two values for tile 0. -/
def lut : LutRec := { newLut (startedJob .lutLoad [(20, 2)]) 1 1 with values := [5] }

theorem test_met_values : lut.values.length + ([] : List Half).length < lut.count ∧ lut.values.length + [(0x7FF : Half)].length = lut.count ∧
    maskOf (fun i => Mask.has lut.targets i && up.tableReady i) ≠ 0 ∧ (up.tile 0).geom.port = some 0 ∧
    (∀ k : TileId, k ≠ 0 → (up.tile k).geom.port ≠ some 0) := by decide +kernel

/-- No target ready: the wall OFF. -/
theorem test_met_values_none : maskOf (fun i => Mask.has lut.targets i && wall.tableReady i) = 0 ∧
    (run (.valuesWordRead (some [6])) (reading (.values lut) .lutLoad [(20, 2), (24, 2)])).outcomeOf 0x1000 = some .tileLost ∧
    (reading (.values lut) .lutLoad [(20, 2), (24, 2)]).listRead = some { address := 4, length := 2 } := by decide +kernel

/-- The wall UP showing scene 5, its picture known from a one-colour table. -/
def showing : State :=
  { (up.modTile 0 (fun t => { t with front := 5 })) with
    presented := 5, epochCounter := 5
    composer := { Composer.reset with
      order := [0], shown := some { epoch := 5, background := { red := 1, green := 2, blue := 3 }, layers := [] } } }

theorem test_met_verify : (started showing .verify []).startedFrame .verify = some (startedJob .verify []) ∧
    (startedJob .verify []).word 20 = 0 ∧ ((startedJob .verify [(20, 2)]).word 20).toNat % 4 ≠ 0 ∧
    ((startedJob .verify [(20, 4)]).word 20).toNat % 4 = 0 ∧ State.reset.targets 0 = 0 ∧ showing.targets 0 ≠ 0 ∧
    showing.composer.shown.isSome = true ∧ maskOf (fun i => Mask.has (showing.targets 0) i && showing.checkReady i) ≠ 0 := by
  decide +kernel

/-- The shown table EMPTY, and no target ready: TILE_LOST at once. -/
theorem test_met_verify_none :
    (let s := started up .verify [(20, 4)]
     s.composer.shown = none ∧ s.targets 0 = 1 ∧ maskOf (fun i => Mask.has (s.targets 0) i && s.checkReady i) = 0 ∧
       (run .verify s).outcomeOf 0x1000 = some .tileLost ∧ (run .verify s).frameRun = .idle) := by decide +kernel

/-- A VERIFY comparing a report of tile 0. -/
def verifying (crcs : List Word) (stripe : Nat) (found : List (TileId × Nat)) (outstanding : Mask) : VerifyRec :=
  { serial := 1, list := 0x4000, table := showing.composer.shown, targets := 3, outstanding := outstanding,
    reports := [{ tile := 0, crcs := crcs }], stripe := stripe, checked := 0, unchecked := 0, mismatches := found, flags := .clear }

/-- The same, being recomposed into the first buffer of port 0. -/
def recomposing (r : VerifyRec) : State :=
  { (showing.modPort 0 (fun x => { x with bufA := .composing { tile := 0, epoch := 5, number := r.stripe, lines := 32 } })) with
    jobs := [startedJob .verify []], frameRun := .verify r
    composer := { showing.composer with engine := .verify 0 0 .first } }

theorem test_met_recomposition : ((recomposing (verifying [1, 2] 0 [] 0)).port 0).buf .first ≠ .free ∧
    (verifying [1, 2] 0 [] 0).stripe + 1 < [(1 : Word), 2].length ∧ [(1 : Word), 2].length ≤ (verifying [1, 2] 1 [] 0).stripe + 1 ∧
    (verifying [1, 2] 1 [] 2).outstanding ≠ 0 ∧ (verifying [1, 2] 1 [(0, 0)] 0).outstanding = 0 ∧
    (verifying [1, 2] 1 [(0, 0)] 0).mismatches ≠ [] ∧ (verifying [1, 2] 1 [] 0).table.isSome = true := by decide +kernel

/-- The last clause of VerifyRecompositionCompares: the CRC reported is the one recomposed, and no mismatch was found. -/
theorem test_met_recomposition_clean (crc : Word) : (if [crc][0]? = some crc then ([] : List (TileId × Nat)) else [(0, 0)]) = [] :=
  if_pos rfl

/-- A VERIFY with 17 mismatches, writing its list. -/
def listing : VerifyRec := verifying [1, 2] 0 ((List.range 17).map (fun n => (0, n))) 0

theorem test_met_listing : (listing.sorted [0])[0]? = some (0, 0) ∧ 0 + 1 < min listing.mismatches.length 16 ∧
    (listing.sorted [0])[15]? = some (0, 15) ∧ min listing.mismatches.length 16 ≤ 15 + 1 := by decide +kernel

/-- The order of the list: the service order, and stripes within a tile. -/
theorem test_met_listing_order : ([3, 0] : List TileId).Nodup ∧
    (verifying [] 0 [(0, 1), (3, 5), (0, 0), (3, 2)] 0).sorted [3, 0] = [(3, 2), (3, 5), (0, 0), (0, 1)] := by decide +kernel

/-- The running scene of the wall, composing stripe 1 of tile 0. -/
def composing : State :=
  let s := sceneOf 5 (fun r => { r with stage := .delivering }) up
  { (s.modPort 0 (fun x => { x with bufA := .composing { tile := 0, epoch := 5, number := 1, lines := 32 } })) with
    composer := { s.composer with engine := .scene 0 0 .first } }

theorem test_met_composition : composing.composer.engine = .scene 0 0 .first ∧ composing.composer.active.isSome = true ∧
    (composing.port 0).buf .first = .composing { tile := 0, epoch := 5, number := 1, lines := 32 } ∧
    (composing.port 0).link ≠ .off := by decide +kernel

/-- The background alone, and the one covered pixel of a surface. -/
theorem test_met_pixel : wallTile.geom.stripe = some .s32 ∧
    (let e : LayerTable := { epoch := 5, background := { red := 0, green := 0, blue := 0 }
                             layers := [{ kind := some .surface, scale := 2, format := some .rgb565, keyPresent := true, destX := 0,
                                          destY := 0, srcWidth := 1, srcHeight := 1, srcX := 0, srcY := 0, width := 1, height := 1,
                                          address := 0x8000, stride := 4, colour := { red := 0, green := 0, blue := 0 } }] }
     e.colourAt (fun a => if a = 0x8001 then 0xF8 else 0) 1 1 = { red := 0xFF, green := 0, blue := 0 } ∧
       e.colourAt (fun _ => 0xFF) 2 0 = { red := 0, green := 0, blue := 0 }) := by decide +kernel

/-- A table with a one-pixel RGB888 surface at the origin. -/
def surfaceTable : LayerTable :=
  { epoch := 5, background := { red := 0, green := 0, blue := 0 }
    layers := [{ kind := some .surface, scale := 1, format := some .rgb888, keyPresent := false, destX := 0, destY := 0,
                 srcWidth := 1, srcHeight := 1, srcX := 0, srcY := 0, width := 1, height := 1, address := 0x8000, stride := 4,
                 colour := { red := 0, green := 0, blue := 0 } }] }

theorem test_met_surface_error : wall.readsLayer surfaceTable 0 0 0 = true ∧ composing.running .frame = composing.findJob 0x1000 ∧
    (composing.running .frame).isSome = true ∧
    (withBack (.loading 5 1) composing).scene.isSome = true ∧ ((withBack (.loading 5 1) composing).tile 0).back.holds 5 = true ∧
    (recomposing (verifying [1] 0 [] 0)).running .frame = some (startedJob .verify []) ∧
    (recomposing (verifying [1] 0 [] 0)).findJob 0x1000 = some (startedJob .verify []) := by decide +kernel

/-! ## Hypotheses met: control jobs -/

/-- The parameters of a POLICY with every field at a bound of its range: 15, 8, L4, 20 ms, 10 µs, 500 µs. -/
def policyParams : List (Nat × Byte) := [(16, 15), (17, 8), (18, 4), (20, 20), (22, 10), (24, 0xF4), (25, 1)]

/-- The port of the wall UP at a grade, its tile able to take every grade, a POLICY running. -/
def policed (l : List (Nat × Byte)) (link : LinkState) : State :=
  started (linked link (fun x => { x with identity := { abilities := 7, model := 0, width := 64, height := 64 } })) .policy l

theorem test_met_policy : (policed policyParams .up).startedControl .policy = some (startedJob .policy policyParams) ∧
    ¬(startedJob .policy [(16, 16)]).byte 16 ≤ 15 ∧ (startedJob .policy policyParams).byte 16 = 15 ∧
    (startedJob .policy [(17, 9)]).byte 17 = 9 ∧ (startedJob .policy policyParams).byte 17 = 8 ∧
    (startedJob .policy [(18, 3)]).byte 18 = 3 ∧ (startedJob .policy policyParams).byte 18 = 4 ∧
    (startedJob .policy [(20, 19)]).half 20 = 19 ∧ (startedJob .policy policyParams).half 20 = 20 ∧
    (startedJob .policy [(22, 9)]).half 22 = 9 ∧ (startedJob .policy policyParams).half 22 = 10 ∧
    (startedJob .policy [(24, 0xF3), (25, 1)]).half 24 = 499 ∧ (startedJob .policy policyParams).half 24 = 500 ∧
    (policed [(18, 2)] .up).ref.state ≠ .stalled ∧ (startedJob .policy [(18, 2)]).byte 18 < ((policed [(18, 2)] .up).port 0).grade.code ∧
    usableGrade ((policed [(18, 2)] .up).port 0).identity.abilities .l2 = some .l2 ∧
    ((policed [(18, 2)] .train).port 0).link = .train ∧ (startedJob .policy [(19, 1)]).bit 19 0 = true := by decide +kernel

theorem test_met_policy_result : ((policed policyParams .up).jobs.map Job.addr).Nodup ∧
    (∀ p : PortId, ((policed policyParams .up).port p).test = none) ∧
    ((run .policy (policed [(16, 15), (17, 8), (18, 1), (20, 20), (22, 10), (24, 0xF4), (25, 1)] .up)).findJob 0x1000).bind Job.result =
      some (plainResult .ok (detailPolicy 1 false)) := by decide +kernel

/-- The ceiling takes a port out of UP whose tile a VERIFY has outstanding. -/
theorem test_met_policy_verify :
    (let s := policed [(16, 15), (17, 8), (18, 1), (20, 20), (22, 10), (24, 0xF4), (25, 1)] .up
     (match (run .policy { s with frameRun := .verify (verifying [] 0 [] 1) }).frameRun with
      | .verify r => r.flags.retried
      | _ => false) = true) := by decide +kernel

theorem test_met_sense : (started up .sense []).startedControl .sense = some (startedJob .sense []) ∧
    (startedJob .sense []).word 16 = 0 ∧ ((startedJob .sense [(16, 32)]).word 16).toNat % 64 ≠ 0 ∧
    (startedJob .sense [(16, 64)]).word 16 ≠ 0 ∧ ((startedJob .sense [(16, 64)]).word 16).toNat % 64 = 0 ∧
    ((startedJob .sense [(16, 0xC0), (17, 0xFC), (18, 0xFF), (19, 0xFF)]).word 16).toNat = 0xFFFFFCC0 ∧
    0xFFFFFCC0 < ((startedJob .sense [(17, 0xFD), (18, 0xFF), (19, 0xFF)]).word 16).toNat ∧
    ((startedJob .sense [(17, 0xFD), (18, 0xFF), (19, 0xFF)]).word 16).toNat % 64 = 0 ∧
    ({ started up .sense [(16, 64)] with controlRun := .sense [[1], [2]] 11 0 0 } : State).running .control =
      some (startedJob .sense [(16, 64)]) := by decide +kernel

theorem test_met_recover : (started up .recover []).startedControl .recover = some (startedJob .recover []) ∧
    State.reset.targets 0 = 0 ∧ (started up .recover []).targets ((startedJob .recover []).mask 16) = 1 ∧ (up.tile 0).geom.port = some 0 ∧
    Mask.has 1 0 = true ∧ (up.port 0).link = .up ∧ (∀ i : TileId, Mask.has 1 i = true → (up.tile i).geom.port ≠ some 1) := by
  decide +kernel

theorem test_met_recover_result : ((started up .recover []).jobs.map Job.addr).Nodup ∧
    (∀ p : PortId, ((started up .recover []).port p).test = none) ∧
    ((run .recover (started up .recover [])).findJob 0x1000).bind Job.result = some (plainResult .ok (detailMasks 1 0 1)) := by
  decide +kernel

/-- The parameters of a LINK_TEST of tile 0: 128 bytes, one packet. -/
def testParams : List (Nat × Byte) := [(20, 128), (22, 1)]

theorem test_met_link_test : (started up .linkTest testParams).startedControl .linkTest = some (startedJob .linkTest testParams) ∧
    (started up .linkTest testParams).findJob 0x1000 = some (startedJob .linkTest testParams) ∧
    (startedJob .linkTest testParams).byte 16 ≤ 11 ∧ (startedJob .linkTest testParams).half 20 = 128 ∧
    (startedJob .linkTest [(21, 8)]).half 20 = 2048 ∧ (startedJob .linkTest [(16, 12)]).byte 16 = 12 ∧
    (startedJob .linkTest [(20, 128)]).half 22 = 0 ∧ (startedJob .linkTest testParams).half 22 ≠ 0 ∧
    (State.reset.tile 0).geom.mapping ≠ .mapped ∧ (up.tile 0).geom.mapping = .mapped ∧ (up.tile 0).geom.port = some 0 ∧
    (wall.port 0).link ≠ .up ∧ (up.port 0).test = none ∧ (up.port 0).link = .up ∧ (up.tile 0).back = .empty ∧
    up.deliveringTo 0 = false := by decide +kernel

/-- The job that waits behind a LINK_TEST starts when that is IN_FLIGHT. -/
theorem test_met_link_test_look :
    (let s := started up .linkTest testParams
     let t := run .linkTest { s with jobs := s.jobs ++ [job 0x2000 .power .waiting []] }
     (t.running .control).map Job.addr = some 0x2000 ∧ t.controlRun = .started) := by decide +kernel

/-- A WITHDRAW of block 2000h running beside a job there. -/
def withdrawing (s : State) (k : Job) : State :=
  started { s with jobs := [k] } .withdraw [(17, 0x20)]

theorem test_met_withdraw : (withdrawing up (job 0x2000 .scene .waiting [])).startedControl .withdraw =
      some (startedJob .withdraw [(17, 0x20)]) ∧
    (withdrawing up (job 0x2000 .scene .waiting [])).findJob 0x1000 = some (startedJob .withdraw [(17, 0x20)]) ∧
    ((startedJob .withdraw [(16, 32)]).word 16).toNat % 64 ≠ 0 ∧ (startedJob .withdraw [(17, 0x20)]).word 16 = 0x2000 ∧
    (0x2000 : Word).toNat % 64 = 0 ∧ (withdrawing up (job 0x3000 .scene .waiting [])).findJob 0x2000 = none ∧
    (withdrawing up (job 0x2000 .scene .waiting [])).findJob 0x2000 = some (job 0x2000 .scene .waiting []) ∧
    kindOf (job 0x2000 .withdraw .waiting []).kind = some .withdraw ∧ (job 0x2000 .scene .waiting []).result = none ∧
    kindOf (job 0x2000 .tileMap .running []).kind = some .tileMap ∧ (job 0x2000 .tileMap .running []).status = .running ∧
    kindOf (job 0x2000 .scene .running []).kind = some .scene := by decide +kernel

/-- A target whose result has been handed over: a TILE_MAP that has replaced the map, and another job. -/
theorem test_met_withdraw_handed :
    (run .withdraw (withdrawing up { job 0x2000 .tileMap .running [] with result := some (plainResult .ok detailZero) })).outcomeOf
      0x1000 = some .tooLate ∧
    (run .withdraw (withdrawing up { job 0x2000 .lutLoad .running [] with result := some (plainResult .ok detailZero) })).outcomeOf
      0x1000 = some .notFound := by decide +kernel

/-- A scene in block 2000h at a stage, with a WITHDRAW of it running. -/
def withdrawnScene (stage : Stage) : State :=
  { withdrawing (sceneOf 5 id up) (job 0x2000 .scene .running []) with
    frameRun := .scene { newScene (job 0x2000 .scene .running []) 5 1 with stage := stage } }

theorem test_met_withdraw_running : (withdrawnScene .armed).running .frame = some (job 0x2000 .scene .running []) ∧
    (withdrawnScene .armed).startedControl .withdraw = some (startedJob .withdraw [(17, 0x20)]) ∧
    (withdrawnScene .flipScheduled).scene.isSome = true ∧
    (withdrawing (reference .intern 0 (some { target := .extern, job := some 0x2000 })) (job 0x2000 .reference .inFlight [])).ref.switch =
      some { target := .extern, job := some (job 0x2000 .reference .inFlight []).addr } ∧
    (job 0x2000 .reference .inFlight []).status = .inFlight ∧ (job 0x2000 .linkTest .inFlight []).status = .inFlight := by
  decide +kernel

/-- A scene whose layers are being read. -/
theorem test_met_withdraw_layers :
    (let s : State := { (withdrawing up (job 0x2000 .scene .running [])) with frameRun := .layers [] }
     s.running .frame = some (job 0x2000 .scene .running []) ∧ (run .withdraw s).outcomeOf 0x2000 = some .withdrawn ∧
       (run .withdraw s).frameRun = .idle) := by decide +kernel

theorem test_met_reference : (started wall .reference []).startedControl .reference = some (startedJob .reference []) ∧
    wall.ref.lock = false ∧ (startedJob .reference [(16, 3)]).byte 16 = 3 ∧ (startedJob .reference [(16, 2)]).byte 16 = 2 ∧
    ((startedJob .reference [(20, 0x87), (21, 0x13)]).word 20).toNat = 4999 ∧
    ((startedJob .reference [(20, 0x88), (21, 0x13)]).word 20).toNat = 5000 ∧
    ((startedJob .reference [(20, 0x50), (21, 0xC3)]).word 20).toNat = 50000 ∧
    (startedJob .reference [(16, 1)]).byte 16 = wall.ref.source.code ∧ wall.ref.switch = none ∧ wall.power.state ≠ .sleep ∧
    ({ wall with ref := { Reference.reset with lock := true } } : State).ref.lock = true ∧
    ({ wall with power := { Power.reset with state := .sleep } } : State).power.state = .sleep := by decide +kernel

/-- A REFERENCE beside a switch to EXTERNAL that is pending for a job, or for the start-up. -/
def switching (w : Option Word) (l : List (Nat × Byte)) : State :=
  let s := reference .intern 0 (some { target := .extern, job := w })
  started { s with jobs := [job 0x2000 .reference .inFlight []] } .reference l

theorem test_met_reference_cancels : ((switching (some 0x2000) [(16, 1)]).jobs.map Job.addr).Nodup ∧
    (switching (some 0x2000) [(16, 1)]).ref.switch = some { target := .extern, job := some 0x2000 } ∧
    (run .reference (switching (some 0x2000) [(16, 1)])).outcomeOf 0x2000 = some .superseded ∧
    (run .reference (switching (some 0x2000) [(16, 1)])).causes.reference = false ∧
    (run .reference (switching none [(16, 1)])).causes.reference = true ∧
    (run .reference (switching none [(16, 2)])).causes.reference = true := by decide +kernel

theorem test_met_switch : ((started wall .reference [(16, 2)]).jobs.map Job.addr).Nodup ∧ wall.ref.source = .intern ∧
    (reference .extern 0 none).ref.source = .extern ∧ (reference .extern 0 none).ref.switch = none ∧
    (reference .stalled 0 none).ref.source = .extern ∧ (reference .stalled 0 none).ref.state = .stalled ∧
    ((startedJob .reference [(16, 2)]).word 20).toNat = 0 ∧
    ({ started (reference .intern 0 (some { target := .extern, job := some 0x2000 })) .reference [(16, 2)] with
      jobs := [job 0x2000 .reference .inFlight [], startedJob .reference [(16, 2)]] } : State).findJob 0x2000 =
        some (job 0x2000 .reference .inFlight []) := by decide +kernel

/-- A REFERENCE to INTERNAL with a period of 5000 µs beside a switch to INTERNAL that is pending, and a job that waits. -/
def switchingBack : State :=
  let s := reference .extern 0 (some { target := .intern, job := some 0x2000 })
  let s := started { s with jobs := [job 0x2000 .reference .inFlight []] } .reference [(16, 1), (20, 0x88), (21, 0x13)]
  { s with jobs := s.jobs ++ [job 0x3000 .power .waiting []] }

theorem test_met_switch_again :
    (let t := run .reference switchingBack
     (switchingBack.jobs.map Job.addr).Nodup ∧ switchingBack.ref.source = .extern ∧ switchingBack.ref.state = .extern ∧
       t.ref.switch = some { target := .intern, job := some 0x1000 } ∧ t.ref.period = 5000 ∧
       t.outcomeOf 0x2000 = some .superseded ∧ (t.findJob 0x1000).map Job.status = some .inFlight ∧
       (t.running .control).map Job.addr = some 0x3000) := by decide +kernel

/-- A switch to EXTERNAL with a period of 50000 µs: the lock timer runs for that one; and a stall left with it. -/
theorem test_met_switch_period :
    (run .reference (started wall .reference [(16, 2), (20, 0x50), (21, 0xC3)])).ref.lockTimer = some 3200000000 ∧
    (run .reference (started (reference .stalled 0 none) .reference [(16, 1), (20, 0x50), (21, 0xC3)])).ref.period = 50000 := by
  decide +kernel

theorem test_met_power : (started up .power [(16, 2)]).startedControl .power = some (startedJob .power [(16, 2)]) ∧
    ((started up .power [(16, 2)]).jobs.map Job.addr).Nodup ∧ (startedJob .power []).byte 16 = 0 ∧
    3 < (startedJob .power [(16, 4)]).byte 16 ∧ powerOf ((startedJob .power [(16, 1)]).byte 16) = some .run ∧ up.power.state = .run ∧
    (startedJob .power [(16, 2)]).byte 16 = 2 ∧ ({ up with power := { Power.reset with state := .standby } } : State).power.state = .standby ∧
    ({ up with power := { Power.reset with state := .sleep } } : State).power.state = .sleep ∧ powerOf 2 = some .standby := by
  decide +kernel

/-- A scene running and a frame job WAITING beside the POWER. -/
def powering (l : List (Nat × Byte)) : State :=
  let s := sceneOf 5 id up
  { (started s .power l) with jobs := [job 0x2000 .scene .running [], job 0x3000 .lutLoad .waiting [], startedJob .power l] }

theorem test_met_standby : (powering [(16, 2)]).running .frame = some (job 0x2000 .scene .running []) ∧
    ((powering [(16, 2)]).jobs.map Job.addr).Nodup ∧
    (run .power (powering [(16, 2)])).outcomeOf 0x2000 = some .aborted ∧
    (run .power (powering [(16, 2)])).outcomeOf 0x3000 = some .notRunning := by decide +kernel

/-- From STANDBY to RUN with a frame job listed and WAITING. -/
theorem test_met_run :
    (let s := started { up with power := { Power.reset with state := .standby } } .power [(16, 1)]
     let t := run .power { s with jobs := s.jobs ++ [job 0x2000 .scene .waiting []] }
     t.power.state = .run ∧ (t.running .frame).map Job.addr = some 0x2000 ∧ t.frameRun = .started) := by decide +kernel

theorem test_met_sleep : (started up .power [(16, 3)]).startedControl .power = some (startedJob .power [(16, 3)]) ∧
    (startedJob .power [(16, 3)]).byte 16 = 3 ∧ up.power.state ≠ .sleep ∧ (up.port 0).link = .up ∧ (up.port 1).link = .off ∧
    ((linked .lost id).port 0).link = .lost ∧ (∀ p : PortId, ((linked .train id).port p).link ≠ .up) := by decide +kernel

/-- SLEEP with no port UP, a stall left, and a LINK_TEST in flight. -/
theorem test_met_sleep_ends : (run .power (started wall .power [(16, 3)])).power.state = .sleep ∧
    ((run .power (started wall .power [(16, 3)])).findJob 0x1000).bind Job.result = some (plainResult .ok (detailPower .run .sleep)) ∧
    (run .power (started (reference .stalled 0 none) .power [(16, 3)])).causes.reference = true ∧
    (let s := upWith (fun x => { x with test := some { newTest (job 0x2000 .linkTest .inFlight []) 0 .alternating .echo with count := 1 } })
     (run .power (started { s with jobs := [job 0x2000 .linkTest .inFlight []] } .power [(16, 3)])).outcomeOf 0x2000 =
       some .aborted) := by decide +kernel

/-- A wake to STANDBY with its POWER running. -/
def settling : State :=
  { started wall .power [(16, 2)] with
    controlRun := .power, power := { Power.reset with state := .sleep, phase := .settling .standby, settleTimer := some 0 } }

theorem test_met_settle : settling.power.phase = .settling .standby ∧ (settling.port 0).link = .off ∧ settling.portMapped 0 = true ∧
    settling.portMapped 1 = false ∧ settling.controlRun = .power ∧
    settling.running .control = some (startedJob .power [(16, 2)]) ∧ (settling.jobs.map Job.addr).Nodup := by decide +kernel

/-- The control job that waited for the end of the settle starts once the POWER has been written. -/
theorem test_met_settle_look : settling.frameRun = .idle ∧
    (let s := { settling with controlRun := .idle, jobs := [job 0x2000 .policy .waiting []] }
     ((run .wakeSettleEnd s).running .control).map Job.addr = some 0x2000 ∧ (run .wakeSettleEnd s).controlRun = .started) := by
  decide +kernel

/-! ## Hypotheses met: links -/

theorem test_met_checks : ((linked .train id).port 0).link = .train ∧ ((linked .lost id).port 0).link = .lost ∧
    (State.reset.port 0).link = .off ∧ ((linked .offer id).port 0).link = .offer ∧ (up.port 0).link = .up := by decide +kernel

theorem test_met_beacons : ((linked .listen (fun x => { x with beaconTimer := some 0 })).port 0).beaconTimer.isSome = true ∧
    ((linked .offer (fun x => { x with offerRepeat := some 0, offerTimer := some 0 })).port 0).offerRepeat.isSome = true ∧
    ((linked .offer (fun x => { x with offerRepeat := some 0, offerTimer := some 0 })).port 0).offerTimer.isSome = true := by
  decide +kernel

/-- A tile OFFER of a size, able to take every grade. -/
def offerOf (w h : Half) (count : Byte) (seen : Bool) : TileOffer :=
  { abilities := 7, seen := seen, pendingTable := false, model := 1, width := w, height := h, front := 0, back := 0, count := count,
    activeGen := 0 }

/-- The wall in OFFER, an OFFER recorded and SEEN sent. -/
def offering : State := linked .offer (fun x => { x with offer := some (offerOf 64 64 0 false), seenSent := true })

theorem test_met_offers : (offering.port 0).link = .offer ∧ (offerOf 0 64 0 true).width = 0 ∧ 128 < (offerOf 64 64 129 true).count.toNat ∧
    (offerOf 64 64 128 true).count.toNat = 128 ∧ (offering.port 0).offer = some (offerOf 64 64 0 false) ∧
    offerOf 64 65 0 true ≠ { offerOf 64 64 0 false with seen := (offerOf 64 65 0 true).seen } ∧
    offerOf 64 64 0 true = { offerOf 64 64 0 false with seen := (offerOf 64 64 0 true).seen } ∧
    ((offering.port 0).tileSeen || (offerOf 64 64 0 false).seen) = false ∧
    ((offering.port 0).tileSeen || (offerOf 64 64 0 true).seen) = true ∧ (offering.port 0).seenSent = true ∧
    offering.tileOfPort 0 = some 0 ∧ (offering.tile 0).geom.width ≤ (offerOf 64 64 0 true).width.toNat ∧
    usableGrade 7 ((offering.port 0).offeredCeiling.lower offering.policy.ceiling) = some .l4 ∧ usableGrade 0 .l4 = none ∧
    ¬(offering.tile 0).geom.width ≤ (offerOf 63 64 0 true).width.toNat := by decide +kernel

/-- The wall in OFFER with tile 0 in the flip set of scene 5, its FLIP to be re-sent or not. -/
def relinking (b : BackStore) (queue : List Reliable) : State :=
  withBack b (sceneOf 5 (fun r => { r with participants := 3, stage := .flipScheduled, flipSet := 3, flipSent := 3, target := some 9 })
    (offering.modPort 0 (fun x => { x with queue := queue, offer := none })))

/-- A tile OFFER with SEEN that reports its stores. -/
def reporting (front back : Epoch) (count : Byte) : TileOffer := { offerOf 64 64 count true with front := front, back := back }

/-- The four rows of R65, and the table report. -/
theorem test_met_relinks :
    (run (.offerReceived 0 (some (reporting 5 0 0))) (relinking (.scheduled 5 9) [])).scene.map SceneRec.confirmed = some 1 ∧
    ((run (.offerReceived 0 (some (reporting 0 5 2))) (relinking (.scheduled 5 9) [.discard 4])).port 0).queue = [.flip 5 9 true] ∧
    ((run (.offerReceived 0 (some (reporting 0 5 2))) (relinking (.armed 5) [.flip 5 9 true])).port 0).queue = [.flip 5 9 true] ∧
    (run (.offerReceived 0 (some (reporting 0 5 1))) (relinking (.scheduled 5 9) [.flip 5 9 true])).scene.map SceneRec.unconfirmed =
      some 1 ∧
    ((run (.offerReceived 0 (some (reporting 0 5 1))) (relinking (.scheduled 5 9) [.flip 5 9 true])).port 0).queue = [.discard 5] ∧
    ((run (.offerReceived 0 (some { offerOf 64 64 0 true with activeGen := 1 }))
      (offering.modPort 0 (fun x => { x with offer := none }))).tile 0).stale = true := by decide +kernel

/-- A participant still being delivered to, and a tile outside any scene. -/
theorem test_met_resumes :
    (let s := withBack .empty (sceneOf 5 (fun r => { r with participants := 3, stage := .delivering })
        (offering.modPort 0 (fun x => { x with offer := none })))
     ((run (.offerReceived 0 (some (reporting 0 5 1))) s).tile 0).back = .loading 5 1 ∧
       (run (.offerReceived 0 (some (reporting 0 5 1))) s).scene.map (fun r => r.cursors[0]) = some 1 ∧
       ((run (.offerReceived 0 (some (reporting 0 4 1))) s).port 0).hasDiscard 4 = true) ∧
    ((run (.offerReceived 0 (some (reporting 0 4 1))) (offering.modPort 0 (fun x => { x with offer := none }))).tile 0).back =
      .loading 4 1 := by decide +kernel

/-- The wall in TRAIN with a lock count and attempts. -/
def training (count attempts : Nat) (g : Grade) : State :=
  linked .train (fun x => { x with lockCount := count, attempts := attempts, grade := g, trainTimer := some 0 })

theorem test_met_training : ((training 7 0 .l4).port 0).link = .train ∧ (4 : Byte).toNat = ((training 7 0 .l4).port 0).grade.code ∧
    ((training 7 0 .l4).port 0).lockCount + 1 = 8 ∧ ((training 0 0 .l4).port 0).lockCount + 1 ≠ 8 ∧
    ((training 0 2 .l4).port 0).attempts + 1 < (training 0 2 .l4).policy.downshift ∧
    (training 0 3 .l4).policy.downshift ≤ ((training 0 3 .l4).port 0).attempts + 1 ∧
    ((training 0 3 .l4).port 0).grade.down = some .l2 ∧ ((training 0 3 .l1).port 0).grade = .l1 ∧
    ((training 0 3 .l1).port 0).trainTimer.isSome = true ∧ ((upWith (fun x => { x with stability := 63 })).port 0).stability = 63 := by
  decide +kernel

/-- A step down while a scene, a LUT_LOAD reading or sending, or a VERIFY has the tile. -/
theorem test_met_downshift :
    (run (.trainTimeout 0) (sceneOf 5 id (training 0 3 .l4))).scene.map (fun r => r.flags.downshifted) = some true ∧
    (run (.trainTimeout 0) { (training 0 3 .l4) with frameRun := .values lut }).frameRun =
      .values { lut with flags := { lut.flags with downshifted := true } } ∧
    (run (.trainTimeout 0) { (training 0 3 .l4) with frameRun := .lut { lut with outstanding := 1 } }).frameRun =
      .lut { lut with outstanding := 1, flags := { lut.flags with downshifted := true } } := by decide +kernel

/-- An open run over a window of one DISCARD, the tally at 254. -/
def saturating : State :=
  upWith (fun x => { x with
    window := [{ number := 0, packet := .discard 5, retries := 15 }], run := [0], nextSeq := 1, tally := 254 })

theorem test_met_up_left : (up.port 0).link = .up ∧ (up.port 0).silenceTimer.isSome = true ∧
    (∃ o ∈ (saturating.port 0).window, saturating.policy.retryLimit ≤ o.retries) ∧
    (saturating.port 0).attempts + 1 < saturating.policy.downshift ∧ (saturating.port 0).run = [0] ∧
    (saturating.port 0).holdTimer = none ∧ (saturating.port 0).tally = 254 ∧
    (saturating.port 0).window.find? (fun k => k.number == 0) = some { number := 0, packet := .discard 5, retries := 15 } ∧
    (saturating.port 0).resendIntact { number := 0, packet := .discard 5, retries := 15 } none = true := by decide +kernel

/-- A TABLE or a CHECK in the window of the wall UP, its job running, and one tile more outstanding. -/
def owing (k : Reliable) (f : FrameRun) : State :=
  { (upWith (fun x => { x with window := [{ number := 0, packet := k, retries := 15 }], nextSeq := 1 })) with
    frameRun := f, jobs := [startedJob .lutLoad []] }

theorem test_met_up_left_jobs :
    (let load : TableLoad := { mode := .all, start := 0, values := [5] }
     let sent : LutRec := { lut with outstanding := 1 }
     let check : VerifyRec := verifying [1, 2] 0 [] 3
     ((run (.silence 0) (owing (.table load 1 false) (.lut sent))).port 0).queue = [] ∧
       (run (.silence 0) (owing (.table load 1 false) (.lut sent))).outcomeOf 0x1000 = some .tileLost ∧
       ((run (.silence 0) (owing (.table load 2 false) (.lut { sent with outstanding := 3 }))).port 0).queue = [.table load 2 true] ∧
       (run (.silence 0) (owing (.check 5 1 false) (.verify check))).frameRun =
         .verify { check with outstanding := 2, unchecked := 1 } ∧
       (run (.retryExhaustion 0) (owing (.check 5 1 false) (.verify check))).frameRun =
         .verify { check with flags := { check.flags with retried := true } }) := by decide +kernel

/-- The tile is outstanding and its CHECK is not in the window: acknowledged, or not yet sent. The port trains again, or steps down. -/
theorem test_met_up_left_check :
    (let check : VerifyRec := verifying [1, 2] 0 [] 3
     let s := owing (.discard 4) (.verify check)
     (run (.retryExhaustion 0) s).frameRun = .verify { check with flags := { check.flags with retried := true } } ∧
       (run (.retryExhaustion 0) (s.modPort 0 (fun x => { x with attempts := 3 }))).frameRun =
         .verify { check with flags := { check.flags with retried := true, downshifted := true } }) := by decide +kernel

/-- The DISCARD of the scene that loses a tile with its port. -/
theorem test_met_lost_discard :
    (let s := withBack (.loading 5 1) (sceneOf 5 (fun r => { r with stage := .delivering }) saturating)
     ((run (.tallySaturation 0) s).port 0).queue = [.discard 5] ∧ s.tileOfPort 0 = some 0) := by decide +kernel

/-- A TEST in flight on port 0 of `count` packets, one outstanding in ECHO. -/
def linkTest (mode : TestMode) (count : Nat) : LinkTest :=
  { newTest (job 0x2000 .linkTest .inFlight testParams) 0 .alternating mode with
    count := count, sent := 1, due := false
    outstanding := if mode = .echo then some 1 else none
    echoTimer := if mode = .echo then some 0 else none
    resultTimer := if mode = .sink then some 0 else none }

/-- The wall UP under test. -/
def testing (mode : TestMode) (count : Nat) : State :=
  { upWith (fun x => { x with test := some (linkTest mode count) }) with jobs := [job 0x2000 .linkTest .inFlight testParams] }

theorem test_met_transmitter : (up.port 0).tx = some .sleepNotice ∧
    ((upWith (fun x => { x with noticeDue := true })).port 0).noticeDue = true ∧
    ((upWith (fun x => { x with syncDue := some 9 })).port 0).syncDue = some 9 ∧ (up.port 0).mayStart = true ∧
    ((upWith (fun x => { x with queue := [.discard 5] })).port 0).queue = .discard 5 :: [] ∧
    (Port.buf { Port.reset with bufA := .ready (stripe (crc32 [1, 2, 3])) } .first) = .ready (stripe (crc32 [1, 2, 3])) ∧
    crc32 (stripe 0).pixels ≠ (stripe 0).check ∧ up.halted = none ∧ up.tileOfPort 0 = some 0 ∧
    ((withBack (.armed 5) up).tile 0).back.holds 5 = true ∧ (up.port 0).run = [] ∧ (up.port 0).queue = [] ∧ (up.port 0).test = none ∧
    ((saturating.port 0).resent { number := 0, packet := .discard 5, retries := 15 } none).isSome = true ∧
    ((linked .listen (fun x => { x with beaconDue := true })).port 0).beaconDue = true ∧
    ((linked .offer (fun x => { x with offersDue := 1 })).port 0).offersDue = 0 + 1 ∧ ((linked .train id).port 0).link = .train := by
  decide +kernel

/-- A TABLE and a CHECK at the head of the queue; a hold keeps them back, and not a TEST. -/
theorem test_met_heads :
    (let load : TableLoad := { mode := .all, start := 0, values := [5] }
     ((run (.transmitterFree 0 none) (upWith (fun x => { x with queue := [.table load 1 false] }))).port 0).tx = some (.table 0 load)) ∧
    ((run (.transmitterFree 0 none) (upWith (fun x => { x with queue := [.check 5 1 false] }))).port 0).tx = some (.check 0 5) ∧
    ((run (.transmitterFree 0 none) (upWith (fun x => { x with queue := [.check 5 1 false], holdTimer := some 9 }))).port 0).tx = none ∧
    (let test : LinkTest := { newTest (job 0x2000 .linkTest .inFlight []) 0 .alternating .sink with count := 2, due := true }
     ((run (.transmitterFree 0 none) (upWith (fun x => { x with
       queue := [.check 5 1 false], holdTimer := some 9, test := some test }))).port 0).tx = some test.packet) := by decide +kernel

/-- A port in OFFER, an OFFER due, that has heard the tile's SEEN: its own SEEN ends the exchange, in TRAIN or in LOST. -/
theorem test_met_seen_sent :
    (let x (w : Half) : Port :=
       { Port.reset with link := .offer, offersDue := 2, tileSeen := true, offer := some (offerOf w 64 0 true) }
     let busy (w : Half) := { x w with tx := some .sleepNotice }
     let t := run (.transmitterFree 0 none) (wall.setPort 0 (busy 64))
     (t.port 0).tx = some (.offer .l4 true 0) ∧ (t.port 0).link = .train ∧ (t.port 0).grade = .l4 ∧ (t.port 0).ctr.sent = 1 ∧
       (t.port 0).identity.model = 1 ∧
       ((run (.transmitterFree 0 none) (wall.setPort 0 (busy 63))).port 0).lostCause = some .mismatch ∧
       ((run (.transmitterFree 0 none) (wall.setPort 0 { busy 64 with offer := none })).port 0).link = .offer) := by decide +kernel

/-- The wall UP with a window of a STRIPE and a DISCARD. -/
def sending : State :=
  (withBack (.loading 5 0) (upWith (fun x => { x with
    bufA := .sent (stripe 0), window := window [.stripe .first, .discard 4], nextSeq := 2, ackTimer := some 0 })))

theorem test_met_acks : (sending.port 0).outstanding 0 = some 0 ∧ (sending.port 0).outstanding 1 = some 1 ∧
    (sending.port 0).outstanding 7 = none ∧ (sending.port 0).nextSeq = 2 ∧
    (sending.port 0).window =
      { number := 0, packet := .stripe .first, retries := 0 } :: (window [.stripe .first, .discard 4]).tail ∧
    (sending.port 0).buf .first = .sent (stripe 0) ∧ sending.tileOfPort 0 = some 0 ∧ (sending.port 0).answered ≠ some 1 ∧
    (∀ o ∈ (sending.port 0).window, o.retries < sending.policy.retryLimit) ∧ (sending.port 0).holdTimer = none ∧
    ((window [.discard 4]).head?).map Outstanding.packet = some (.discard 4) := by decide +kernel

/-- The last acknowledgement of a scene of one tile. -/
theorem test_met_arming :
    (let s := withBack (.loading 5 1) (sceneOf 5 (fun r => { r with stage := .delivering })
        (upWith (fun x => { x with bufA := .sent { stripe 0 with id := { tile := 0, epoch := 5, number := 1, lines := 32 } },
                                   window := window [.stripe .first], nextSeq := 1 })))
     let t := run (.ackReceived 0 0) s
     s.stripesOf 0 = 2 ∧ t.scene.map (fun r => (r.stage, r.flipSet, r.target)) = some (.armed, 1, some 2) ∧
       (t.port 0).queue = [.flip 5 2 false] ∧ (t.tile 0).back = .armed 5 ∧
       (t.findJob 0x1000).map Job.writes = some [.progress .armed]) := by decide +kernel

/-- The acknowledgement of a full load by the only target of its LUT_LOAD. -/
theorem test_met_table_ack :
    (let load : TableLoad := { mode := .all, start := 0, values := List.replicate 256 0 }
     let s := owing (.table load 1 false) (.lut { lut with outstanding := 1 })
     let t := run (.ackReceived 0 0) (s.modTile 0 (fun x => { x with stale := true }))
     (t.tile 0).pendingGen = some 1 ∧ (t.tile 0).stale = false ∧ t.frameRun = .idle ∧
       (t.findJob 0x1000).bind Job.result = some (plainResult .ok (detailMasks 1 0 1))) := by decide +kernel

theorem test_met_holds : (sending.port 0).ackRuns = true ∧ (∃ k ∈ (saturating.port 0).window, saturating.policy.retryLimit ≤ k.retries) ∧
    ((saturating.modPort 0 (fun x => { x with ackTimer := some 0 })).port 0).ackRuns = true ∧ (1 : Half) ≠ 0 ∧
    ((upWith (fun x => { x with holdTimer := some 0 })).port 0).holdTimer.isSome = true ∧ (up.port 0).holdTimer = none ∧
    (up.port 0).recorded = false ∧ ((sending.modPort 0 (fun x => { x with holdTimer := some 0, recorded := true })).port 0).recorded = true := by
  decide +kernel

/-- A run in which a packet has spent its retries, begun by a NAK or at a hold's end. -/
theorem test_met_spent :
    (saturating.port 0).outstanding 0 = some 0 ∧ (0 : Byte) ≠ (saturating.port 0).nextSeq ∧ (saturating.port 0).answered ≠ some 0 ∧
    ((run (.nakReceived 0 0) saturating).port 0).link = .train ∧ ((run (.nakReceived 0 0) saturating).port 0).ctr.retrains = 1 ∧
    (let s := saturating.modPort 0 (fun x => { x with run := [], recorded := true, holdTimer := some 0 })
     ((run (.holdExpiry 0) s).port 0).link = .train ∧ ((run (.holdExpiry 0) s).port 0).ctr.retrains = 1) := by decide +kernel

/-- Scene 5 awaiting the flip of tile 0. -/
def flipping : State :=
  withBack (.scheduled 5 9) (sceneOf 5 (fun r => { r with
    stage := .flipScheduled, flipSet := 1, flipSent := 1, target := some 9 }) up)

theorem test_met_flips : (flipping.port 0).link = .up ∧ flipping.tileOfPort 0 = some 0 ∧
    (flipping.tile 0).back.isScheduled 5 = true ∧ (up.tile 0).back.isScheduled 5 = false ∧
    (flipping.scene.map (fun r => r.awaits 5 0)) = some true ∧ (9 : Word) = 9 ∧
    (flipping.scene.map (fun r => r.flipSet &&& ~~~(r.confirmed ||| bitOf 0 ||| r.unconfirmed))) = some 0 ∧
    ((newScene (job 0x1000 .scene .running []) 5 3).participants &&& ~~~(bitOf 0) ≠ 0) ∧
    flipping.running .frame = some (job 0x1000 .scene .running []) ∧
    flipping.findJob 0x1000 = some (job 0x1000 .scene .running []) ∧ Stage.delivering? .flipScheduled = false := by decide +kernel

/-- A VERIFY waiting for the report of tile 0. -/
def awaiting (reports : List Report) : VerifyRec := { verifying [] 0 [] 1 with reports := reports }

theorem test_met_reports : ({ showing with frameRun := .verify (awaiting []) } : State).tileOfPort 0 = some 0 ∧
    Mask.has (awaiting []).outstanding 0 = true ∧ Mask.has (awaiting []).outstanding 1 = false ∧ (awaiting []).epoch = 5 ∧
    [(1 : Word), 2].length = showing.stripesOf 0 ∧ [(1 : Word)].length ≠ showing.stripesOf 0 ∧ (6 : Epoch) ≠ (awaiting []).epoch ∧
    (awaiting []).outstanding &&& ~~~(bitOf 0) = 0 ∧ (awaiting []).reports = [] ∧ (awaiting []).mismatches = [] ∧
    (awaiting [{ tile := 1, crcs := [] }]).reports ≠ [] := by decide +kernel

/-- A report that does not fit, with mismatches found before: the list is written. -/
theorem test_met_report_listing :
    (let r : VerifyRec := { awaiting [] with mismatches := [(1, 0)] }
     (run (.checkReportReceived 0 6 []) { showing with frameRun := .verify r }).frameRun =
       .listing { r with outstanding := 0, unchecked := 1 } 0) := by decide +kernel

theorem test_met_tests : ((testing .echo 2).port 0).test = some (linkTest .echo 2) ∧
    (testing .echo 2).findJob 0x2000 = some (job 0x2000 .linkTest .inFlight testParams) ∧ (linkTest .echo 2).job = 0x2000 ∧
    (linkTest .echo 2).outstanding = some (1 : Half).toNat ∧ (linkTest .echo 2).outstanding ≠ some (2 : Half).toNat ∧
    (linkTest .echo 2).echoTimer.isSome = true ∧ (linkTest .echo 2).good + 1 < (linkTest .echo 2).count ∧
    (linkTest .echo 1).count ≤ (linkTest .echo 1).good + 1 ∧ (linkTest .sink 1).mode = .sink ∧
    (linkTest .sink 1).resultTimer.isSome = true ∧ [] ≠ testPayload .alternating 128 1 := by decide +kernel

/-! ## Hypotheses met: frames and scenes -/

theorem test_met_frames : (reference .intern 0 none).ref.state = .intern ∧ (reference .stopped 0 none).ref.state = .stopped ∧
    (reference .extern 8333499 none).ref.lossTimer = some 8333499 ∧
    2 * 8333499 < (reference .extern 0 none).ref.frameLength * 1000 ∧
    (reference .extern 0 none).ref.frameLength * 1000 ≤ 2 * 8333500 ∧ (reference .extern 0 none).ref.switch = none ∧
    (reference .stalled 0 none).ref.state = .stalled ∧ (reference .extern 0 none).policy.failSafe = true ∧
    ({ Policy.default with failSafe := false } : Policy).failSafe = false := by decide +kernel

/-- The frame start that brings a port's stability to 64 clears its attempts, from the timer and at a pulse; none does so, and no
limit is reached, while no frame starts occur. -/
theorem test_met_stability :
    (let ready (st : RefState) : State :=
       { (upWith (fun x => { x with stability := 63, attempts := 2 })) with ref := (reference st 8333500 none).ref }
     let counts (s : State) := ((s.port 0).stability, (s.port 0).attempts)
     counts (run .frameStart (ready .intern)) = (64, 0) ∧ counts (run .syncInPulse (ready .extern)) = (64, 0) ∧
       counts (run .syncInPulse (ready .stalled)) = (64, 0) ∧ counts (run (.stabilityReached 0) (ready .extern)) = (64, 0) ∧
       counts (run .frameStart ((ready .intern).modPort 0 (fun x => { x with stability := 62 }))) = (63, 2) ∧
       counts (run .frameStart ((ready .intern).modPort 0 (fun x => { x with link := .train }))) = (63, 2) ∧
       run (.stabilityReached 0) (ready .stalled) = ready .stalled ∧ run (.stabilityReached 0) (ready .stopped) = ready .stopped) := by
  decide +kernel

/-- A switch to EXTERNAL, its last pulse `n` ns ago, its count at `k`. -/
def locking (n k : Nat) : State :=
  let s := reference .intern 0 (some { target := .extern, job := none })
  { s with ref := { s.ref with sincePulse := some n, lockCount := k } }

theorem test_met_switches : (locking 16667000 7).ref.switch = some { target := .extern, job := none } ∧
    (locking 16667000 7).ref.state = .intern ∧ 99 * (locking 0 0).ref.period * 1000 ≤ 100 * 16500330 ∧
    100 * 16833670 ≤ 101 * (locking 0 0).ref.period * 1000 ∧ (locking 16667000 7).ref.lockCount = 7 ∧
    ¬(99 * (locking 0 0).ref.period * 1000 ≤ 100 * 16500329) ∧ (locking 0 0).ref.lockTimer.isSome = true ∧
    (reference .extern 8333500 (some { target := .intern, job := some 0x1000 })).ref.lossTimer = some 8333500 ∧
    (job 0x1000 .reference .inFlight []).status = .inFlight := by decide +kernel

/-- A loss that completes a pending switch to INTERNAL. -/
theorem test_met_loss_completes :
    (let s := { (reference .extern 8333500 (some { target := .intern, job := some 0x1000 })) with
                jobs := [job 0x1000 .reference .inFlight []] }
     (run .lossDeclared s).outcomeOf 0x1000 = some .ok ∧ (run .lossDeclared s).ref.state = .intern ∧
       (run .lossDeclared s).causes.reference = true) := by decide +kernel

/-- Scene 5 delivering to two tiles, tile 0 as given and tile 1 with nothing, its deadline one frame away. -/
def deadline (b : BackStore) : State :=
  withBack b (sceneOf 5 (fun r => { r with participants := 3, stage := .delivering, deadline := 1 }) up)

theorem test_met_deadline : (deadline .empty).scene.isSome = true ∧ (deadline .empty).running .frame = (deadline .empty).findJob 0x1000 ∧
    ((deadline .empty).scene.map (fun r => (deadline .empty).armedMask r)) = some 0 ∧
    ((deadline (.armed 5)).scene.map (fun r => (deadline (.armed 5)).armedMask r)) = some 1 ∧
    ((deadline (.armed 5)).scene.map (fun r => r.participants &&& ~~~((1 : Mask) ||| r.dropped))) = some 2 ∧
    ((deadline .empty).scene.map (fun r => (r.stage.delivering?, r.deadline, r.requireAll))) = some (true, 1, false) := by
  decide +kernel

/-- The tiles that are ARMED at the deadline are armed, and FLIP is queued for them. -/
theorem test_met_deadline_arms :
    (let t := run .deadlineExpiry (deadline (.armed 5))
     (t.port 0).queue = [.flip 5 2 false] ∧ (t.findJob 0x1000).map Job.writes = some [.progress .armed] ∧
       t.scene.map (fun r => (r.stage, r.dropped)) = some (.armed, 2)) := by decide +kernel

/-- While no frame starts occur, DEADLINE_EXPIRY and CONFIRMATION_LIMIT change nothing. -/
theorem test_met_no_frames :
    (let stalled (s : State) : State := { s with ref := { s.ref with state := .stalled } }
     let late : State := withBack (.scheduled 5 9) (sceneOf 5 (fun r =>
       { r with stage := .flipScheduled, flipSet := 1, flipSent := 1, target := some 9 }) up)
     let at16 : State := { late with ref := { late.ref with frameNumber := 16 } }
     run .deadlineExpiry (stalled (deadline .empty)) = stalled (deadline .empty) ∧ at16.limitNext 0 = true ∧
       run (.confirmationLimit 0) (stalled at16) = stalled at16) := by decide +kernel

/-- A scene before ARMED of which nothing is flipped. -/
theorem test_met_scene_ok (b : BackStore) : (deadline b).sceneOk := by
  intro r hr _
  have e : r = { newScene (job 0x1000 .scene .running []) 5 1 with participants := 3, stage := .delivering, deadline := 1 } := by
    exact (Option.some.inj hr).symm
  subst e
  refine ⟨rfl, rfl, rfl, rfl, fun p => ?_⟩
  have hp : ∀ p : PortId, (up.port p).queue = [] ∧ (up.port p).window = [] := by decide +kernel
  obtain ⟨h1, h2⟩ := hp p
  refine ⟨fun k hk => ?_, fun o ho => ?_⟩
  · rw [show ((deadline b).port p).queue = (up.port p).queue from rfl, h1] at hk
    exact nomatch hk
  · rw [show ((deadline b).port p).window = (up.port p).window from rfl, h2] at ho
    exact nomatch ho

/-- A frame start counts the deadline, and one that brings it to 0 ends the scene or arms it for the frame after the next. -/
theorem test_met_frame_deadline :
    (run .frameStart (sceneOf 5 (fun r => { r with deadline := 2 }) up)).scene.map SceneRec.deadline = some 1 ∧
    (run .frameStart (deadline .empty)).outcomeOf 0x1000 = some .deadline ∧
    (let t := run .frameStart (deadline (.armed 5))
     (t.port 0).queue = [.flip 5 3 false] ∧ t.scene.map (fun r => (r.stage, r.dropped)) = some (.armed, 2)) := by decide +kernel

/-- Scene 5 with the flips of some tiles open at frame 17, one before the limit. -/
def limit (flipSet : Mask) (b : BackStore) : State :=
  { withBack b (sceneOf 5 (fun r => { r with stage := .flipScheduled, flipSet := flipSet, flipSent := flipSet, target := some 9 }) up) with
    ref := { Reference.reset with frameNumber := 16 } }

theorem test_met_limit : (limit 3 (.scheduled 5 9)).limitNext 0 = true ∧ (limit 1 (.armed 5)).limitNext 0 = true ∧
    ((limit 3 (.scheduled 5 9)).scene.map (fun r => (r.awaits 5 0, r.epoch))) = some (true, 5) ∧
    ((limit 3 (.scheduled 5 9)).scene.map (fun r => r.flipSet &&& ~~~(r.confirmed ||| (r.unconfirmed ||| bitOf 0)))) = some 2 ∧
    ((limit 1 (.armed 5)).scene.map (fun r => r.flipSet &&& ~~~(r.confirmed ||| (r.unconfirmed ||| bitOf 0)))) = some 0 ∧
    (limit 1 (.armed 5)).running .frame = (limit 1 (.armed 5)).findJob 0x1000 ∧
    ((limit 1 (.armed 5)).tile 0).back.isScheduled 5 = false ∧ ((limit 1 (.armed 5)).tile 0).geom.port = some 0 := by decide +kernel

/-- A frame start at the limit: one of two tiles unconfirmed; and the only tile, whose FLIP gives way to a DISCARD. -/
theorem test_met_frame_limit :
    (let s := limit 3 (.scheduled 5 9)
     let s := s.modScene (fun r => { r with target := some 12 })
     let t := run .frameStart s
     t.scene.map (fun r => (r.unconfirmed, r.lastUnconf)) = some (1, some .limit) ∧
     (let u := run .frameStart ((limit 1 (.armed 5)).modPort 0 (fun x => { x with queue := [.flip 5 9 false] }))
      (u.port 0).queue = [.discard 5] ∧ u.outcomeOf 0x1000 = some .deadline)) := by decide +kernel

/-- The tile at its limit was the last whose FLIP had not been sent: FLIP_SCHEDULED, and its write. -/
theorem test_met_frame_limit_sent :
    (let s := (limit 3 (.armed 5)).modPort 0 (fun x => { x with queue := [.flip 5 9 false] })
     let t := run .frameStart (s.modScene (fun r => { r with stage := .armed, flipSent := 2, target := some 12 }))
     t.scene.map (fun r => (r.stage, r.unconfirmed)) = some (.flipScheduled, 1) ∧
       (t.findJob 0x1000).map Job.writes = some [.progress .flipScheduled]) := by decide +kernel

/-- Scene 5 delivering to tile 0, nothing composed yet. -/
def granting : State := sceneOf 5 (fun r => { r with stage := .delivering }) up

theorem test_met_grant : granting.composer.engine = .free ∧ granting.mayCompose = true ∧ granting.composer.order[0]? = some 0 ∧
    (granting.scene.map (fun r => granting.eligible r 0)) = some (some (0, .first)) ∧
    ((withBack (.armed 5) granting).scene.map (fun r => (withBack (.armed 5) granting).eligible r 0)) = some none ∧
    composing.composer.engine ≠ .free ∧ composing.power.phase ≠ .enteringSleep ∧
    (∀ p : PortId, ({ State.reset with ports := Vector.replicate 12 { Port.reset with tx := some .sleepNotice } } : State).port p |>.tx.isSome) := by
  decide +kernel

/-- The grant of a VERIFY, and none without a FREE buffer. -/
theorem test_met_grant_verify :
    (let s := { showing with frameRun := .verify (verifying [1, 2] 1 [] 0) }
     s.composer.engine = .free ∧ s.mayCompose = true ∧ s.arbitrate.composer.engine = .verify 0 0 .first ∧
       (s.arbitrate.port 0).buf .first = .composing { tile := 0, epoch := 5, number := 1, lines := 32 } ∧
       (s.modPort 0 (fun x => { x with bufA := .sent (stripe 0), bufB := .sent (stripe 0) })).arbitrate.composer.engine = .free) := by
  decide +kernel

/-- Port 0 as given, idle, every other transmitter busy. -/
def idleAt (x : Port) : State :=
  { wall with ports := (Vector.replicate 12 { Port.reset with tx := some .sleepNotice }).set 0 x }

theorem test_met_idle : (∀ q : PortId, q ≠ 0 → ((idleAt Port.reset).port q).tx.isSome = true) ∧
    ((idleAt { Port.reset with link := .up, syncDue := some 4 }).settle.port 0).tx = some (.sync 4) ∧
    ((idleAt { Port.reset with link := .up, queue := [.discard 5] }).settle.port 0).tx = some (.discard 0 5) ∧
    ((idleAt { Port.reset with link := .up }).settle.port 0).tx = none ∧
    ((idleAt { Port.reset with link := .offer, offersDue := 1 }).settle.port 0).tx = some (.offer .l4 false 0) ∧
    (let ended := idleAt { Port.reset with link := .offer, offersDue := 1, tileSeen := true, offer := some (offerOf 64 64 0 true) }
     (ended.settle.port 0).tx = some (.offer .l4 true 0) ∧ (ended.settle.port 0).link = .train) := by decide +kernel

/-- A state that meets every invariant, and its step. -/
theorem test_met_kept : wall.listOk ∧ wall.intake.ok wall.jobs ∧ wall.oneRunning .frame ∧ wall.oneRunning .control ∧
    (∀ p : PortId, (wall.port p).ok) ∧ wall.epochsOk ∧ wall.sceneOk ∧ wall.policy.ok ∧ wall.ref.periodOk ∧ wall.pictureWorkOk ∧
    Steps wall wall.tick := by
  have hp : ∀ p : PortId, wall.port p = Port.reset := by decide +kernel
  have hb : ∀ t : TileId, (wall.tile t).back = .empty := by decide +kernel
  refine ⟨⟨by decide +kernel, by decide +kernel, trivial⟩, ?_, by unfold State.oneRunning; decide +kernel,
    by unfold State.oneRunning; decide +kernel, fun p => ?_,
    ⟨by decide +kernel, by decide +kernel, fun t => ?_, fun p => ?_, (fun _ h => nomatch h), (fun _ h => nomatch h),
      (fun _ h => nomatch h), (fun _ h => nomatch h)⟩, (fun _ h => nomatch h),
    by unfold Policy.ok; decide +kernel, by unfold Reference.periodOk; decide +kernel, fun _ => ⟨rfl, rfl⟩, ?_⟩
  · refine ⟨?_, ?_, ?_, ?_, ?_, ?_⟩ <;> decide +kernel
  · rw [hp p]
    refine ⟨?_, ?_, trivial, ?_, ?_, ?_, ?_, ?_⟩ <;> decide +kernel
  · rw [hb t]; trivial
  · rw [hp p]; exact ⟨(fun _ h => nomatch h), (fun _ h => nomatch h), fun b => by cases b <;> trivial⟩
  · have h : wall.dueCommand = none := by decide +kernel
    show step wall = _
    have e : step wall = wall.idleStep := rfl
    rw [e, State.idleStep, h]

end Sys2Proof.Tests
end

/-! SUPPORT. The parameter checks of a TILE_MAP (R7), and what completing the RUNNING frame job does to its entry (R160). -/
namespace Sys2Proof.Machine

/-! ## Entries of the Job List -/

/-- An update of one entry that keeps its address is seen at that address alone. -/
theorem State.findJob_modJob (s : State) (a b : Word) (f : Job → Job) (hf : ∀ j, (f j).addr = j.addr) :
    (s.modJob a f).findJob b = (s.findJob b).map (fun j => if j.addr = a then f j else j) := by
  have keepsAddr : (fun j : Job => j.addr == b) ∘ (fun j => if j.addr = a then f j else j) = fun j => j.addr == b := by
    funext j
    by_cases h : j.addr = a <;> simp [h, hf]
  simp only [State.findJob, State.modJob, List.find?_map, keepsAddr]

/-- A result handed to an entry without one stands there (R160). -/
theorem State.findJob_hand {s : State} {j : Job} (hfind : s.findJob j.addr = some j) (hnone : j.result = none) (r : Result) :
    (s.hand j.addr r).findJob j.addr = some { j with result := some r } := by
  have hhand : j.hand r = { j with result := some r } := by simp [Job.hand, hnone]
  rw [State.hand, State.findJob_modJob _ _ _ _ (fun k => Job.hand_addr k r), hfind]
  simp [hhand]

/-- The RUNNING job of a lane has no result yet. -/
theorem State.result_of_running {s : State} {l : Lane} {j : Job} (h : s.running l = some j) : j.result = none := by
  have hj := List.find?_some h
  simp only [Bool.and_eq_true, Option.isNone_iff_eq_none] at hj
  exact hj.2

/-! ## The RUNNING frame job -/

/-- A job that has just started is the RUNNING one of its lane. -/
theorem State.startedFrame_eq_some_iff (s : State) (k : Kind) (j : Job) :
    s.startedFrame k = some j ↔ s.running .frame = some j ∧ s.frameRun = .started ∧ kindOf j.kind = some k := by
  unfold State.startedFrame
  cases s.running .frame with
  | none => simp
  | some i =>
    simp only [Option.ite_none_right_eq_some, Option.some.injEq]
    constructor
    · rintro ⟨⟨hrun, hkind⟩, rfl⟩
      exact ⟨rfl, hrun, hkind⟩
    · rintro ⟨rfl, hrun, hkind⟩
      exact ⟨⟨hrun, hkind⟩, rfl⟩

@[simp] theorem State.completeFrame_frameRun (s : State) (r : Result) : (s.completeFrame r).frameRun = .idle := by
  unfold State.completeFrame
  split <;> rfl

/-- Completing the RUNNING frame job hands its entry the result (R160). -/
theorem State.findJob_completeFrame {s : State} {j : Job} (hrun : s.running .frame = some j) (hfind : s.findJob j.addr = some j)
    (r : Result) : (s.completeFrame r).findJob j.addr = some { j with result := some r } := by
  have hcomplete : s.completeFrame r = { s.hand j.addr r with frameRun := .idle } := by simp [State.completeFrame, hrun]
  rw [hcomplete]
  exact State.findJob_hand hfind (State.result_of_running hrun) r

theorem State.outcomeOf_completeFrame {s : State} {j : Job} (hrun : s.running .frame = some j)
    (hfind : s.findJob j.addr = some j) (r : Result) : (s.completeFrame r).outcomeOf j.addr = some r.outcome := by
  simp [State.outcomeOf, State.findJob_completeFrame hrun hfind]

/-! ## The checks of a TILE_MAP, in their order (R7) -/

theorem tileMapFault_badCount {j : Job} (hcount : j.byte 20 < 1 ∨ 12 < j.byte 20) : tileMapFault j = some .badCount :=
  if_pos hcount

/-- With an entry count in range, the address decides. -/
theorem tileMapFault_of_count {j : Job} (hlow : 1 ≤ j.byte 20) (hhigh : j.byte 20 ≤ 12) :
    tileMapFault j = if j.word 16 = 0 then some .badField else if (j.word 16).toNat % 16 ≠ 0 then some .badAlign else none :=
  if_neg (by omega)

/-- A TILE_MAP whose parameters fail completes INVALID; its list is not read. -/
theorem execTileMap_of_fault {s : State} {j : Job} {r : Reason} (hs : s.startedFrame .tileMap = some j)
    (hfault : tileMapFault j = some r) : exec .tileMap s = .next (s.completeFrame (invalidResult r none none)).settle := by
  simp only [exec, execTileMap, hs, hfault, State.settled]

/-- A TILE_MAP whose parameters pass goes on to its first entry. -/
theorem execTileMap_of_pass {s : State} {j : Job} (hs : s.startedFrame .tileMap = some j) (hpass : tileMapFault j = none) :
    exec .tileMap s = .next { s with frameRun := .entries [] } := by
  simp only [exec, execTileMap, hs, hpass]

/-- Settles O21: the first check that fails decides `tileMapFault`, and the outcome of the command is read off it. -/
theorem tileMapParametersAreChecked : Obligations.TileMapParametersAreChecked := by
  intro s j hs
  obtain ⟨hrun, -, -⟩ := (State.startedFrame_eq_some_iff s .tileMap j).mp hs
  refine ⟨fun hcount => ?badCount, fun hlow hhigh hzero => ?badField, fun hlow hhigh hzero halign => ?badAlign,
    fun hlow hhigh hzero halign => ?pass, fun r => ⟨?idle, fun hfind => ?invalid⟩⟩
  case badCount => exact execTileMap_of_fault hs (tileMapFault_badCount hcount)
  case badField => exact execTileMap_of_fault hs (by rw [tileMapFault_of_count hlow hhigh, if_pos hzero])
  case badAlign => exact execTileMap_of_fault hs (by rw [tileMapFault_of_count hlow hhigh, if_neg hzero, if_pos halign])
  case pass => exact execTileMap_of_pass hs (by rw [tileMapFault_of_count hlow hhigh, if_neg hzero, if_neg (not_not.mpr halign)])
  case idle => exact s.completeFrame_frameRun _
  case invalid => exact State.outcomeOf_completeFrame hrun hfind _

end Sys2Proof.Machine

/-! SUPPORT. The parameter checks of a SCENE (R17), and what completing the RUNNING frame job leaves as it was (R160). -/
namespace Sys2Proof.Machine

/-! ## What completing the frame job leaves as it was -/

@[simp] theorem State.completeFrame_epochCounter (s : State) (r : Result) :
    (s.completeFrame r).epochCounter = s.epochCounter := by
  unfold State.completeFrame
  split <;> rfl

@[simp] theorem State.completeFrame_composer (s : State) (r : Result) : (s.completeFrame r).composer = s.composer := by
  unfold State.completeFrame
  split <;> rfl

@[simp] theorem State.completeFrame_ports (s : State) (r : Result) : (s.completeFrame r).ports = s.ports := by
  unfold State.completeFrame
  split <;> rfl

/-- A completed frame job leaves no scene record behind (R54). -/
@[simp] theorem State.completeFrame_scene (s : State) (r : Result) : (s.completeFrame r).scene = none := by
  simp only [State.scene, State.completeFrame_frameRun]

/-! ## The checks of a SCENE, in their order (R17) -/

theorem sceneFault_badCount {j : Job} (hcount : 32 < j.byte 20) : sceneFault j = some .badCount :=
  if_pos hcount

/-- A background-only scene has no list: its address is not checked. -/
theorem sceneFault_of_no_layers {j : Job} (hcount : j.byte 20 = 0) : sceneFault j = none := by
  simp [sceneFault, hcount]

/-- With a layer count in range and not 0, the address decides. -/
theorem sceneFault_of_layers {j : Job} (hlow : 0 < j.byte 20) (hhigh : j.byte 20 ≤ 32) :
    sceneFault j = if j.word 16 = 0 then some .badField else if (j.word 16).toNat % 32 ≠ 0 then some .badAlign else none := by
  simp only [sceneFault, gt_iff_lt, hlow, true_and, if_neg (Nat.not_lt.mpr hhigh)]

/-- A SCENE whose parameters fail completes INVALID; neither its list nor its participants are looked at. -/
theorem execScene_of_fault {s : State} {j : Job} {r : Reason} (hs : s.startedFrame .scene = some j)
    (hfault : sceneFault j = some r) : exec .scene s = .next (s.completeFrame (invalidResult r none none)).settle := by
  simp only [exec, execScene, hs, hfault, State.settled]

/-- A SCENE with layers whose parameters pass goes on to its first layer record. -/
theorem execScene_of_layers {s : State} {j : Job} (hs : s.startedFrame .scene = some j) (hpass : sceneFault j = none)
    (hlayers : 0 < j.byte 20) : exec .scene s = .next { s with frameRun := .layers [] } := by
  simp only [exec, execScene, hs, hpass, if_neg hlayers.ne']

/-- A background-only SCENE goes on to its participants. -/
theorem execScene_of_no_layers {s : State} {j : Job} (hs : s.startedFrame .scene = some j) (hcount : j.byte 20 = 0) :
    exec .scene s = .next (s.fixParticipants j []).settle := by
  simp only [exec, execScene, hs, sceneFault_of_no_layers hcount, if_pos hcount, State.settled]

/-- Settles O18: the first check that fails decides `sceneFault`, the outcome of the command is read off it, and completing the
job touches neither the epoch counter, the composer nor a port. -/
theorem sceneParametersAreChecked : Obligations.SceneParametersAreChecked := by
  intro s j hs
  obtain ⟨hrun, -, -⟩ := (State.startedFrame_eq_some_iff s .scene j).mp hs
  refine ⟨fun hcount => ?badCount, fun hlow hhigh hzero => ?badField, fun hlow hhigh hzero halign => ?badAlign,
    fun hlow hhigh hzero halign => ?layers, fun hcount => ?noLayers,
    fun r => ⟨?epochCounter, ?composer, ?ports, ?scene, fun hfind => ?invalid⟩⟩
  case badCount => exact execScene_of_fault hs (sceneFault_badCount hcount)
  case badField => exact execScene_of_fault hs (by rw [sceneFault_of_layers hlow hhigh, if_pos hzero])
  case badAlign => exact execScene_of_fault hs (by rw [sceneFault_of_layers hlow hhigh, if_neg hzero, if_pos halign])
  case layers =>
    have hpass : sceneFault j = none := by
      rw [sceneFault_of_layers hlow hhigh, if_neg hzero, if_neg (not_not.mpr halign)]
    exact execScene_of_layers hs hpass hlow
  case noLayers => exact execScene_of_no_layers hs hcount
  case epochCounter => exact s.completeFrame_epochCounter _
  case composer => exact s.completeFrame_composer _
  case ports => exact s.completeFrame_ports _
  case scene => exact s.completeFrame_scene _
  case invalid => exact State.outcomeOf_completeFrame hrun hfind _

end Sys2Proof.Machine

/-! SUPPORT. The state after power-on reset and its registers (R165, R145), and the start-up switch that the first write of ENABLE
from 0 to 1 begins (R138). -/
namespace Sys2Proof.Machine

/-! ## After power-on reset -/

@[simp] theorem State.powerOn_intake (s : State) : s.powerOn.intake = .reset := rfl
@[simp] theorem State.powerOn_causes (s : State) : s.powerOn.causes = .clear := rfl
@[simp] theorem State.powerOn_causeEnable (s : State) : s.powerOn.causeEnable = .clear := rfl
@[simp] theorem State.powerOn_halted (s : State) : s.powerOn.halted = none := rfl
@[simp] theorem State.powerOn_jobs (s : State) : s.powerOn.jobs = [] := rfl
@[simp] theorem State.powerOn_ref (s : State) : s.powerOn.ref = .reset := rfl

/-! ## The registers as read -/

/-- IDENT is fixed: it reads the same in every state (R145). -/
theorem State.readRegister_ident_eq (s t : State) : s.readRegister .ident = t.readRegister .ident := rfl

theorem State.readRegister_control (s : State) : s.readRegister .control = s.controlWord := rfl
theorem State.readRegister_chainBase (s : State) : s.readRegister .chainBase = s.intake.chainBase := rfl
theorem State.readRegister_anchor (s : State) : s.readRegister .anchor = s.intake.anchor.getD 0 := rfl
theorem State.readRegister_cause (s : State) : s.readRegister .cause = s.causes.toWord := rfl
theorem State.readRegister_causeEnable (s : State) : s.readRegister .causeEnable = s.causeEnable.toWord := rfl
theorem State.readRegister_scanPeriod (s : State) : s.readRegister .scanPeriod = s.intake.scanPeriod.setWidth 32 := rfl

@[simp] theorem Causes.toWord_clear : Causes.clear.toWord = 0 := rfl

/-- CONTROL reads 0 with the intake as after power-on reset, HALTED clear and no job listed. -/
theorem State.controlWord_eq_zero {s : State} (hintake : s.intake = .reset) (hhalted : s.halted = none) (hjobs : s.jobs = []) :
    s.controlWord = 0 := by
  simp only [State.controlWord, hintake, hhalted, hjobs]
  rfl

/-! ## The first enable -/

/-- Beginning a pass leaves the Frame Reference as it was. -/
@[simp] theorem State.beginPass_ref (s : State) : s.beginPass.ref = s.ref := by
  unfold State.beginPass State.passStep
  split
  · rfl
  · split <;> rfl

/-- Of what an enable does, only the start-up concerns the Frame Reference. -/
theorem State.enable_ref (s : State) :
    s.enable.ref = ({ s with intake := { s.intake with enable := true } } : State).startUp.ref := by
  simp only [State.enable]
  split
  case h_1 => exact State.beginPass_ref _
  all_goals rfl

/-- The first enable with START_EXTERNAL 1 begins a switch to EXTERNAL that no job has asked for (R138). -/
theorem State.startUp_switch {s : State} (hdone : s.ref.startUpDone = false) (hexternal : s.intake.startExternal = true) :
    s.startUp.ref.switch = some { target := .extern, job := none } := by
  simp [State.startUp, hdone, hexternal, State.beginExternal]

/-- Whatever the intake state, the first write of ENABLE from 0 to 1 with START_EXTERNAL 1 begins the start-up switch. -/
theorem exec_enableSet_begins_startUpSwitch {s : State} (hoff : s.intake.enable = false) (hdone : s.ref.startUpDone = false) :
    ∃ u : State, exec (.enableSet true) s = .next u ∧ u.ref.switch = some { target := .extern, job := none } := by
  have henable : s.writeControl true true = (s.storeExternal true).enable := by
    simp [State.writeControl, State.storeExternal, hoff]
  refine ⟨s.writeControl true true, rfl, ?_⟩
  rw [henable, State.enable_ref]
  exact State.startUp_switch hdone rfl

/-- Settles O4: the fields and registers are read off the reset values, and since they have ENABLE and start-up done clear, the
next enable is the first one. -/
theorem powerOnResetSetsTheIntake : Obligations.PowerOnResetSetsTheIntake := by
  intro s
  refine ⟨s.powerOn, rfl, ?state, ?anchor, ?rescan, ?scanTimer, s.powerOn_jobs, s.powerOn_halted, State.readRegister_ident_eq _ _,
    ?enable, ?startExternal, ?control, ?chainBase, ?anchorRegister, ?cause, ?causeEnable, ?scanPeriod, ?startUpDone, ?firstEnable⟩
  case state | anchor | rescan | scanTimer | enable | startExternal => rw [State.powerOn_intake]; rfl
  case control =>
    exact State.controlWord_eq_zero s.powerOn_intake s.powerOn_halted s.powerOn_jobs
  case chainBase => rw [State.readRegister_chainBase, State.powerOn_intake]; rfl
  case anchorRegister => rw [State.readRegister_anchor, State.powerOn_intake]; rfl
  case cause => rw [State.readRegister_cause, State.powerOn_causes, Causes.toWord_clear]
  case causeEnable => rw [State.readRegister_causeEnable, State.powerOn_causeEnable, Causes.toWord_clear]
  case scanPeriod => rw [State.readRegister_scanPeriod, State.powerOn_intake]; rfl
  case startUpDone => rw [State.powerOn_ref]; rfl
  case firstEnable => exact exec_enableSet_begins_startUpSwitch (by rw [State.powerOn_intake]; rfl) (by rw [State.powerOn_ref]; rfl)

end Sys2Proof.Machine

/-! SUPPORT. The state after reset, field by field, and the invariants it meets; a state that meets the ranges and the stopped
picture work, from which the end of a wake's settle leads to one that does not. -/
namespace Sys2Proof.Machine

/-! ## One step -/

theorem step_of_pending {s : State} {c : Instr} {rest : List Instr} (h : s.pending = c :: rest) :
    step s = exec c { s with pending := rest } := by
  simp only [step, h]

theorem step_of_empty {s : State} (h : s.pending = []) : step s = s.idleStep := by
  simp only [step, h]

/-- Settles O1: a step matches on the queue alone. -/
theorem stepRunsTheFrontCommand : Obligations.StepRunsTheFrontCommand := fun _ _ _ h => step_of_pending h

/-- Settles O2: with an empty queue the step matches on the due command. -/
theorem emptyQueueStepIsTheDueCommandOrOneNanosecond : Obligations.EmptyQueueStepIsTheDueCommandOrOneNanosecond := by
  intro s hempty
  rw [step_of_empty hempty]
  exact ⟨fun c hc => by simp only [State.idleStep, hc], fun hn => by simp only [State.idleStep, hn]⟩

/-! ## After reset -/

@[simp] theorem State.reset_port (p : PortId) : State.reset.port p = .reset := by
  simp [State.port, State.reset]

@[simp] theorem State.reset_tile (i : TileId) : State.reset.tile i = .reset := by
  simp [State.tile, State.reset]

@[simp] theorem State.powerOn_port (s : State) (p : PortId) : s.powerOn.port p = .reset := State.reset_port p
@[simp] theorem State.powerOn_tile (s : State) (i : TileId) : s.powerOn.tile i = .reset := State.reset_tile i

/-- Settles O5: every record and port is the reset one, and the other fields are those of `State.reset`. -/
theorem powerOnResetSetsTheRecords : Obligations.PowerOnResetSetsTheRecords := by
  intro s
  refine ⟨s.powerOn, rfl, fun i => State.powerOn_tile s i, fun p => ?port, ?rest⟩
  case port => rw [State.powerOn_port]; simp [Port.reset]
  case rest => exact ⟨rfl, rfl, rfl, rfl, rfl, rfl, rfl, rfl, rfl, rfl, rfl, rfl, rfl, rfl, rfl, rfl, rfl⟩

theorem Port.reset_ok : Port.reset.ok := by
  simp [Port.ok, Port.reset, Port.numbersOk, Config.tallyLimit]

/-- Nothing names an epoch after reset. -/
theorem State.reset_epochsOk : State.reset.epochsOk := by
  refine ⟨BitVec.le_refl _, fun i => ?_, fun i => ?_, fun p => ?_, ?scene, ?active, ?shown, ?verify⟩
  case scene | active | shown | verify => intro x h; cases h
  · rw [State.reset_tile]; exact Or.inl rfl
  · rw [State.reset_tile]; exact True.intro
  · rw [State.reset_port]
    exact ⟨fun k h => absurd h List.not_mem_nil, fun o h => absurd h List.not_mem_nil, fun b => by cases b <;> exact True.intro⟩

theorem Policy.default_ok : Policy.default.ok := by simp [Policy.ok, Policy.default]

/-- Settles O60: the lists are empty, every port and record is the reset one, and the policy is the default. -/
theorem resetMeetsTheInvariants : Obligations.ResetMeetsTheInvariants := by
  refine ⟨?list, ?intake, Nat.zero_le _, Nat.zero_le _, fun p => ?ports, State.reset_epochsOk, ?scene,
    Policy.default_ok, ?period, fun _ => ⟨rfl, rfl⟩⟩
  case list => exact ⟨Nat.zero_le _, List.nodup_nil, True.intro⟩
  case intake => simp [Intake.ok, State.reset, Intake.reset]
  case ports => rw [State.reset_port]; exact Port.reset_ok
  case scene => intro r h; cases h
  case period => simp [Reference.periodOk, State.reset, Reference.reset]

/-! ## Picture work at the end of a settle -/

/-- A wake that settles towards STANDBY although the power state is RUN, with a frame job just started: picture work is not stopped
in this state. -/
def settlingInRun : State :=
  { State.reset with
    pending := [.wakeSettleEnd]
    frameRun := .started
    power := { state := .run, phase := .settling .standby, before := .run, settleTimer := none } }

/-- The end of the settle makes the power state STANDBY and leaves the frame job as it was. -/
theorem settlingInRun_steps :
    ∃ t : State, Steps settlingInRun t ∧ t.power.state = .standby ∧ t.frameRun = .started :=
  ⟨({ settlingInRun with pending := [] } : State).endSettle.settle, rfl, by decide +kernel, by decide +kernel⟩

/-- Refutes O59: the invariant does not tie a settle to SLEEP, so it holds of `settlingInRun`, and the end of that settle enters
STANDBY without ending the frame job. -/
theorem not_rangesAndStoppedWorkAreKept : ¬ Obligations.RangesAndStoppedWorkAreKept := by
  intro kept
  obtain ⟨t, hstep, hstandby, hstarted⟩ := settlingInRun_steps
  have hperiod : settlingInRun.ref.periodOk := by simp [settlingInRun, Reference.periodOk, State.reset, Reference.reset]
  have hwork : settlingInRun.pictureWorkOk := fun h => by rcases h with h | h <;> cases h
  obtain ⟨-, -, hstopped⟩ := kept settlingInRun t ⟨Policy.default_ok, hperiod, hwork⟩ hstep
  obtain ⟨hidle, -⟩ := hstopped (Or.inr (by simp [State.pictureWorkStopped, hstandby]))
  rw [hstarted] at hidle
  cases hidle

end Sys2Proof.Machine

/-! SUPPORT. The passes of the Chain Intake and its registers (R145–R153): one equation for each way a pass begins, goes on and
ends. -/
namespace Sys2Proof.Machine

/-! ## Passes -/

theorem State.passStep_disabled {s : State} (h : s.intake.enable = false) : s.passStep = s.intakeOff := by
  simp [State.passStep, h]

theorem State.passStep_link {s : State} (h : s.intake.enable = true) (hroom : s.jobs.length < 8) :
    s.passStep = { s with intake := { s.intake with pass := .link } } := by
  simp [State.passStep, h, Config.jobListSize, hroom]

theorem State.passStep_full {s : State} (h : s.intake.enable = true) (hfull : 8 ≤ s.jobs.length) :
    s.passStep = { s with intake := { s.intake with state := .full, rescan := false, pass := .none } } := by
  simp [State.passStep, h, Config.jobListSize, hfull]

/-- With ENABLE 1 a pass begins as R151 says. -/
theorem State.beginPass_enabled {s : State} (h : s.intake.enable = true) :
    s.beginPass = { s with intake := s.intake.passBegun s.jobs } := by
  by_cases hfull : 8 ≤ s.jobs.length
  · simp [State.beginPass, State.passStep_full, h, hfull, Intake.passBegun, Config.jobListSize]
  · simp [State.beginPass, State.passStep_link, h, Nat.not_le.mp hfull, Intake.passBegun, Config.jobListSize]

/-- A chain fault raises CHAIN and ends the pass (R155). -/
theorem State.chainFault_eq (s : State) :
    s.chainFault = { s with intake := s.intake.faulted, causes := { s.causes with chain := true } } := rfl

/-! ## ATTENTION and the scan timer -/

/-- Settles O10: by the intake state; a pass that begins has ENABLE 1. -/
theorem attentionByIntakeState : Obligations.AttentionByIntakeState := by
  intro s
  have hexec : exec .attention s = .next s.takeAttention := rfl
  refine ⟨fun h => ?off, fun h he => ?idle, fun h => ?scanning, fun h => ?full, fun h he => ?fault, fun h he => ?faultOff⟩
  case off | scanning | full => simp [hexec, State.takeAttention, h]
  case idle => simp [hexec, State.takeAttention, h, State.beginPass_enabled he]
  case fault => simp [hexec, State.takeAttention, h, he, State.beginPass_enabled he]
  case faultOff => simp [hexec, State.takeAttention, h, he, State.intakeOff]

/-- Settles O11: the timer is looked at in IDLE alone, and SCAN_PERIOD touches it there alone. -/
theorem scanTimerAndScanPeriod : Obligations.ScanTimerAndScanPeriod := by
  intro s w
  have hexpiry : exec .scanTimerExpiry s = .next s.scanExpired := rfl
  have hperiod : exec (.scanPeriodWrite w) s = .next (s.writeScanPeriod w) := rfl
  refine ⟨fun h he ht => ?begins, fun h => ?nothing, fun h => ?idle, fun h => ?stored⟩
  case begins => simp [hexpiry, State.scanExpired, h, ht, State.beginPass_enabled he]
  case nothing =>
    have hno : ¬(s.intake.state = .idle ∧ s.intake.scanTimer.isSome = true) := by
      rintro ⟨hidle, hsome⟩
      rcases h with h | h
      · exact h hidle
      · simp [h] at hsome
    rw [hexpiry, State.scanExpired, if_neg hno]
  case idle => simp [hperiod, State.writeScanPeriod, h, Intake.scanTime, Config.scanUnit]
  case stored => simp [hperiod, State.writeScanPeriod, h]

/-! ## CONTROL -/

/-- START_EXTERNAL and the start-up switch of the first enable (R138). -/
def Reference.started (r : Reference) (external : Bool) : Reference :=
  if r.startUpDone then r
  else if external then
    { r with startUpDone := true, switch := some { target := .extern, job := none }, lockCount := 0, sincePulse := none,
             lockTimer := some (64 * (r.period * 1000)) }
  else { r with startUpDone := true }

theorem State.startUp_eq (s : State) : s.startUp = { s with ref := s.ref.started s.intake.startExternal } := by
  cases hdone : s.ref.startUpDone with
  | true => simp [State.startUp, Reference.started, hdone]
  | false =>
    cases hext : s.intake.startExternal <;>
      simp [State.startUp, Reference.started, hdone, hext, State.beginExternal, Config.lockPeriods]

/-- A CONTROL write with ENABLE 1 over ENABLE 0 stores START_EXTERNAL and enables. -/
theorem exec_enableSet_of_disabled {s : State} (ext : Bool) (h : s.intake.enable = false) :
    exec (.enableSet ext) s = .next (s.storeExternal ext).enable := by
  have hexec : exec (.enableSet ext) s = .next (s.writeControl true ext) := rfl
  simp [hexec, State.writeControl, State.storeExternal, h]

/-- A CONTROL write with ENABLE 0 over ENABLE 1 stores START_EXTERNAL and disables. -/
theorem exec_enableClear_of_enabled {s : State} (ext : Bool) (h : s.intake.enable = true) :
    exec (.enableClear ext) s = .next (s.storeExternal ext).disable := by
  have hexec : exec (.enableClear ext) s = .next (s.writeControl false ext) := rfl
  simp [hexec, State.writeControl, State.storeExternal, h]

/-- Settles O7: the two edges of ENABLE by the intake state, and the writes that keep its value. -/
theorem enableBeginsAndEndsPasses : Obligations.EnableBeginsAndEndsPasses := by
  refine ⟨fun s ext hdis => ?set, fun s ext => ⟨fun hen hst => ?off, fun hen hst => ?goesOn, rfl, fun hen => ?stays, fun hdis => ?staysOff⟩⟩
  case set =>
    intro r i
    have hr : r = s.ref.started ext := rfl
    refine ⟨fun hoff => ?_, fun hst => ?_⟩
    · rw [exec_enableSet_of_disabled ext hdis, State.enable, State.startUp_eq]
      simp only [State.storeExternal, hoff]
      rw [State.beginPass_enabled rfl, hr]
      rfl
    · rw [exec_enableSet_of_disabled ext hdis, State.enable, State.startUp_eq, hr]
      rcases hst with hst | hst <;> simp [State.storeExternal, hst, i]
  case off =>
    rw [exec_enableClear_of_enabled ext hen]
    rcases hst with hst | hst <;> simp [State.disable, State.storeExternal, hst, State.intakeOff]
  case goesOn =>
    rw [exec_enableClear_of_enabled ext hen]
    rcases hst with hst | hst <;> simp [State.disable, State.storeExternal, hst]
  case stays => simp [exec, execEnableSet, execStartExternalWrite, State.writeControl, State.storeExternal, hen]
  case staysOff => simp [exec, execEnableClear, execStartExternalWrite, State.writeControl, State.storeExternal, hdis]

/-! ## The other registers -/

/-- Settles O8: the registers with a row of their own do what that row does; CONTROL by its bits and the present ENABLE. -/
theorem registerWritesByRegister : Obligations.RegisterWritesByRegister := by
  intro s w
  refine ⟨fun h => ?stored, fun h => ?ignored, ?plain, ?rows⟩
  case stored => simp [exec, execRegisterWrite, State.writeChainBase, h]
  case ignored => simp [exec, execRegisterWrite, State.writeChainBase, h]
  case plain => simp [exec, execRegisterWrite]
  case rows =>
    simp only [List.forall_mem_cons]
    refine ⟨?control, rfl, rfl, rfl, fun r hr => absurd hr List.not_mem_nil⟩
    simp only [decodeRegisterWrite, decodeControlWrite]
    cases hreset : w.getLsbD 2 with
    | true => simp only [exec, execRegisterWrite, execSoftReset, hreset, if_true]
    | false =>
      cases henable : w.getLsbD 0 <;> cases hnow : s.intake.enable <;>
        simp only [exec, execRegisterWrite, execEnableSet, execEnableClear, execStartExternalWrite, State.writeControl,
          State.storeExternal, hreset, henable, hnow, Bool.not_true, Bool.not_false, Bool.and_true, Bool.and_false,
          Bool.false_eq_true, if_true, if_false]

/-- The five cause bits stand in bits 0 to 4 of the register word (spec/11 section 11.2). -/
theorem causeBits_getLsbD : ∀ a b c d e : Bool, ∀ i : Fin 32,
    (BitVec.ofNat 32 (bitsByte [a, b, c, d, e])).getLsbD i.val = [a, b, c, d, e].getD i.val false := by decide +kernel

theorem Causes.toWord_getLsbD (c : Causes) {i : Nat} (hi : i < 32) :
    c.toWord.getLsbD i = [c.job, c.tile, c.reference, c.chain, c.halt].getD i false :=
  causeBits_getLsbD c.job c.tile c.reference c.chain c.halt ⟨i, hi⟩

/-- CAUSE_ENABLE keeps the five low bits of the word written (R145). -/
theorem Causes.toWord_ofWord (w : Word) : (Causes.ofWord w).toWord = w &&& 0x1F := by
  refine BitVec.eq_of_getLsbD_eq fun i hi => ?_
  have hmask : ∀ i : Fin 32, (0x1F : Word).getLsbD i.val = decide (i.val < 5) := by decide
  rw [Causes.toWord_getLsbD _ hi, BitVec.getLsbD_and, hmask ⟨i, hi⟩]
  match i with
  | 0 | 1 | 2 | 3 | 4 => simp [Causes.ofWord]
  | i + 5 => simp

/-- Two cause sets meet exactly where their words have a bit in common. -/
theorem causeWords_meet : ∀ a b c d e a' b' c' d' e' : Bool,
    BitVec.ofNat 32 (bitsByte [a, b, c, d, e]) &&& BitVec.ofNat 32 (bitsByte [a', b', c', d', e']) ≠ 0 ↔
      ((a && a') || (b && b') || (c && c') || (d && d') || (e && e')) = true := by decide +kernel

theorem Causes.meets_iff (a b : Causes) : a.meets b = true ↔ a.toWord &&& b.toWord ≠ 0 :=
  (causeWords_meet a.job a.tile a.reference a.chain a.halt b.job b.tile b.reference b.chain b.halt).symm

/-- Settles O9: the clear set meets nothing, and INT is the meeting of the two words. -/
theorem causeReadClearsAndIntFollows : Obligations.CauseReadClearsAndIntFollows := by
  intro s w
  refine ⟨⟨s.readCause, rfl, rfl, ?_⟩, ⟨s.writeCauseEnable w, rfl, rfl, Causes.toWord_ofWord w, Causes.meets_iff _ _⟩⟩
  simp [State.readCause, State.int, Causes.meets, Causes.clear]

/-! ## Links and locked exchanges -/

/-- The address a link step follows: CHAIN_BASE while no anchor is set, else the LINK read (R152). -/
theorem State.linkRead_eq {s : State} {link : Option Word} {a : Word} (hpass : s.intake.pass = .link)
    (ha : s.intake.anchor = none ∧ a = s.intake.chainBase ∨ s.intake.anchor.isSome = true ∧ link = some a) :
    s.linkRead link = s.followLink s.intake.anchor a := by
  rcases ha with ⟨hnone, rfl⟩ | ⟨hsome, rfl⟩
  · simp only [State.linkRead, hpass, hnone]
  · obtain ⟨own, hown⟩ := Option.isSome_iff_exists.mp hsome
    simp only [State.linkRead, hpass, hown]

theorem State.followLink_zero (s : State) (own : Option Word) : s.followLink own 0 = s.endPass := by
  simp [State.followLink]

theorem State.followLink_bad {s : State} {own : Option Word} {a : Word} (h0 : a ≠ 0) (h : a.toNat % 64 ≠ 0 ∨ own = some a) :
    s.followLink own a = s.chainFault := by
  have hfault : (misaligned64 a || own == some a) = true := by
    rcases h with h | h <;> simp [misaligned64, h]
  simp only [State.followLink, if_neg h0, if_pos hfault]

theorem State.followLink_block {s : State} {own : Option Word} {a : Word} (h0 : a ≠ 0) (hal : a.toNat % 64 = 0)
    (hown : own ≠ some a) : s.followLink own a = s.examine a := by
  have hfine : ¬(misaligned64 a || own == some a) = true := by simp [misaligned64, hal, hown]
  simp only [State.followLink, if_neg h0, if_neg hfine]

/-- Settles O12: the address followed is one of four kinds, each with ENABLE 1 and with ENABLE 0. -/
theorem linkReadByAddress : Obligations.LinkReadByAddress := by
  intro s link a hpass ha off
  have hexec : exec (.linkRead link) s = .next (s.followLink s.intake.anchor a).settle := by
    rw [← State.linkRead_eq hpass ha]; rfl
  refine ⟨fun hen => ⟨fun h0 hr => ?idle, fun h0 hr => ?again, fun h0 hbad => ?fault, fun h0 hal hown hnew => ?examined⟩,
    fun hdis => ⟨fun h0 => ?off, fun h0 hbad => ?faultOff, fun h0 hal hown => ?unexamined⟩⟩
  case idle =>
    subst h0
    rw [hexec, State.followLink_zero]
    simp [State.endPass, hen, hr, State.intakeIdle, Intake.scanTime, Config.scanUnit]
  case again =>
    subst h0
    rw [hexec, State.followLink_zero]
    simp [State.endPass, hen, hr, State.beginPass_enabled hen]
  case fault =>
    rw [hexec]
    by_cases hbad' : a.toNat % 64 ≠ 0 ∨ s.intake.anchor = some a
    · rw [State.followLink_bad h0 hbad', State.chainFault_eq]
    · have hlisted : (s.findJob a).isSome = true := by tauto
      push Not at hbad'
      rw [State.followLink_block h0 hbad'.1 hbad'.2]
      simp [State.examine, hen, hlisted, State.chainFault_eq]
  case examined =>
    rw [hexec, State.followLink_block h0 hal hown]
    simp [State.examine, hen, hnew]
  case off =>
    subst h0
    rw [hexec, State.followLink_zero]
    simp [State.endPass, hdis, State.intakeOff, off]
  case faultOff => rw [hexec, State.followLink_bad h0 hbad, State.chainFault_eq]
  case unexamined =>
    rw [hexec, State.followLink_block h0 hal hown]
    simp [State.examine, hdis, State.intakeOff, off]

/-- A VOID block becomes the anchor, and the pass goes on from the count it brings. -/
theorem State.passVoid_eq (s : State) (a : Word) :
    s.passVoid a =
      let t : State := { s with intake := { s.intake with anchor := some a, voidRun := s.intake.voidRun + 1 } }
      if s.intake.voidRun + 1 = 256 then t.chainFault else t.passStep := rfl

/-- The locked exchange by the STATE byte read (R153). -/
theorem State.exchanged_some {s : State} {a : Word} (hpass : s.intake.pass = .exchange a) (w : Word) :
    s.exchanged (some w) =
      if w &&& 0xFF = 1 then
        { s with
          intake := { s.intake with pass := .taking a w }
          bus := { s.bus with log := s.bus.log ++ [{ addr := a.toNat, bytes := le4 ((w &&& 0xFFFFFF00) ||| 4).toNat }] } }
      else if w &&& 0xFF = 2 then s.passVoid a
      else s.chainFault := by
  simp only [State.exchanged, hpass]
  rfl

/-- A VOID block that is not the 256th: the pass goes on, or ends in OFF. -/
theorem State.passVoid_on {s : State} (a : Word) (hn : s.intake.voidRun + 1 ≠ 256) :
    s.passVoid a =
      ({ s with intake := { s.intake with anchor := some a, voidRun := s.intake.voidRun + 1 } } : State).passStep := by
  rw [State.passVoid_eq]
  exact if_neg hn

/-- The 256th VOID block is a chain fault (R155). -/
theorem State.passVoid_limit {s : State} (a : Word) (hn : s.intake.voidRun + 1 = 256) :
    s.passVoid a = { s with
      intake := { s.intake.faulted with anchor := some a, voidRun := 256 }, causes := { s.causes with chain := true } } := by
  rw [State.passVoid_eq]
  simp only [hn]
  rfl

/-- Settles O14: the locked exchange by the STATE byte read. -/
theorem lockedExchangeByBlockState : Obligations.LockedExchangeByBlockState := by
  intro s a w hpass
  have hexec : exec (.lockedExchange (some w)) s = .next (s.exchanged (some w)).settle := rfl
  have hvoid (h : w &&& 0xFF = 2) : exec (.lockedExchange (some w)) s = .next (s.passVoid a).settle := by
    rw [hexec, State.exchanged_some hpass, if_neg (by rw [h]; decide), if_pos h]
  refine ⟨fun h => ?posted, fun h hen hn hroom => ?void, fun h hdis hn => ?voidOff, fun h hn => ?voidLimit, fun h1 h2 => ?other,
    fun hn => ?limit⟩
  case posted => rw [hexec, State.exchanged_some hpass, if_pos h]
  case void => rw [hvoid h, State.passVoid_on a hn, State.passStep_link (by exact hen) (by exact hroom)]
  case voidOff =>
    rw [hvoid h, State.passVoid_on a hn, State.passStep_disabled (by exact hdis)]
    rfl
  case voidLimit => rw [hvoid h, State.passVoid_limit a hn]
  case other => rw [hexec, State.exchanged_some hpass, if_neg h1, if_neg h2, State.chainFault_eq]
  case limit =>
    rw [← State.passVoid_limit a hn]
    simp only [exec, execVoidLimit, hpass]
    exact if_pos hn

end Sys2Proof.Machine

/-! SUPPORT. The frame of every command: what the passes, the completions, the resets and the register writes leave alone, and the
frame of `exec` put together from it. -/
namespace Sys2Proof.Machine

/-! ## The frame of a command -/

/-- `t` keeps what command `c` may not change of `s`. -/
structure InFrame (c : Instr) (s t : State) : Prop where
  pending : t.pending = s.pending
  intake : c.movesIntake = false → t.intake = s.intake
  jobs : c.changesList = false → t.jobs.map Job.addr = s.jobs.map Job.addr
  causeEnable : c.writesCauseEnable = false → t.causeEnable = s.causeEnable
  policy : c.writesPolicy = false → t.policy = s.policy
  ref : c.movesReference = false → t.ref = s.ref
  bus : c.usesBus = false → t.bus = s.bus
  epochCounter : c.countsEpoch = false → t.epochCounter = s.epochCounter

/-- The command answers a next state within its frame. -/
def AnswersInFrame (c : Instr) (s : State) : Prop := ∃ t : State, exec c s = .next t ∧ InFrame c s t

/-- The fixed parts decide whether a state is within the frame. -/
theorem InFrame.of_fixed {c : Instr} {s t u : State} (h : InFrame c s u) (hfixed : t.fixed = u.fixed) : InFrame c s t := by
  simp only [State.fixed, Prod.mk.injEq] at hfixed
  obtain ⟨hpending, hintake, henable, hpolicy, href, hbus, hepoch, hjobs⟩ := hfixed
  exact ⟨hpending.trans h.pending, fun k => hintake.trans (h.intake k), fun k => hjobs.trans (h.jobs k),
    fun k => henable.trans (h.causeEnable k), fun k => hpolicy.trans (h.policy k), fun k => href.trans (h.ref k),
    fun k => hbus.trans (h.bus k), fun k => hepoch.trans (h.epochCounter k)⟩

theorem InFrame.same {c : Instr} {s : State} : InFrame c s s :=
  ⟨Eq.refl _, fun _ => Eq.refl _, fun _ => Eq.refl _, fun _ => Eq.refl _, fun _ => Eq.refl _, fun _ => Eq.refl _,
    fun _ => Eq.refl _, fun _ => Eq.refl _⟩

/-- A change of the Frame Reference is in the frame of the commands that move it. -/
theorem InFrame.of_core {c : Instr} {s t u : State} (h : InFrame c s u) (hcore : t.core = u.core)
    (hmoves : c.movesReference = true) : InFrame c s t := by
  simp only [State.core, Prod.mk.injEq] at hcore
  obtain ⟨hpending, hintake, henable, hpolicy, hbus, hepoch, hjobs⟩ := hcore
  exact ⟨hpending.trans h.pending, fun k => hintake.trans (h.intake k), fun k => hjobs.trans (h.jobs k),
    fun k => henable.trans (h.causeEnable k), fun k => hpolicy.trans (h.policy k),
    fun k => absurd (hmoves.symm.trans k) (by decide), fun k => hbus.trans (h.bus k), fun k => hepoch.trans (h.epochCounter k)⟩

theorem answers_of_keepsFixed {c : Instr} {s : State} (h : KeepsFixed (exec c s) s) : AnswersInFrame c s := by
  obtain ⟨t, hexec, hfixed⟩ := h
  exact ⟨t, hexec, InFrame.same.of_fixed hfixed⟩

theorem answers_of_keepsCore {c : Instr} {s : State} (hmoves : c.movesReference = true) (h : KeepsCore (exec c s) s) :
    AnswersInFrame c s := by
  obtain ⟨t, hexec, hcore⟩ := h
  exact ⟨t, hexec, InFrame.same.of_core hcore hmoves⟩

theorem answers_settled {c : Instr} {s u : State} (hexec : exec c s = .next u.settle) (h : InFrame c s u) : AnswersInFrame c s :=
  ⟨u.settle, hexec, h.of_fixed u.fixed_settle⟩

/-! ## What the passes leave alone -/

/-- The fixed parts but for the intake. -/
def State.unpassed (s : State) : List Instr × Causes × Policy × Reference × Bus × Epoch × List Word :=
  (s.pending, s.causeEnable, s.policy, s.ref, s.bus, s.epochCounter, s.jobs.map Job.addr)

theorem State.unpassed_of_fixed {s t : State} (h : t.fixed = s.fixed) : t.unpassed = s.unpassed := by
  simp only [State.fixed, Prod.mk.injEq] at h
  simp only [State.unpassed, h]

@[simp] theorem State.unpassed_intake (s : State) (i) : ({ s with intake := i } : State).unpassed = s.unpassed := rfl
@[simp] theorem State.unpassed_intakeOff (s : State) : s.intakeOff.unpassed = s.unpassed := rfl
@[simp] theorem State.unpassed_intakeIdle (s : State) : s.intakeIdle.unpassed = s.unpassed := rfl
@[simp] theorem State.unpassed_chainFault (s : State) : s.chainFault.unpassed = s.unpassed := rfl
@[simp] theorem State.unpassed_setAnchor (s : State) (a) : (s.setAnchor a).unpassed = s.unpassed := rfl
@[simp] theorem State.unpassed_storeExternal (s : State) (b) : (s.storeExternal b).unpassed = s.unpassed := rfl
@[simp] theorem State.unpassed_halt (s : State) (c) : (s.halt c).unpassed = s.unpassed :=
  State.unpassed_of_fixed (s.fixed_halt c)

@[simp] theorem State.unpassed_passStep (s : State) : s.passStep.unpassed = s.unpassed := by
  unfold State.passStep
  repeat' split
  all_goals rfl

@[simp] theorem State.unpassed_beginPass (s : State) : s.beginPass.unpassed = s.unpassed := by
  simp [State.beginPass]

@[simp] theorem State.unpassed_endPass (s : State) : s.endPass.unpassed = s.unpassed := by
  unfold State.endPass
  repeat' split
  all_goals simp

@[simp] theorem State.unpassed_passBusError (s : State) : s.passBusError.unpassed = s.unpassed := by
  unfold State.passBusError
  simp only
  split <;> simp

@[simp] theorem State.unpassed_followLink (s : State) (own a) : (s.followLink own a).unpassed = s.unpassed := by
  unfold State.followLink State.examine
  repeat' split
  all_goals simp

@[simp] theorem State.unpassed_linkRead (s : State) (link) : (s.linkRead link).unpassed = s.unpassed := by
  unfold State.linkRead
  repeat' split
  all_goals simp

@[simp] theorem State.unpassed_passVoid (s : State) (a) : (s.passVoid a).unpassed = s.unpassed := by
  rw [State.passVoid_eq]
  split <;> simp

@[simp] theorem State.unpassed_takeAttention (s : State) : s.takeAttention.unpassed = s.unpassed := by
  unfold State.takeAttention
  repeat' split
  all_goals simp

@[simp] theorem State.unpassed_scanExpired (s : State) : s.scanExpired.unpassed = s.unpassed := by
  unfold State.scanExpired
  split <;> simp

@[simp] theorem State.unpassed_writeScanPeriod (s : State) (w) : (s.writeScanPeriod w).unpassed = s.unpassed := by
  unfold State.writeScanPeriod
  simp only
  split <;> rfl

@[simp] theorem State.unpassed_writeChainBase (s : State) (w) : (s.writeChainBase w).unpassed = s.unpassed := by
  unfold State.writeChainBase
  split <;> rfl

@[simp] theorem State.unpassed_disable (s : State) : s.disable.unpassed = s.unpassed := by
  unfold State.disable
  simp only
  split <;> simp

/-- A change of the intake is in the frame of the commands that move it. -/
theorem InFrame.of_unpassed {c : Instr} {s t u : State} (h : InFrame c s u) (hkeeps : t.unpassed = u.unpassed)
    (hmoves : c.movesIntake = true) : InFrame c s t := by
  simp only [State.unpassed, Prod.mk.injEq] at hkeeps
  obtain ⟨hpending, henable, hpolicy, href, hbus, hepoch, hjobs⟩ := hkeeps
  exact ⟨hpending.trans h.pending, fun k => absurd (hmoves.symm.trans k) (by decide), fun k => hjobs.trans (h.jobs k),
    fun k => henable.trans (h.causeEnable k), fun k => hpolicy.trans (h.policy k), fun k => href.trans (h.ref k),
    fun k => hbus.trans (h.bus k), fun k => hepoch.trans (h.epochCounter k)⟩

theorem answers_of_unpassed {c : Instr} {s t : State} (hmoves : c.movesIntake = true) (hexec : exec c s = .next t)
    (h : t.unpassed = s.unpassed) : AnswersInFrame c s := ⟨t, hexec, InFrame.same.of_unpassed h hmoves⟩

theorem answers_of_unpassed_settled {c : Instr} {s t : State} (hmoves : c.movesIntake = true)
    (hexec : exec c s = .next t.settle) (h : t.unpassed = s.unpassed) : AnswersInFrame c s :=
  answers_settled hexec (InFrame.same.of_unpassed h hmoves)

/-- The locked exchange writes the bus at most, and moves the intake. -/
theorem lockedExchange_answers (s : State) (word0) : AnswersInFrame (.lockedExchange word0) s := by
  have hexec : exec (.lockedExchange word0) s = .next (s.exchanged word0).settle := rfl
  refine answers_settled hexec ?_
  unfold State.exchanged
  split
  · exact InFrame.same
  · exact InFrame.same
  · exact InFrame.same
  · split
    · exact InFrame.same.of_unpassed s.unpassed_passBusError rfl
    · simp only
      repeat' split
      · exact ⟨rfl, nofun, fun _ => rfl, fun _ => rfl, fun _ => rfl, fun _ => rfl, nofun, fun _ => rfl⟩
      · exact InFrame.same.of_unpassed (s.unpassed_passVoid _) rfl
      · exact InFrame.same.of_unpassed s.unpassed_chainFault rfl

/-! ## Filing and completion -/

@[simp] theorem State.fixed_look (s : State) (l) : (s.look l).fixed = s.fixed := by
  unfold State.look
  split <;> simp

/-- Filing lists a job and moves the intake. -/
theorem takingRead_answers (s : State) (data) : AnswersInFrame (.takingRead data) s := by
  have hexec : exec (.takingRead data) s = .next (s.takeBlock data).settle := rfl
  refine answers_settled hexec ?_
  unfold State.takeBlock
  split
  · exact InFrame.same
  · exact InFrame.same
  · exact InFrame.same
  · split
    · exact InFrame.same.of_unpassed s.unpassed_passBusError rfl
    · refine InFrame.of_unpassed (InFrame.of_fixed ?_ (State.fixed_look _ _)) (State.unpassed_passStep _) rfl
      exact ⟨rfl, nofun, nofun, fun _ => rfl, fun _ => rfl, fun _ => rfl, fun _ => rfl, fun _ => rfl⟩

/-- The parts that no completion touches. -/
def State.still (s : State) : List Instr × Causes × Policy × Reference × Epoch :=
  (s.pending, s.causeEnable, s.policy, s.ref, s.epochCounter)

theorem State.still_of_unpassed {s t : State} (h : t.unpassed = s.unpassed) : t.still = s.still := by
  simp only [State.unpassed, Prod.mk.injEq] at h
  simp only [State.still, h]

theorem State.still_of_fixed {s t : State} (h : t.fixed = s.fixed) : t.still = s.still :=
  State.still_of_unpassed (State.unpassed_of_fixed h)

@[simp] theorem State.still_jobs (s : State) (js) : ({ s with jobs := js } : State).still = s.still := rfl
@[simp] theorem State.still_blockWrite (s : State) (a o bs) : (s.blockWrite a o bs).still = s.still := rfl
@[simp] theorem State.still_makeWrite (s : State) (a w) : (s.makeWrite a w).still = s.still := by cases w <;> rfl

@[simp] theorem State.still_writeResult (s : State) (j r ws) : (s.writeResult j r ws).still = s.still := by
  unfold State.writeResult
  simp only
  rw [foldl_keeps State.still _ (fun s w => s.still_blockWrite _ _ _), foldl_keeps State.still _ (fun s w => s.still_makeWrite _ _)]

@[simp] theorem State.still_leftList (s : State) (n) : (s.leftList n).still = s.still := by
  unfold State.leftList
  split
  · exact State.still_of_unpassed s.unpassed_beginPass
  · rfl

@[simp] theorem State.still_leaveList (s : State) (j) : (s.leaveList j).still = s.still := by
  unfold State.leaveList
  rw [State.still_of_fixed (State.fixed_look _ _), State.still_leftList]
  rfl

@[simp] theorem State.still_complete (s : State) (a) : (s.complete a).still = s.still := by
  unfold State.complete
  split
  · rfl
  · split
    · rfl
    · simp only [State.still_leaveList]
      split <;> exact s.still_writeResult _ _ _

@[simp] theorem State.still_completionFails (s : State) (a w) : (s.completionFails a w).still = s.still := by
  unfold State.completionFails
  repeat' split
  · rfl
  · rfl
  · rw [State.still_leaveList, State.still_of_fixed (State.fixed_halt _ _), State.still_writeResult]

/-- A completion writes the bus, leaves the list and may scan again. -/
theorem InFrame.of_still {c : Instr} {s t : State} (h : t.still = s.still) (hintake : c.movesIntake = true)
    (hlist : c.changesList = true) (hbus : c.usesBus = true) : InFrame c s t := by
  simp only [State.still, Prod.mk.injEq] at h
  obtain ⟨hpending, henable, hpolicy, href, hepoch⟩ := h
  exact ⟨hpending, fun k => absurd (hintake.symm.trans k) (by decide), fun k => absurd (hlist.symm.trans k) (by decide),
    fun _ => henable, fun _ => hpolicy, fun _ => href, fun k => absurd (hbus.symm.trans k) (by decide), fun _ => hepoch⟩

/-- A write of the bus is in the frame of the commands that use it. -/
theorem InFrame.of_busWrite {c : Instr} {s u : State} (h : InFrame c s u) (a bs) (huses : c.usesBus = true) :
    InFrame c s (u.busWrite a bs) :=
  ⟨h.pending, h.intake, h.jobs, h.causeEnable, h.policy, h.ref, fun k => absurd (huses.symm.trans k) (by decide), h.epochCounter⟩

theorem InFrame.of_makeWrite {c : Instr} {s u : State} (h : InFrame c s u) (a w) (huses : c.usesBus = true) :
    InFrame c s (u.makeWrite a w) := by
  cases w <;> exact h.of_busWrite _ _ huses

theorem progressWrite_answers (s : State) (a ok) : AnswersInFrame (.progressWrite a ok) s := by
  have hexec : exec (.progressWrite a ok) s = .next (s.progressEnds a ok).settle := rfl
  refine answers_settled hexec ?_
  unfold State.progressEnds
  split
  · exact InFrame.same
  · split
    · exact InFrame.same
    · simp only
      split
      · refine InFrame.of_makeWrite ?_ _ _ rfl
        exact InFrame.same.of_fixed (State.fixed_modJob _ _ _ fun _ => rfl)
      · refine InFrame.of_fixed ?_ (State.fixed_halt _ _)
        exact InFrame.same.of_fixed (State.fixed_modJob _ _ _ fun _ => rfl)

/-! ## Jobs that write memory or take an epoch -/

theorem senseRecordWrite_answers (s : State) (ok) : AnswersInFrame (.senseRecordWrite ok) s := by
  unfold AnswersInFrame
  simp only [exec, execSenseRecordWrite]
  split
  · split
    · exact ⟨_, rfl, InFrame.same⟩
    · split
      · split
        · exact ⟨_, rfl, ((InFrame.same.of_busWrite _ _ rfl).of_fixed (State.fixed_completeControl _ _)).of_fixed
            (State.fixed_settle _)⟩
        · exact ⟨_, rfl, (InFrame.same.of_busWrite _ _ rfl).of_fixed (State.fixed_controlRun _ _)⟩
      · exact ⟨_, rfl, (InFrame.same.of_fixed (State.fixed_completeControl _ _)).of_fixed (State.fixed_settle _)⟩
  · exact ⟨_, rfl, InFrame.same⟩

theorem mismatchListWrite_answers (s : State) (ok) : AnswersInFrame (.mismatchListWrite ok) s := by
  unfold AnswersInFrame
  simp only [exec, execMismatchListWrite]
  split
  · split
    · split
      · exact ⟨_, rfl, (InFrame.same.of_fixed (State.fixed_completeFrame _ _)).of_fixed (State.fixed_settle _)⟩
      · split
        · exact ⟨_, rfl, (InFrame.same.of_busWrite _ _ rfl).of_fixed (State.fixed_frameRun _ _)⟩
        · exact ⟨_, rfl, ((InFrame.same.of_busWrite _ _ rfl).of_fixed (State.fixed_completeFrame _ _)).of_fixed
            (State.fixed_settle _)⟩
    · exact ⟨_, rfl, (InFrame.same.of_fixed (State.fixed_completeFrame _ _)).of_fixed (State.fixed_settle _)⟩
  all_goals exact ⟨_, rfl, InFrame.same⟩

@[simp] theorem State.fixed_discardOld (s : State) (i) : (s.discardOld i).fixed = s.fixed := by
  unfold State.discardOld
  split <;> simp

/-- Taking an epoch is in the frame of the commands that count one. -/
theorem InFrame.of_fixParticipants {c : Instr} {s : State} (hcounts : c.countsEpoch = true) (j layers) :
    InFrame c s (s.fixParticipants j layers) := by
  unfold State.fixParticipants
  simp only
  repeat' split
  · exact InFrame.same.of_fixed (State.fixed_completeFrame _ _)
  · exact InFrame.same.of_fixed (State.fixed_completeFrame _ _)
  · unfold State.layersRead
    refine InFrame.of_fixed ?_ (State.fixed_dropTiles _ _ _)
    refine InFrame.of_fixed ?_ (State.forEach_keeps State.fixed _ (fun i s => State.fixed_discardOld s i) _ _)
    refine InFrame.of_fixed ?_ (State.fixed_writeProgress _ _)
    exact ⟨rfl, fun _ => rfl, fun _ => rfl, fun _ => rfl, fun _ => rfl, fun _ => rfl, fun _ => rfl,
      fun k => absurd (hcounts.symm.trans k) (by decide)⟩

theorem scene_answers (s : State) : AnswersInFrame .scene s := by
  unfold AnswersInFrame
  simp only [exec, execScene]
  repeat' split
  · exact ⟨_, rfl, InFrame.same⟩
  · exact ⟨_, rfl, (InFrame.same.of_fixed (State.fixed_completeFrame _ _)).of_fixed (State.fixed_settle _)⟩
  · exact ⟨_, rfl, (InFrame.of_fixParticipants rfl _ _).of_fixed (State.fixed_settle _)⟩
  · exact ⟨_, rfl, InFrame.same.of_fixed (State.fixed_frameRun _ _)⟩

theorem layerRecordRead_answers (s : State) (data) : AnswersInFrame (.layerRecordRead data) s := by
  unfold AnswersInFrame
  simp only [exec, execLayerRecordRead]
  split
  · split
    · exact ⟨_, rfl, (InFrame.same.of_fixed (State.fixed_completeFrame _ _)).of_fixed (State.fixed_settle _)⟩
    · split
      · exact ⟨_, rfl, InFrame.same.of_fixed (State.fixed_frameRun _ _)⟩
      · refine ⟨_, rfl, InFrame.of_fixed ?_ (State.fixed_settle _)⟩
        unfold State.checkLayers
        split
        · exact InFrame.same.of_fixed (State.fixed_completeFrame _ _)
        · exact InFrame.of_fixParticipants rfl _ _
  · exact ⟨_, rfl, InFrame.same⟩

/-! ## POLICY, the resets and the registers -/

/-- Writing the policy store touches the Frame Reference at most beside it. -/
theorem State.core_writePolicy (s : State) (p : Policy) : (s.writePolicy p).core = ({ s with policy := p } : State).core := by
  unfold State.writePolicy
  simp only [State.core_completeControl, State.core_failSafe]
  exact State.core_of (State.forEach_keeps State.fixed _ (fun i s => State.fixed_applyCeiling s i) _ _)

theorem policy_answers (s : State) : AnswersInFrame .policy s := by
  unfold AnswersInFrame
  simp only [exec, execPolicy]
  repeat' split
  · exact ⟨_, rfl, InFrame.same⟩
  · exact ⟨_, rfl, (InFrame.same.of_fixed (State.fixed_completeControl _ _)).of_fixed (State.fixed_settle _)⟩
  · refine ⟨_, rfl, (InFrame.of_core ?_ (s.core_writePolicy _) rfl).of_fixed (State.fixed_settle _)⟩
    exact ⟨rfl, fun _ => rfl, fun _ => rfl, fun _ => rfl, nofun, fun _ => rfl, fun _ => rfl, fun _ => rfl⟩

@[simp] theorem State.core_resetPower (s : State) : s.resetPower.core = s.core := by
  unfold State.resetPower
  repeat' split
  all_goals rfl

@[simp] theorem State.core_listenMapped (s : State) : s.listenMapped.core = s.core := by
  unfold State.listenMapped
  split
  · rfl
  · rw [State.forEach_keeps State.core _ (by intro i s; split <;> simp)]

/-- After the clearing a soft reset moves the Frame Reference at most. -/
theorem State.core_softReset (s : State) : s.softReset.core = s.clearAll.core := by
  simp [State.softReset]

theorem softReset_inFrame {c : Instr} (s : State) (hintake : c.movesIntake = true) (hlist : c.changesList = true)
    (hpolicy : c.writesPolicy = true) (href : c.movesReference = true) : InFrame c s s.softReset := by
  refine InFrame.of_core ?_ s.core_softReset href
  exact ⟨rfl, fun k => absurd (hintake.symm.trans k) (by decide), fun k => absurd (hlist.symm.trans k) (by decide), fun _ => rfl,
    fun k => absurd (hpolicy.symm.trans k) (by decide), fun k => absurd (href.symm.trans k) (by decide), fun _ => rfl, fun _ => rfl⟩

/-- Enabling moves the intake, and at the first enable the Frame Reference. -/
theorem enable_inFrame {c : Instr} (s : State) (hintake : c.movesIntake = true) (href : c.movesReference = true) :
    InFrame c s s.enable := by
  have hstarted : InFrame c s ({ s with intake := { s.intake with enable := true } } : State).startUp := by
    rw [State.startUp_eq]
    exact ⟨rfl, fun k => absurd (hintake.symm.trans k) (by decide), fun _ => rfl, fun _ => rfl, fun _ => rfl,
      fun k => absurd (href.symm.trans k) (by decide), fun _ => rfl, fun _ => rfl⟩
  unfold State.enable
  simp only
  split
  · exact hstarted.of_unpassed (State.unpassed_beginPass _) hintake
  all_goals exact hstarted

theorem InFrame.trans {c : Instr} {s t u : State} (h : InFrame c s t) (k : InFrame c t u) : InFrame c s u :=
  ⟨k.pending.trans h.pending, fun x => (k.intake x).trans (h.intake x), fun x => (k.jobs x).trans (h.jobs x),
    fun x => (k.causeEnable x).trans (h.causeEnable x), fun x => (k.policy x).trans (h.policy x),
    fun x => (k.ref x).trans (h.ref x), fun x => (k.bus x).trans (h.bus x), fun x => (k.epochCounter x).trans (h.epochCounter x)⟩

/-- A CONTROL write with SOFT_RESET 0. -/
theorem writeControl_inFrame {c : Instr} (s : State) (external : Bool) (hintake : c.movesIntake = true)
    (href : c.movesReference = true) (enable : Bool) : InFrame c s (s.writeControl enable external) := by
  have hstored : InFrame c s (s.storeExternal external) := InFrame.same.of_unpassed rfl hintake
  unfold State.writeControl
  simp only
  repeat' split
  · exact hstored.trans (enable_inFrame _ hintake href)
  · exact hstored.of_unpassed (State.unpassed_disable _) hintake
  · exact hstored

/-- ENABLE cleared: no start-up, so the Frame Reference stays too. -/
theorem enableClear_answers (s : State) (external) : AnswersInFrame (.enableClear external) s := by
  refine answers_of_unpassed rfl (t := s.writeControl false external) rfl ?_
  simp only [State.writeControl, Bool.false_and, Bool.false_eq_true, if_false]
  split <;> simp

theorem registerWrite_answers (s : State) (r w) : AnswersInFrame (.registerWrite r w) s := by
  have hunpassed {t : State} (h : t.unpassed = s.unpassed) : InFrame (.registerWrite r w) s t :=
    InFrame.same.of_unpassed h rfl
  unfold AnswersInFrame
  simp only [exec, execRegisterWrite]
  split
  · exact ⟨_, rfl, hunpassed (by simp)⟩
  · exact ⟨_, rfl, InFrame.same⟩
  · exact ⟨_, rfl, InFrame.same⟩
  · exact ⟨_, rfl, InFrame.same⟩
  · split
    · exact ⟨_, rfl, (softReset_inFrame s rfl rfl rfl rfl).of_fixed (State.fixed_settle _)⟩
    · exact ⟨_, rfl, writeControl_inFrame s _ rfl rfl _⟩
  · exact ⟨_, rfl, hunpassed (by simp)⟩
  · exact ⟨_, rfl, ⟨rfl, fun _ => rfl, fun _ => rfl, nofun, fun _ => rfl, fun _ => rfl, fun _ => rfl, fun _ => rfl⟩⟩
  · exact ⟨_, rfl, hunpassed (by simp)⟩

theorem voidLimit_answers (s : State) : AnswersInFrame .voidLimit s := by
  unfold AnswersInFrame
  simp only [exec, execVoidLimit]
  repeat' split
  · exact ⟨_, rfl, InFrame.same.of_unpassed (s.unpassed_passVoid _) rfl⟩
  all_goals exact ⟨_, rfl, InFrame.same⟩

/-! ## Every command -/

/-- Every command answers a next state within its frame. -/
theorem exec_answers (c : Instr) (s : State) : AnswersInFrame c s := by
  cases c with
  | powerOnReset => exact ⟨s.powerOn, rfl, rfl, nofun, nofun, nofun, nofun, nofun, fun _ => rfl, nofun⟩
  | softReset => exact answers_settled (u := s.softReset) rfl (softReset_inFrame s rfl rfl rfl rfl)
  | enableSet external => exact ⟨s.writeControl true external, rfl, writeControl_inFrame s external rfl rfl true⟩
  | enableClear external => exact enableClear_answers s external
  | startExternalWrite external => exact answers_of_unpassed rfl (t := s.storeExternal external) rfl rfl
  | attention => exact answers_of_unpassed rfl (t := s.takeAttention) rfl (by simp)
  | causeRead => exact ⟨s.readCause, rfl, rfl, fun _ => rfl, fun _ => rfl, fun _ => rfl, fun _ => rfl, fun _ => rfl, nofun, fun _ => rfl⟩
  | causeEnableWrite w =>
    exact ⟨s.writeCauseEnable w, rfl, rfl, fun _ => rfl, fun _ => rfl, nofun, fun _ => rfl, fun _ => rfl, fun _ => rfl, fun _ => rfl⟩
  | scanPeriodWrite w => exact answers_of_unpassed rfl (t := s.writeScanPeriod w) rfl (by simp)
  | registerWrite r w => exact registerWrite_answers s r w
  | scanTimerExpiry => exact answers_of_unpassed rfl (t := s.scanExpired) rfl (by simp)
  | linkRead link => exact answers_of_unpassed_settled rfl (t := s.linkRead link) rfl (by simp)
  | lockedExchange w => exact lockedExchange_answers s w
  | takingRead data => exact takingRead_answers s data
  | voidLimit => exact voidLimit_answers s
  | progressWrite a ok => exact progressWrite_answers s a ok
  | jobCompletion a => exact answers_settled (u := s.complete a) rfl (InFrame.of_still (by simp) rfl rfl rfl)
  | completionBusError a w =>
    exact answers_settled (u := s.completionFails a w) rfl (InFrame.of_still (by simp) rfl rfl rfl)
  | scene => exact scene_answers s
  | layerRecordRead data => exact layerRecordRead_answers s data
  | tileMap => exact answers_of_keepsFixed (execTileMap_keepsFixed s)
  | tileMapEntryRead data => exact answers_of_keepsFixed (execTileMapEntryRead_keepsFixed data s)
  | lutLoad => exact answers_of_keepsFixed (execLutLoad_keepsFixed s)
  | valuesWordRead ws => exact answers_of_keepsFixed (execValuesWordRead_keepsFixed ws s)
  | verify => exact answers_of_keepsFixed (execVerify_keepsFixed s)
  | verifyRecomposition image => exact answers_of_keepsFixed (execVerifyRecomposition_keepsFixed image s)
  | mismatchListWrite ok => exact mismatchListWrite_answers s ok
  | policy => exact policy_answers s
  | sense => exact answers_of_keepsFixed (execSense_keepsFixed s)
  | senseRecordWrite ok => exact senseRecordWrite_answers s ok
  | recover => exact answers_of_keepsFixed (execRecover_keepsFixed s)
  | linkTest => exact answers_of_keepsFixed (execLinkTest_keepsFixed s)
  | withdraw => exact answers_of_keepsCore rfl (execWithdraw_keepsCore s)
  | reference => exact answers_of_keepsCore rfl (execReference_keepsCore s)
  | power => exact answers_of_keepsCore rfl (execPower_keepsCore s)
  | wakeSettleEnd => exact answers_of_keepsCore rfl (execWakeSettleEnd_keepsCore s)
  | compositionEnd image stored => exact answers_of_keepsFixed (execCompositionEnd_keepsFixed s image stored)
  | surfaceBusError layer => exact answers_of_keepsFixed (execSurfaceBusError_keepsFixed s layer)
  | transmitterFree p r => exact answers_of_keepsFixed (execTransmitterFree_keepsFixed s p r)
  | receiveCheckFailure p why => exact answers_of_keepsFixed (execReceiveCheckFailure_keepsFixed s p why)
  | beaconReceived p => exact answers_of_keepsFixed (execBeaconReceived_keepsFixed s p)
  | offerReceived p o => exact answers_of_keepsFixed (execOfferReceived_keepsFixed s p o)
  | trainReceived p g l e => exact answers_of_keepsFixed (execTrainReceived_keepsFixed s p g l e)
  | ackReceived p n => exact answers_of_keepsFixed (execAckReceived_keepsFixed s p n)
  | nakReceived p n => exact answers_of_keepsFixed (execNakReceived_keepsFixed s p n)
  | holdReceived p q => exact answers_of_keepsFixed (execHoldReceived_keepsFixed s p q)
  | statusReceived p st => exact answers_of_keepsFixed (execStatusReceived_keepsFixed s p st)
  | flippedReceived p e n => exact answers_of_keepsFixed (execFlippedReceived_keepsFixed s p e n)
  | testEchoReceived p n f d => exact answers_of_keepsFixed (execTestEchoReceived_keepsFixed s p n f d)
  | testResultReceived p g b => exact answers_of_keepsFixed (execTestResultReceived_keepsFixed s p g b)
  | checkReportReceived p e l => exact answers_of_keepsFixed (execCheckReportReceived_keepsFixed s p e l)
  | beaconTimer p => exact answers_of_keepsFixed (execBeaconTimer_keepsFixed s p)
  | offerRepeatTimer p => exact answers_of_keepsFixed (execOfferRepeatTimer_keepsFixed s p)
  | offerTimeout p => exact answers_of_keepsFixed (execOfferTimeout_keepsFixed s p)
  | trainTimeout p => exact answers_of_keepsFixed (execTrainTimeout_keepsFixed s p)
  | silence p => exact answers_of_keepsFixed (execSilence_keepsFixed s p)
  | ackTimeout p => exact answers_of_keepsFixed (execAckTimeout_keepsFixed s p)
  | retryExhaustion p => exact answers_of_keepsFixed (execRetryExhaustion_keepsFixed s p)
  | tallySaturation p => exact answers_of_keepsFixed (execTallySaturation_keepsFixed s p)
  | holdExpiry p => exact answers_of_keepsFixed (execHoldExpiry_keepsFixed s p)
  | echoTimeout p => exact answers_of_keepsFixed (execEchoTimeout_keepsFixed s p)
  | resultTimeout p => exact answers_of_keepsFixed (execResultTimeout_keepsFixed s p)
  | stabilityReached p => exact answers_of_keepsFixed (execStabilityReached_keepsFixed s p)
  | frameStart => exact answers_of_keepsCore rfl (execFrameStart_keepsCore s)
  | syncInPulse => exact answers_of_keepsCore rfl (execSyncInPulse_keepsCore s)
  | lossDeclared => exact answers_of_keepsCore rfl (execLossDeclared_keepsCore s)
  | lockPulse => exact answers_of_keepsCore rfl (execLockPulse_keepsCore s)
  | lockTimerExpiry => exact answers_of_keepsCore rfl (execLockTimerExpiry_keepsCore s)
  | deadlineExpiry => exact answers_of_keepsFixed (execDeadlineExpiry_keepsFixed s)
  | confirmationLimit i => exact answers_of_keepsFixed (execConfirmationLimit_keepsFixed s i)
  | verifySurfaceBusError layer => exact answers_of_keepsFixed (execVerifySurfaceBusError_keepsFixed layer s)

/-- Settles O3: the frame of the answer, command by command. -/
theorem everyCommandAnswersWithinItsFrame : Obligations.EveryCommandAnswersWithinItsFrame := by
  refine ⟨fun c s => ?_, fun c s t hexec => ?_⟩
  · obtain ⟨t, hexec, h⟩ := exec_answers c s
    exact ⟨t, hexec, h.pending⟩
  · obtain ⟨u, hexec', h⟩ := exec_answers c s
    obtain rfl : u = t := Host.Outcome.next.inj (hexec'.symm.trans hexec)
    exact ⟨h.intake, h.jobs, h.causeEnable, h.policy, h.ref, h.bus, h.epochCounter⟩

/-! ## Packets that are checked or discarded -/

/-- A port that fails a check (R98), in the words of the rule. -/
theorem Port.checkFailed_eq (x : Port) (why : CheckFailure) :
    x.checkFailed why = { x with
      ctr := { x.ctr with badReceived := if x.ctr.badReceived = 0xFFFFFFFF then 0xFFFFFFFF else x.ctr.badReceived + 1 }
      ind := { x.ind with badPacket := true }
      lockCount := if x.link = .train ∧ (why = .crc 0x83 ∨ why = .length 0x83) then 0 else x.lockCount } := by
  have hsat : satInc x.ctr.badReceived = if x.ctr.badReceived = 0xFFFFFFFF then 0xFFFFFFFF else x.ctr.badReceived + 1 := by
    unfold satInc
    split <;> simp_all
  unfold Port.checkFailed
  cases why <;> simp only [hsat, Bool.and_eq_true, beq_iff_eq, CheckFailure.crc.injEq, CheckFailure.length.injEq, reduceCtorEq,
    or_false, false_or, and_comm, Bool.false_eq_true, false_and, or_self, if_false]

theorem State.takeInUp_of_ne {s : State} {p : PortId} (h : (s.port p).link ≠ .up) (f) : s.takeInUp p f = .next s := by
  unfold State.takeInUp
  split
  · contradiction
  all_goals rfl

/-- Settles O41: each row matches on the link state. -/
theorem packetsAreCheckedOrDiscardedByState : Obligations.PacketsAreCheckedOrDiscardedByState := by
  intro s p
  refine ⟨fun why hoff hlost => ?checked, fun why h => ?unchecked, fun h => ⟨?beacon, fun o => ?offer⟩, fun h => ?beaconInOffer,
    fun h g l n => ?train, fun h => ?stream⟩
  case checked =>
    rw [← Port.checkFailed_eq]
    simp only [exec, execReceiveCheckFailure]
    cases hl : (s.port p).link <;> first | contradiction | rfl
  case unchecked => rcases h with h | h <;> simp only [exec, execReceiveCheckFailure, h]
  case beacon => rcases h with h | h | h <;> simp only [exec, execBeaconReceived, h]
  case offer => rcases h with h | h | h <;> simp only [exec, execOfferReceived, h]
  case beaconInOffer => simp only [exec, execBeaconReceived, h]
  case train =>
    simp only [exec, execTrainReceived]
    cases hl : (s.port p).link <;> first | contradiction | rfl
  case stream =>
    simp only [exec, execAckReceived, execNakReceived, execHoldReceived, execStatusReceived, execFlippedReceived,
      execTestEchoReceived, execTestResultReceived, execCheckReportReceived, State.takeInUp_of_ne h, implies_true, and_self]

/-! ## The checks of a LUT_LOAD, in their order (R119) -/

theorem channelOf_eq_none {n : Nat} (h : 3 < n) : channelOf n = none := by
  have h0 : (n == 0) = false := by simp; omega
  have h1 : (n == 1) = false := by simp; omega
  have h2 : (n == 2) = false := by simp; omega
  have h3 : (n == 3) = false := by simp; omega
  simp [channelOf, h0, h1, h2, h3]

/-- A code from 0 to 3 names the mode with that code. -/
theorem channelOf_code {n : Nat} (h : n ≤ 3) : ∃ m, channelOf n = some m ∧ m.code = n := by
  match n, h with
  | 0, _ => exact ⟨.all, rfl, rfl⟩
  | 1, _ => exact ⟨.red, rfl, rfl⟩
  | 2, _ => exact ⟨.green, rfl, rfl⟩
  | 3, _ => exact ⟨.blue, rfl, rfl⟩

/-- With a mode code in range, the count decides, then the rest. -/
theorem lutFault_of_mode {j : Job} {targets : Mask} (hmode : j.byte 18 ≤ 3) :
    lutFault j targets =
      if j.half 20 = 0 ∨ 256 < j.half 20 then some .badCount
      else if 256 < j.byte 19 + j.half 20 then some .badCount
      else if j.word 24 = 0 then some .badField
      else if (j.word 24).toNat % 2 ≠ 0 then some .badAlign
      else if targets = 0 then some .noTiles
      else none := by
  obtain ⟨m, hm, -⟩ := channelOf_code hmode
  exact if_neg (by simp [hm])

/-- With count and range in order too, the address decides, then the targets. -/
theorem lutFault_of_range {j : Job} {targets : Mask} (hmode : j.byte 18 ≤ 3) (hcount : 1 ≤ j.half 20)
    (hrange : j.byte 19 + j.half 20 ≤ 256) :
    lutFault j targets =
      if j.word 24 = 0 then some .badField
      else if (j.word 24).toNat % 2 ≠ 0 then some .badAlign
      else if targets = 0 then some .noTiles
      else none := by
  rw [lutFault_of_mode hmode, if_neg (by omega), if_neg (by omega)]

theorem execLutLoad_of_fault {s : State} {j : Job} {r : Reason} (hs : s.startedFrame .lutLoad = some j)
    (hfault : lutFault j (s.targets (j.mask 16)) = some r) :
    exec .lutLoad s = .next (s.completeFrame (invalidResult r none none)).settle := by
  simp only [exec, execLutLoad, hs, hfault, State.settled]

theorem execLutLoad_of_pass {s : State} {j : Job} (hs : s.startedFrame .lutLoad = some j)
    (hpass : lutFault j (s.targets (j.mask 16)) = none) :
    exec .lutLoad s = .next { s with
      serial := s.serial + 1, frameRun := .values (newLut j (s.serial + 1) (s.targets (j.mask 16))) } := by
  simp only [exec, execLutLoad, hs, hpass]

/-- Settles O23: the first check that fails decides `lutFault`, and the outcome of the command is read off it. -/
theorem lutLoadParametersAreChecked : Obligations.LutLoadParametersAreChecked := by
  intro s j hs invalid
  have hinvalid {r : Reason} (h : lutFault j (s.targets (j.mask 16)) = some r) : invalid r := execLutLoad_of_fault hs h
  refine ⟨fun h => hinvalid ?mode, fun h hc => hinvalid ?count, fun h hl hh hr => hinvalid ?range,
    fun h hl hr hz => hinvalid ?address, fun h hl hr hz ha => hinvalid ?align, fun h hl hr hz ha ht => hinvalid ?targets,
    fun h hl hr hz ha ht => ?pass⟩
  case mode => exact if_pos (channelOf_eq_none h)
  case count => rw [lutFault_of_mode h, if_pos hc]
  case range => rw [lutFault_of_mode h, if_neg (by omega), if_pos hr]
  case address => rw [lutFault_of_range h hl hr, if_pos hz]
  case align => rw [lutFault_of_range h hl hr, if_neg hz, if_pos ha]
  case targets => rw [lutFault_of_range h hl hr, if_neg hz, if_neg (not_not.mpr ha), if_pos ht]
  case pass =>
    have hpass : lutFault j (s.targets (j.mask 16)) = none := by
      rw [lutFault_of_range h hl hr, if_neg hz, if_neg (not_not.mpr ha), if_neg ht]
    obtain ⟨m, hm, hcode⟩ := channelOf_code h
    exact ⟨_, execLutLoad_of_pass hs hpass, rfl, rfl, rfl, by simp [newLut, hm, hcode], rfl, rfl, rfl⟩

end Sys2Proof.Machine

/-! SUPPORT. What the scene pipeline, the table logic and VERIFY leave alone, in one projection: `State.quiet` forgets what they
may change (results and writes of listed jobs, the frame job's record, the Composer but its service order, the stores of the
tiles, queues and buffers of the ports) and keeps all the rest. -/
namespace Sys2Proof.Machine

/-! ## The projection -/

/-- A Job List entry without its waiting writes and its result. -/
def Job.entry (j : Job) : Job := { j with writes := [], result := none }

/-- A port without its waiting queue and its buffers. -/
def Port.spine (x : Port) : Port := { x with queue := [], bufA := .free, bufB := .free, olderFree := .first }

/-- The state without what picture work changes. -/
def State.quiet (s : State) : State := { s with
  jobs := s.jobs.map Job.entry
  frameRun := .idle
  composer := { Composer.reset with order := s.composer.order }
  presented := 0
  tiles := s.tiles.map (fun x => { Tile.reset with geom := x.geom })
  ports := s.ports.map Port.spine }

/-! ## Entries and ports -/

@[simp] theorem Job.entry_hand (j : Job) (r : Result) : (j.hand r).entry = j.entry := by
  unfold Job.hand
  split <;> rfl

@[simp] theorem Job.entry_addWrite (w : BlockWrite) (j : Job) : (j.addWrite w).entry = j.entry := rfl

@[simp] theorem Port.spine_queue (x : Port) (q) : ({ x with queue := q } : Port).spine = x.spine := rfl
@[simp] theorem Port.spine_dropQueued (x : Port) (f) : (x.dropQueued f).spine = x.spine := rfl
@[simp] theorem Port.spine_olderFree (x : Port) (b) : ({ x with olderFree := b } : Port).spine = x.spine := rfl
@[simp] theorem Port.spine_setBuf (x : Port) (b v) : (x.setBuf b v).spine = x.spine := by cases b <;> rfl

@[simp] theorem Port.spine_enqueue (x : Port) (k) : (x.enqueue k).spine = x.spine := by
  unfold Port.enqueue
  split <;> rfl

@[simp] theorem Port.spine_freeBuf (x : Port) (b) : (x.freeBuf b).spine = x.spine := by
  unfold Port.freeBuf
  split <;> simp

@[simp] theorem Port.spine_freeUnsent (x : Port) : x.freeUnsent.spine = x.spine := by
  simp only [Port.freeUnsent, Port.spine_dropQueued]
  repeat' split
  all_goals simp

@[simp] theorem Port.spine_flush (x : Port) : x.flush.spine = x.spine := by simp [Port.flush]

/-! ## Updates -/

@[simp] theorem State.quiet_frameRun (s : State) (x) : ({ s with frameRun := x } : State).quiet = s.quiet := rfl
@[simp] theorem State.quiet_engine (s : State) (x) :
    ({ s with composer := { s.composer with engine := x } } : State).quiet = s.quiet := rfl
@[simp] theorem State.quiet_active (s : State) (x y) :
    ({ s with composer := { s.composer with active := x, engine := y } } : State).quiet = s.quiet := rfl
@[simp] theorem State.quiet_pointer (s : State) (x y) :
    ({ s with composer := { s.composer with engine := x, pointer := y } } : State).quiet = s.quiet := rfl
@[simp] theorem State.quiet_presented (s : State) (x y) :
    ({ s with presented := x, composer := { s.composer with shown := y } } : State).quiet = s.quiet := rfl

theorem State.quiet_jobs (s : State) (js : List Job) (h : js.map Job.entry = s.jobs.map Job.entry) :
    ({ s with jobs := js } : State).quiet = s.quiet := by simp [State.quiet, h]

/-- A port may change its queue and its buffers. -/
theorem State.quiet_modPort (s : State) (p : PortId) (f : Port → Port) (h : ∀ x, (f x).spine = x.spine) :
    (s.modPort p f).quiet = s.quiet := by
  have hports : (s.modPort p f).ports.map Port.spine = s.ports.map Port.spine := by
    ext i hi
    simp only [State.modPort, State.setPort, State.port, Vector.getElem_map, Vector.getElem_set]
    split
    · next hip => subst hip; exact h _
    · rfl
  exact congrArg (fun ps => { s.quiet with ports := ps }) hports

/-- A tile record may change all but its geometry. -/
theorem State.quiet_modTile (s : State) (t : TileId) (f : Tile → Tile) (h : ∀ x, (f x).geom = x.geom) :
    (s.modTile t f).quiet = s.quiet := by
  have htiles : (s.modTile t f).tiles.map (fun x => { Tile.reset with geom := x.geom }) =
      s.tiles.map (fun x => { Tile.reset with geom := x.geom }) := by
    ext i hi
    simp only [State.modTile, State.setTile, State.tile, Vector.getElem_map, Vector.getElem_set]
    split
    · next hit => subst hit; rw [h]
    · rfl
  exact congrArg (fun ts => { s.quiet with tiles := ts }) htiles

theorem State.quiet_modJob (s : State) (a : Word) (f : Job → Job) (h : ∀ j, (f j).entry = j.entry) :
    (s.modJob a f).quiet = s.quiet := by
  apply State.quiet_jobs
  simp only [List.map_map]
  refine List.map_congr_left fun j _ => ?_
  simp only [Function.comp]
  split <;> simp [h]

@[simp] theorem State.quiet_hand (s : State) (a r) : (s.hand a r).quiet = s.quiet :=
  State.quiet_modJob _ _ _ (fun j => Job.entry_hand j r)

@[simp] theorem State.quiet_writeProgress (s : State) (v) : (s.writeProgress v).quiet = s.quiet := by
  unfold State.writeProgress
  split
  · rfl
  · exact State.quiet_modJob _ _ _ (fun _ => rfl)

@[simp] theorem State.quiet_completeFrame (s : State) (r) : (s.completeFrame r).quiet = s.quiet := by
  unfold State.completeFrame
  split
  · rfl
  · exact s.quiet_hand _ r

@[simp] theorem State.quiet_endWaitingFrame (s : State) (o) : (s.endWaitingFrame o).quiet = s.quiet := by
  apply State.quiet_jobs
  simp only [List.map_map]
  refine List.map_congr_left fun j _ => ?_
  simp only [Function.comp]
  split <;> simp

@[simp] theorem State.quiet_modScene (s : State) (f) : (s.modScene f).quiet = s.quiet := by
  unfold State.modScene
  split <;> simp
@[simp] theorem State.quiet_modLut (s : State) (f) : (s.modLut f).quiet = s.quiet := by
  unfold State.modLut
  split <;> simp
@[simp] theorem State.quiet_modVerify (s : State) (f) : (s.modVerify f).quiet = s.quiet := by
  unfold State.modVerify
  split <;> simp

@[simp] theorem State.quiet_dropQueued (s : State) (p f) : (s.modPort p (fun x => x.dropQueued f)).quiet = s.quiet :=
  State.quiet_modPort _ _ _ (fun _ => rfl)
theorem State.quiet_mapQueue (s : State) (p) (f : Port → List Reliable) :
    (s.modPort p (fun x => { x with queue := f x })).quiet = s.quiet := State.quiet_modPort _ _ _ (fun _ => rfl)
@[simp] theorem State.quiet_enqueue (s : State) (p k) : (s.modPort p (fun x => x.enqueue k)).quiet = s.quiet :=
  State.quiet_modPort _ _ _ (fun x => x.spine_enqueue k)
@[simp] theorem State.quiet_freeBuf (s : State) (p b) : (s.modPort p (fun x => x.freeBuf b)).quiet = s.quiet :=
  State.quiet_modPort _ _ _ (fun x => x.spine_freeBuf b)
@[simp] theorem State.quiet_freeUnsent (s : State) (p) : (s.modPort p Port.freeUnsent).quiet = s.quiet :=
  State.quiet_modPort _ _ _ Port.spine_freeUnsent
@[simp] theorem State.quiet_flush (s : State) (p) : (s.modPort p Port.flush).quiet = s.quiet :=
  State.quiet_modPort _ _ _ Port.spine_flush
@[simp] theorem State.quiet_back (s : State) (t) (f : Tile → BackStore) :
    (s.modTile t (fun x => { x with back := f x })).quiet = s.quiet := State.quiet_modTile _ _ _ (fun _ => rfl)
@[simp] theorem State.quiet_front (s : State) (t) (e : Epoch) :
    (s.modTile t (fun x => { x with front := e })).quiet = s.quiet := State.quiet_modTile _ _ _ (fun _ => rfl)

/-! ## The scene pipeline -/

@[simp] theorem State.quiet_queueDiscard (s : State) (t e) : (s.queueDiscard t e).quiet = s.quiet := by
  unfold State.queueDiscard
  split
  · rfl
  · refine State.quiet_modPort _ _ _ fun x => ?_
    split <;> simp
@[simp] theorem State.quiet_releaseEngine (s : State) (p) : (s.releaseEngine p).quiet = s.quiet := by
  unfold State.releaseEngine
  split <;> (try split) <;> simp
@[simp] theorem State.quiet_setCursor (s : State) (t n) : (s.setCursor t n).quiet = s.quiet := by
  simp [State.setCursor]
@[simp] theorem State.quiet_flushPort (s : State) (p) : (s.flushPort p).quiet = s.quiet := by
  unfold State.flushPort
  simp only
  repeat' split
  all_goals simp
@[simp] theorem State.quiet_freeTile (s : State) (t) : (s.freeTile t).quiet = s.quiet := by
  unfold State.freeTile
  split <;> simp
@[simp] theorem State.quiet_stopDelivery (s : State) (e t) : (s.stopDelivery e t).quiet = s.quiet := by
  unfold State.stopDelivery
  simp only
  split <;> simp
@[simp] theorem State.quiet_endAtTile (s : State) (e t) : (s.endAtTile e t).quiet = s.quiet := by
  unfold State.endAtTile
  simp only
  repeat' split
  all_goals simp
@[simp] theorem State.quiet_completeScene (s : State) (r) : (s.completeScene r).quiet = s.quiet := by
  have hkept (u : State) (e : Engine) : ({ u with composer := { u.composer with active := none, engine := e } } : State).quiet =
    u.quiet := rfl
  unfold State.completeScene
  simp only [hkept, State.quiet_completeFrame]
@[simp] theorem State.quiet_endSceneWith (s : State) (r x) : (s.endSceneWith r x).quiet = s.quiet := by
  simp [State.endSceneWith, foldl_keeps State.quiet]
@[simp] theorem State.quiet_endSceneEarly (s : State) (o) : (s.endSceneEarly o).quiet = s.quiet := by
  unfold State.endSceneEarly
  split <;> simp
@[simp] theorem State.quiet_settleScene (s : State) : s.settleScene.quiet = s.quiet := by
  unfold State.settleScene
  split <;> (repeat' split) <;> simp
@[simp] theorem State.quiet_armScene (s : State) (r) : (s.armScene r).quiet = s.quiet := by
  unfold State.armScene
  simp only [State.quiet_writeProgress]
  rw [foldl_keeps State.quiet]
  · simp
  · intro s t
    split <;> simp
@[simp] theorem State.quiet_armingRule (s : State) : s.armingRule.quiet = s.quiet := by
  unfold State.armingRule
  split
  · rfl
  · simp only
    repeat' split
    all_goals simp
@[simp] theorem State.quiet_dropTiles (s : State) (m c) : (s.dropTiles m c).quiet = s.quiet := by
  unfold State.dropTiles
  split
  · rfl
  · simp only
    split
    · rfl
    · simp [foldl_keeps State.quiet]
@[simp] theorem State.quiet_expireDeadline (s : State) : s.expireDeadline.quiet = s.quiet := by
  unfold State.expireDeadline
  split <;> simp
@[simp] theorem State.quiet_present (s : State) (x) : (s.present x).quiet = s.quiet := by
  unfold State.present
  split <;> simp

@[simp] theorem Tile.geom_activate (x : Tile) : x.activate.geom = x.geom := by
  unfold Tile.activate
  split <;> rfl

@[simp] theorem State.quiet_confirmFlip (s : State) (t x) : (s.confirmFlip t x).quiet = s.quiet := by
  have htile : (s.modTile t (fun r => { r.activate with front := x, back := .empty })).quiet = s.quiet :=
    State.quiet_modTile _ _ _ (fun r => r.geom_activate)
  unfold State.confirmFlip
  simp only [State.quiet_present, State.quiet_modScene]
  split
  · exact htile
  · rw [State.quiet_dropQueued]
    exact htile
@[simp] theorem State.quiet_flipReport (s : State) (t x f) : (s.flipReport t x f).quiet = s.quiet := by
  unfold State.flipReport
  split <;> (try split) <;> simp
@[simp] theorem State.quiet_unconfirm (s : State) (t c) : (s.unconfirm t c).quiet = s.quiet := by
  simp [State.unconfirm]
@[simp] theorem State.quiet_passLimit (s : State) (r t) : (s.passLimit r t).quiet = s.quiet := by
  unfold State.passLimit
  simp only
  split
  · simp
  · split
    · simp
    · exact (State.quiet_mapQueue _ _ _).trans (s.quiet_unconfirm t _)
@[simp] theorem State.quiet_checkLimits (s : State) : s.checkLimits.quiet = s.quiet := by
  unfold State.checkLimits
  split
  · rfl
  · simp [foldl_keeps State.quiet]
@[simp] theorem State.quiet_blankFront (s : State) (t) : (s.blankFront t).quiet = s.quiet := by
  unfold State.blankFront
  split <;> simp
@[simp] theorem State.quiet_lostTile (s : State) (t) : (s.lostTile t).quiet = s.quiet := by
  unfold State.lostTile
  simp only
  split <;> (repeat' split) <;> simp
@[simp] theorem State.quiet_reportFront (s : State) (t f) : (s.reportFront t f).quiet = s.quiet :=
  State.quiet_modTile _ _ _ (fun x => by split <;> rfl)
@[simp] theorem State.quiet_reportBack (s : State) (t b n) : (s.reportBack t b n).quiet = s.quiet := by
  unfold State.reportBack
  split <;> simp
@[simp] theorem State.quiet_reportFlip (s : State) (t f) : (s.reportFlip t f).quiet = s.quiet := by
  unfold State.reportFlip
  split <;> simp
@[simp] theorem State.quiet_resume (s : State) (r t b n) : (s.resume r t b n).quiet = s.quiet := by
  unfold State.resume
  simp only
  repeat' split
  all_goals simp
@[simp] theorem State.quiet_requeueFlip (s : State) (t e f) : (s.requeueFlip t e f).quiet = s.quiet := by
  unfold State.requeueFlip
  split
  · rfl
  · refine State.quiet_modPort _ _ _ fun x => ?_
    split <;> simp
@[simp] theorem State.quiet_loseFlip (s : State) (r t f b n) : (s.loseFlip r t f b n).quiet = s.quiet := by
  unfold State.loseFlip
  simp only
  split <;> simp
@[simp] theorem State.quiet_relinkFlip (s : State) (r t f b n) : (s.relinkFlip r t f b n).quiet = s.quiet := by
  unfold State.relinkFlip
  simp only
  repeat' split
  all_goals simp
@[simp] theorem State.quiet_storeReport (s : State) (t f b n) : (s.storeReport t f b n).quiet = s.quiet := by
  unfold State.storeReport
  repeat' split
  all_goals simp

/-! ## Correction tables and VERIFY -/

@[simp] theorem State.quiet_settleLut (s : State) : s.settleLut.quiet = s.quiet := by
  unfold State.settleLut
  split <;> (try split) <;> simp
@[simp] theorem State.quiet_dropQueuedOf (s : State) (t f) : (s.dropQueuedOf t f).quiet = s.quiet := by
  unfold State.dropQueuedOf
  split <;> simp
@[simp] theorem State.quiet_lutSkip (s : State) (t) : (s.lutSkip t).quiet = s.quiet := by
  unfold State.lutSkip
  split <;> (try split) <;> simp
@[simp] theorem State.quiet_ackTable (s : State) (t l n) : (s.ackTable t l n).quiet = s.quiet := by
  have htile : (s.modTile t (fun x => x.tableAcked l)).quiet = s.quiet := State.quiet_modTile _ _ _ (fun _ => rfl)
  unfold State.ackTable
  simp only
  split <;> (try split) <;> simp [htile]
@[simp] theorem State.quiet_handPacket (s : State) (t k) : (s.handPacket t k).quiet = s.quiet := by
  unfold State.handPacket
  split <;> simp
@[simp] theorem State.quiet_queueTables (s : State) (r) : (s.queueTables r).quiet = s.quiet := by
  unfold State.queueTables
  simp only [State.quiet_settleLut]
  rw [State.forEach_keeps State.quiet _ (fun t s => s.quiet_handPacket t _), State.quiet_frameRun]
@[simp] theorem State.quiet_settleVerify (s : State) : s.settleVerify.quiet = s.quiet := by
  unfold State.settleVerify
  repeat' split
  all_goals simp
@[simp] theorem State.quiet_verifyMiss (s : State) (t) : (s.verifyMiss t).quiet = s.quiet := by
  unfold State.verifyMiss
  split <;> (try split) <;> simp
@[simp] theorem State.quiet_takeReport (s : State) (t e c) : (s.takeReport t e c).quiet = s.quiet := by
  unfold State.takeReport
  split <;> (try split) <;> simp
@[simp] theorem State.quiet_leaveTargets (s : State) (t) : (s.leaveTargets t).quiet = s.quiet := by
  simp [State.leaveTargets]
@[simp] theorem State.quiet_portLeft (s : State) (p) : (s.portLeft p).quiet = s.quiet := by
  unfold State.portLeft
  split <;> simp
@[simp] theorem State.quiet_noteTable (s : State) (k) : (s.noteTable k).quiet = s.quiet := by simp [State.noteTable]
@[simp] theorem State.quiet_noteCheck (s : State) (k) : (s.noteCheck k).quiet = s.quiet := by simp [State.noteCheck]
@[simp] theorem State.quiet_noteResent (s : State) (p k) : (s.noteResent p k).quiet = s.quiet := by
  unfold State.noteResent
  simp only
  split <;> simp
@[simp] theorem State.quiet_noteDownshift (s : State) (p) : (s.noteDownshift p).quiet = s.quiet := by
  unfold State.noteDownshift
  split <;> simp
@[simp] theorem State.quiet_noteRetrain (s : State) (p) : (s.noteRetrain p).quiet = s.quiet := by
  unfold State.noteRetrain
  (repeat' split) <;> simp

theorem Tile.geom_tableReport (x : Tile) (a f) : (x.tableReport a f).geom = x.geom := by
  unfold Tile.tableReport
  repeat' split
  all_goals rfl

@[simp] theorem State.quiet_takeReports (s : State) (p o) : (s.takeReports p o).quiet = s.quiet := by
  unfold State.takeReports
  split
  · rfl
  · exact (State.quiet_modTile _ _ _ (fun x => x.geom_tableReport _ _)).trans (s.quiet_storeReport _ _ _ _)

/-! ## Acknowledged packets, grants -/

@[simp] theorem State.quiet_ackStripe (s : State) (p b) : (s.ackStripe p b).quiet = s.quiet := by
  unfold State.ackStripe
  split
  · simp only
    split <;> simp
  all_goals rfl
@[simp] theorem State.quiet_ackOwner (s : State) (p k) : (s.ackOwner p k).quiet = s.quiet := by
  unfold State.ackOwner
  split <;> (try split) <;> simp
@[simp] theorem State.quiet_startDelivering (s : State) (r) : (s.startDelivering r).quiet = s.quiet := by
  unfold State.startDelivering
  split <;> simp
@[simp] theorem State.quiet_grant (s : State) (r i t p b) : (s.grant r i t p b).quiet = s.quiet := by
  simp only [State.grant, State.quiet_startDelivering, State.quiet_pointer, State.quiet_setCursor]
  exact State.quiet_modPort _ _ _ (fun x => x.spine_setBuf _ _)
@[simp] theorem State.quiet_grantVerify (s : State) (r) : (s.grantVerify r).quiet = s.quiet := by
  unfold State.grantVerify
  repeat' split
  · rfl
  · rfl
  · rfl
  · simp only [State.quiet_engine]
    exact State.quiet_modPort _ _ _ (fun x => x.spine_setBuf _ _)
@[simp] theorem State.quiet_arbitrate (s : State) : s.arbitrate.quiet = s.quiet := by
  unfold State.arbitrate
  repeat' split
  all_goals simp

/-! ## What stops picture work -/

@[simp] theorem State.quiet_dropQueuedAll (s : State) (f) : (s.dropQueuedAll f).quiet = s.quiet :=
  State.forEach_keeps State.quiet _ (fun p s => s.quiet_dropQueued p f) _ _
@[simp] theorem State.quiet_stopVerify (s : State) (f) : (s.stopVerify f).quiet = s.quiet := by
  have h := s.quiet_dropQueuedAll f
  unfold State.stopVerify
  simp only
  generalize s.dropQueuedAll f = u at h ⊢
  split
  · next p b _ => exact (u.quiet_freeBuf p b).trans h
  all_goals exact h
@[simp] theorem State.quiet_abortFrameJob (s : State) : s.abortFrameJob.quiet = s.quiet := by
  unfold State.abortFrameJob
  split <;> simp
@[simp] theorem State.quiet_stopComposer (s : State) : s.stopComposer.quiet = s.quiet := by
  unfold State.stopComposer
  simp only [State.quiet_engine]
  exact State.forEach_keeps State.quiet _ (fun p s => s.quiet_freeUnsent p) _ _
@[simp] theorem State.quiet_stopWork (s : State) (o) : (s.stopWork o).quiet = s.quiet := by simp [State.stopWork]

/-- A halt latches its cause, once, and raises HALT; of the rest it changes picture work only. -/
theorem State.quiet_halt (s : State) (c : HaltCause) : (s.halt c).quiet =
    { s.quiet with halted := some (s.halted.getD c), causes := { s.causes with halt := true } } := by
  unfold State.halt
  split
  · next h hh => simp [State.quiet, State.raiseHalt, hh]
  · next hh =>
    rw [State.quiet_stopWork]
    simp [State.quiet, State.raiseHalt, hh]

/-! ## Reading the projection -/

theorem Port.spine_eq_of_map {xs ys : Vector Port 12} (h : xs.map Port.spine = ys.map Port.spine) (p : PortId) :
    xs[p.val].spine = ys[p.val].spine := by
  have := congrArg (fun v => v[p.val]) h
  simpa using this

theorem State.spine_of_quiet {s t : State} (h : t.quiet = s.quiet) (p : PortId) : (t.port p).spine = (s.port p).spine :=
  Port.spine_eq_of_map (congrArg State.ports h) p

theorem State.geom_of_quiet {s t : State} (h : t.quiet = s.quiet) (i : TileId) : (t.tile i).geom = (s.tile i).geom := by
  have := congrArg (fun v => v.tiles[i.val]) h
  simpa [State.quiet, State.tile] using this

theorem State.entries_of_quiet {s t : State} (h : t.quiet = s.quiet) : t.jobs.map Job.entry = s.jobs.map Job.entry :=
  congrArg State.jobs h

end Sys2Proof.Machine

/-! SUPPORT. The operations of one port: what a port is after each entry into a link state, in terms of the port before, and what
every operation of a port leaves alone outside it. -/
namespace Sys2Proof.Machine

/-! ## A port after leaving or entering a link state -/

/-- A port that has left UP (R88, R107). -/
def Port.leftUp (x : Port) : Port := { x.clearStream with silenceTimer := none, stability := 0, test := none }

/-- A port that has entered LISTEN (R78). -/
def Port.listening (x : Port) : Port := { x.stopTimers.clearDue with
  link := .listen, lostCause := none, offer := none, beaconTimer := some Config.repeatInterval, beaconDue := true }

/-- A port that has entered OFFER (R79). -/
def Port.offering (x : Port) (ceiling : Grade) : Port := { x.stopTimers.clearDue with
  link := .offer, offer := none, offeredCeiling := ceiling, tileSeen := false, seenSent := false,
  offerTimer := some Config.offerLimit, offerRepeat := some Config.repeatInterval, offersDue := 1 }

/-- A port that trains at grade `g` (R83). -/
def Port.training (x : Port) (g : Grade) (limit : Nat) : Port := { x.stopTimers.clearDue with
  link := .train, grade := g, lockCount := 0, locked := false, trainTimer := some limit }

/-- A port that has entered UP (R86). -/
def Port.raised (x : Port) (expected : Byte) (limit : Nat) : Port := { x.stopTimers.clearDue with
  link := .up, nextSeq := expected, silenceTimer := some limit, stability := 0 }

/-- A port that has entered LOST (R93). -/
def Port.givenUp (x : Port) (c : LostCause) : Port := { x.stopTimers.clearDue with
  link := .lost, lostCause := some c, offer := none, lockCount := 0, locked := false, window := [], queue := [] }

/-- A port that has gone OFF (R77). -/
def Port.switchedOff (x : Port) : Port := { x.stopTimers.clearDue with
  link := .off, lostCause := none, offer := none, window := [], queue := [] }

/-! ## What is outside a port -/

/-- The state without port `p`, the causes and the halt. -/
def State.without (s : State) (p : PortId) : State :=
  { s with causes := .clear, halted := none, ports := s.ports.set p.val Port.reset }

@[simp] theorem State.without_setPort (s : State) (p : PortId) (x : Port) :
    (s.setPort p x).quiet.without p = s.quiet.without p := by
  have hports : ((s.setPort p x).ports.map Port.spine).set p.val Port.reset = (s.ports.map Port.spine).set p.val Port.reset := by
    ext i hi
    simp only [State.setPort, Vector.getElem_set, Vector.getElem_map]
    split <;> rfl
  exact congrArg (fun ps => { s.quiet.without p with ports := ps }) hports

@[simp] theorem State.without_modPort (s : State) (p : PortId) (f : Port → Port) :
    (s.modPort p f).quiet.without p = s.quiet.without p := s.without_setPort p _

@[simp] theorem State.without_raiseTile (s : State) (p) : s.raiseTile.quiet.without p = s.quiet.without p := rfl

@[simp] theorem State.without_halt (s : State) (c p) : (s.halt c).quiet.without p = s.quiet.without p := by
  rw [State.quiet_halt]
  rfl

theorem State.spine_of_without {s t : State} {p q : PortId} (h : t.quiet.without p = s.quiet.without p) (hq : q ≠ p) :
    (t.port q).spine = (s.port q).spine := by
  have hne : p.val ≠ q.val := fun e => hq (Fin.ext e.symm)
  have := congrArg (fun v => v.ports[q.val]) h
  simpa [State.without, State.quiet, State.port, Vector.getElem_set_ne, hne] using this

/-- What both branches keep is kept. -/
theorem ite_keeps {α : Type} (g : State → α) {c : Prop} [Decidable c] {s t : State} {y : α} (hs : g s = y) (ht : g t = y) :
    g (if c then s else t) = y := by
  split <;> assumption

/-! ## Links -/

@[simp] theorem State.without_endTestWith (s : State) (p o d) : (s.endTestWith p o d).quiet.without p = s.quiet.without p := by
  unfold State.endTestWith
  split <;> simp
@[simp] theorem State.without_endTest (s : State) (p o) : (s.endTest p o).quiet.without p = s.quiet.without p := by
  simp [State.endTest]
@[simp] theorem State.without_exitUp (s : State) (p) : (s.exitUp p).quiet.without p = s.quiet.without p := by
  simp [State.exitUp, foldl_keeps State.quiet]
@[simp] theorem State.without_enterListen (s : State) (p) : (s.enterListen p).quiet.without p = s.quiet.without p := by
  simp [State.enterListen]
@[simp] theorem State.without_enterOffer (s : State) (p) : (s.enterOffer p).quiet.without p = s.quiet.without p := by
  simp [State.enterOffer]
@[simp] theorem State.without_beginAttempt (s : State) (p g) : (s.beginAttempt p g).quiet.without p = s.quiet.without p := by
  simp [State.beginAttempt]
@[simp] theorem State.without_enterUp (s : State) (p n) : (s.enterUp p n).quiet.without p = s.quiet.without p := by
  simp [State.enterUp]
@[simp] theorem State.without_enterLost (s : State) (p c) : (s.enterLost p c).quiet.without p = s.quiet.without p := by
  unfold State.enterLost
  simp only
  split <;> simp
@[simp] theorem State.without_goOff (s : State) (p) : (s.goOff p).quiet.without p = s.quiet.without p := by simp [State.goOff]
@[simp] theorem State.without_countFailure (s : State) (p) : (s.countFailure p).quiet.without p = s.quiet.without p := by
  unfold State.countFailure
  simp only
  repeat' split
  all_goals simp
@[simp] theorem State.without_exhaust (s : State) (p) : (s.exhaust p).quiet.without p = s.quiet.without p := by
  simp [State.exhaust]
@[simp] theorem State.without_restartOffer (s : State) (p) : (s.restartOffer p).quiet.without p = s.quiet.without p := by
  simp [State.restartOffer]
@[simp] theorem State.without_endExchange (s : State) (p o) : (s.endExchange p o).quiet.without p = s.quiet.without p := by
  unfold State.endExchange
  split <;> simp
@[simp] theorem State.without_checkExchange (s : State) (p) : (s.checkExchange p).quiet.without p = s.quiet.without p := by
  unfold State.checkExchange
  split <;> (try split) <;> simp
@[simp] theorem State.without_takeOffer (s : State) (p o) : (s.takeOffer p o).quiet.without p = s.quiet.without p := by
  unfold State.takeOffer
  split
  · simp
  · exact ite_keeps (fun u => u.quiet.without p) (by simp) (by simp)
@[simp] theorem State.without_leaveForRequest (s : State) (p) : (s.leaveForRequest p).quiet.without p = s.quiet.without p := by
  unfold State.leaveForRequest
  split <;> simp
@[simp] theorem State.without_restartPort (s : State) (p) : (s.restartPort p).quiet.without p = s.quiet.without p := by
  unfold State.restartPort
  simp only
  split <;> simp
@[simp] theorem State.without_recoverPort (s : State) (p) : (s.recoverPort p).quiet.without p = s.quiet.without p := by
  unfold State.recoverPort
  simp only
  split <;> simp
@[simp] theorem State.without_applyCeiling (s : State) (p) : (s.applyCeiling p).quiet.without p = s.quiet.without p := by
  unfold State.applyCeiling
  simp only
  repeat' split
  all_goals simp
@[simp] theorem State.without_fallSilent (s : State) (p) : (s.fallSilent p).quiet.without p = s.quiet.without p := by
  unfold State.fallSilent
  simp only
  split <;> simp
@[simp] theorem State.without_heard (s : State) (p) : (s.heard p).quiet.without p = s.quiet.without p := by simp [State.heard]
@[simp] theorem State.without_takeTrain (s : State) (p g l n) : (s.takeTrain p g l n).quiet.without p = s.quiet.without p := by
  unfold State.takeTrain
  simp only
  split <;> simp

/-! ## Stream and transmitter -/

@[simp] theorem State.without_ackOldest (s : State) (p k) : (s.ackOldest p k).quiet.without p = s.quiet.without p := by
  induction k generalizing s with
  | zero => rfl
  | succ k ih =>
    unfold State.ackOldest
    split
    · rfl
    · rw [ih]
      simp
@[simp] theorem State.without_acknowledge (s : State) (p k) : (s.acknowledge p k).quiet.without p = s.quiet.without p := by
  unfold State.acknowledge
  split <;> simp
@[simp] theorem State.without_takeAck (s : State) (p n) : (s.takeAck p n).quiet.without p = s.quiet.without p := by
  unfold State.takeAck
  split <;> simp
@[simp] theorem State.without_beginRun (s : State) (p i) : (s.beginRun p i).quiet.without p = s.quiet.without p := by
  unfold State.beginRun
  simp only
  split <;> simp
@[simp] theorem State.without_runFromOldest (s : State) (p) : (s.runFromOldest p).quiet.without p = s.quiet.without p := by
  unfold State.runFromOldest
  split <;> simp
@[simp] theorem State.without_takeNak (s : State) (p e) : (s.takeNak p e).quiet.without p = s.quiet.without p := by
  unfold State.takeNak
  simp only
  repeat' split
  all_goals simp
@[simp] theorem State.without_ackExpired (s : State) (p) : (s.ackExpired p).quiet.without p = s.quiet.without p := by
  simp [State.ackExpired]
@[simp] theorem State.without_endHold (s : State) (p) : (s.endHold p).quiet.without p = s.quiet.without p := by
  unfold State.endHold
  simp only
  split <;> simp
@[simp] theorem State.without_takeHold (s : State) (p q) : (s.takeHold p q).quiet.without p = s.quiet.without p := by
  unfold State.takeHold
  simp only
  repeat' split
  all_goals simp
@[simp] theorem State.without_sendStripe (s : State) (p b k) : (s.sendStripe p b k).quiet.without p = s.quiet.without p := by
  unfold State.sendStripe
  simp only
  split <;> (try split) <;> simp
@[simp] theorem State.without_sendFlip (s : State) (p e f k) : (s.sendFlip p e f k).quiet.without p = s.quiet.without p := by
  unfold State.sendFlip
  split <;> simp
@[simp] theorem State.without_sendHead (s : State) (p k r) : (s.sendHead p k r).quiet.without p = s.quiet.without p := by
  unfold State.sendHead
  split <;> simp
@[simp] theorem State.without_sendResend (s : State) (p n l k) : (s.sendResend p n l k).quiet.without p = s.quiet.without p := by
  unfold State.sendResend
  simp only
  repeat' split
  all_goals simp
@[simp] theorem State.without_countEcho (s : State) (p k) : (s.countEcho p k).quiet.without p = s.quiet.without p := by
  unfold State.countEcho
  simp only
  split <;> simp
@[simp] theorem State.without_takeEcho (s : State) (p n f l) : (s.takeEcho p n f l).quiet.without p = s.quiet.without p := by
  unfold State.takeEcho
  repeat' split
  all_goals simp
@[simp] theorem State.without_echoExpired (s : State) (p) : (s.echoExpired p).quiet.without p = s.quiet.without p := by
  unfold State.echoExpired
  repeat' split
  all_goals simp
@[simp] theorem State.without_takeResult (s : State) (p g b) : (s.takeResult p g b).quiet.without p = s.quiet.without p := by
  unfold State.takeResult
  repeat' split
  all_goals simp
@[simp] theorem State.without_resultExpired (s : State) (p) : (s.resultExpired p).quiet.without p = s.quiet.without p := by
  unfold State.resultExpired
  repeat' split
  all_goals simp
@[simp] theorem State.without_transmitUp (s : State) (p k) : (s.transmitUp p k).quiet.without p = s.quiet.without p := by
  unfold State.transmitUp
  simp only
  repeat' split
  all_goals simp
@[simp] theorem State.without_transmit (s : State) (p k) : (s.transmit p k).quiet.without p = s.quiet.without p := by
  unfold State.transmit
  simp only
  repeat' split
  all_goals simp
@[simp] theorem State.without_sleepPort (s : State) (p) : (s.sleepPort p).quiet.without p = s.quiet.without p := by
  unfold State.sleepPort
  split <;> simp

/-! ## The port itself, but for its queue and its buffers -/

/-- What an operation that keeps the quiet parts leaves of a port is what there was. -/
theorem State.spine_quiet {s t : State} {p : PortId} {x : Port} (h : t.quiet = s.quiet) (hx : (s.port p).spine = x) :
    (t.port p).spine = x := (State.spine_of_quiet h p).trans hx

theorem State.spine_endTestWith (s : State) (p o d) :
    ((s.endTestWith p o d).port p).spine = { (s.port p).spine with test := none } := by
  unfold State.endTestWith
  split
  · next h =>
    have hspine : (s.port p).spine.test = none := h
    rw [← hspine]
  · refine State.spine_quiet (State.quiet_hand _ _ _) ?_
    rw [State.port_modPort_self]
    rfl

theorem State.spine_exitUp (s : State) (p) : ((s.exitUp p).port p).spine = (s.port p).leftUp.spine := by
  unfold State.exitUp State.endTest
  rw [State.spine_endTestWith, State.spine_of_quiet (State.quiet_flushPort _ _)]
  simp only
  rw [State.spine_of_quiet (foldl_keeps State.quiet _ State.quiet_noteTable _ _), State.port_modPort_self]
  rfl

theorem State.spine_enterListen (s : State) (p) : ((s.enterListen p).port p).spine = (s.port p).listening.spine := by
  unfold State.enterListen
  rw [State.spine_of_quiet (State.quiet_portLeft _ _), State.port_modPort_self]
  rfl

theorem State.spine_enterOffer (s : State) (p) :
    ((s.enterOffer p).port p).spine = ((s.port p).offering s.policy.ceiling).spine := by
  unfold State.enterOffer
  rw [State.spine_of_quiet (State.quiet_portLeft _ _), State.port_modPort_self]
  rfl

@[simp] theorem State.port_beginAttempt (s : State) (p g) :
    (s.beginAttempt p g).port p = (s.port p).training g s.policy.train := by
  unfold State.beginAttempt
  rw [State.port_modPort_self]
  rfl

@[simp] theorem State.port_enterUp (s : State) (p n) : (s.enterUp p n).port p = (s.port p).raised n s.policy.silence := by
  have : (s.enterUp p n).port p = (s.modPort p fun x => x.raised n s.policy.silence).port p := rfl
  rw [this, State.port_modPort_self]

theorem State.spine_enterLost (s : State) (p c) : ((s.enterLost p c).port p).spine = ((s.port p).givenUp c).spine := by
  have hleft : ((((s.raiseTile.modPort p fun x => x.givenUp c).flushPort p).portLeft p).port p).spine =
      ((s.port p).givenUp c).spine := by
    rw [State.spine_of_quiet (State.quiet_portLeft _ _), State.spine_of_quiet (State.quiet_flushPort _ _),
      State.port_modPort_self]
    rfl
  unfold State.enterLost
  simp only
  split
  · exact hleft
  · exact State.spine_quiet (State.quiet_lostTile _ _) hleft

theorem State.spine_goOff (s : State) (p) : ((s.goOff p).port p).spine = (s.port p).switchedOff.spine := by
  unfold State.goOff
  simp only
  rw [State.spine_of_quiet (State.quiet_portLeft _ _), State.spine_of_quiet (State.quiet_flushPort _ _),
    State.port_modPort_self]
  rfl

end Sys2Proof.Machine

/-! SUPPORT. O57: what `Port.ok` says of a port, kept by each entry into a link state, by the stream and by the transmitter. -/
namespace Sys2Proof.Machine

/-! ## A port that may enter any link state -/

/-- The counts of a port in their ranges. -/
def Port.counts (x : Port) : Prop :=
  x.tally ≤ Config.tallyLimit ∧ x.stability ≤ Config.stabilityLimit ∧ x.lockCount ≤ Config.lockPackets

/-- Nothing outstanding, and the tally below its limit. -/
def Port.cleared (x : Port) : Prop := x.counts ∧ x.window = [] ∧ x.tally ≠ Config.tallyLimit

theorem Port.ok_of_spine {x y : Port} (h : y.spine = x.spine) (hx : x.ok) : y.ok := (h ▸ hx : y.spine.ok)
theorem Port.counts_of_spine {x y : Port} (h : y.spine = x.spine) (hx : x.counts) : y.counts := (h ▸ hx : y.spine.counts)
theorem Port.cleared_of_spine {x y : Port} (h : y.spine = x.spine) (hx : x.cleared) : y.cleared := (h ▸ hx : y.spine.cleared)
theorem Port.link_of_spine {x y : Port} (h : y.spine = x.spine) : y.link = x.link := (congrArg Port.link h : y.spine.link = _)
theorem Port.lostCause_of_spine {x y : Port} (h : y.spine = x.spine) : y.lostCause = x.lostCause :=
  (congrArg Port.lostCause h : y.spine.lostCause = _)
theorem Port.window_of_spine {x y : Port} (h : y.spine = x.spine) : y.window = x.window :=
  (congrArg Port.window h : y.spine.window = _)

theorem Port.counts_of_ok {x : Port} (h : x.ok) : x.counts := by
  obtain ⟨-, -, -, htally, -, hstability, hlock, -⟩ := h
  exact ⟨htally, hstability, hlock⟩

/-- Outside UP and LOST a port in order is cleared. -/
theorem Port.cleared_of_ok {x : Port} (h : x.ok) (hup : x.link ≠ .up) (hlost : x.link ≠ .lost) : x.cleared := by
  have hcounts := Port.counts_of_ok h
  obtain ⟨-, hwindow, -, -, hlimit, -⟩ := h
  exact ⟨hcounts, hwindow hup, fun k => hlost (hlimit k)⟩

theorem Port.lostCause_of_ok {x : Port} (h : x.ok) (hlost : x.link ≠ .lost) : x.lostCause = none := by
  obtain ⟨-, -, -, -, -, -, -, hcause⟩ := h
  cases hc : x.lostCause with
  | none => rfl
  | some _ => exact absurd (hcause.mp (by simp [hc])) hlost

/-- An outstanding packet means UP. -/
theorem Port.up_of_window {x : Port} (h : x.ok) (hne : x.window ≠ []) : x.link = .up := by
  obtain ⟨-, hwindow, -⟩ := h
  exact Classical.not_not.mp fun k => hne (hwindow k)

/-- A port with nothing outstanding is in order where tally and LOST cause agree with its link state. -/
theorem Port.ok_of_empty {x : Port} (hcounts : x.counts) (hwindow : x.window = [])
    (hlimit : x.tally = Config.tallyLimit → x.link = .lost) (hcause : x.lostCause.isSome ↔ x.link = .lost) : x.ok := by
  obtain ⟨htally, hstability, hlock⟩ := hcounts
  refine ⟨by simp [hwindow], fun _ => hwindow, ?_, htally, hlimit, hstability, hlock, hcause⟩
  unfold Port.numbersOk
  rw [hwindow]
  exact trivial

theorem Port.ok_of_cleared {x : Port} (h : x.cleared) (hlink : x.link ≠ .lost) (hcause : x.lostCause = none) : x.ok := by
  obtain ⟨hcounts, hwindow, htally⟩ := h
  exact Port.ok_of_empty hcounts hwindow (fun k => absurd k htally) (by simp [hcause, hlink])

/-! ## Entries into link states -/

theorem Port.cleared_leftUp {x : Port} (h : x.ok) (hup : x.link = .up) : x.leftUp.cleared := by
  obtain ⟨-, -, -, htally, hlimit, -, hlock, -⟩ := h
  exact ⟨⟨htally, Nat.zero_le _, hlock⟩, rfl, fun k => by simp [hlimit k] at hup⟩

theorem Port.ok_listening {x : Port} (h : x.cleared) : x.listening.ok :=
  Port.ok_of_cleared (x := x.listening) h nofun rfl

theorem Port.ok_offering {x : Port} (h : x.cleared) (hcause : x.lostCause = none) (c) : (x.offering c).ok :=
  Port.ok_of_cleared (x := x.offering c) h nofun hcause

theorem Port.cleared_training {x : Port} (h : x.cleared) (g n) : (x.training g n).cleared := by
  obtain ⟨⟨htally, hstability, -⟩, hwindow, hlimit⟩ := h
  exact ⟨⟨htally, hstability, Nat.zero_le _⟩, hwindow, hlimit⟩

theorem Port.ok_training {x : Port} (h : x.cleared) (hcause : x.lostCause = none) (g n) : (x.training g n).ok :=
  Port.ok_of_cleared (Port.cleared_training h g n) nofun hcause

theorem Port.ok_raised {x : Port} (h : x.cleared) (hcause : x.lostCause = none) (e n) : (x.raised e n).ok := by
  obtain ⟨⟨htally, -, hlock⟩, hwindow, hlimit⟩ := h
  exact Port.ok_of_cleared (x := x.raised e n) ⟨⟨htally, Nat.zero_le _, hlock⟩, hwindow, hlimit⟩ nofun hcause

theorem Port.ok_givenUp {x : Port} (h : x.counts) (c) : (x.givenUp c).ok := by
  obtain ⟨htally, hstability, -⟩ := h
  refine Port.ok_of_empty (x := x.givenUp c) ⟨htally, hstability, Nat.zero_le _⟩ rfl (fun _ => rfl) ?_
  exact ⟨fun _ => rfl, fun _ => rfl⟩

theorem Port.ok_switchedOff {x : Port} (h : x.counts) (htally : x.tally ≠ Config.tallyLimit) : x.switchedOff.ok :=
  Port.ok_of_cleared (x := x.switchedOff) ⟨h, rfl, htally⟩ nofun rfl

/-! ## The window -/

/-- The next packet joins the window of an UP port with room in it (R101). -/
theorem Port.ok_sendFirst {x : Port} (h : x.ok) (hup : x.link = .up) (hroom : x.window.length < Config.windowSize) (n kept k) :
    (x.sendFirst n kept k).ok := by
  obtain ⟨-, -, hnumbers, htally, hlimit, hstability, hlock, hcause⟩ := h
  have hlink : (x.sendFirst n kept k).link = .up := by
    unfold Port.sendFirst Port.armAckTimer
    split <;> exact hup
  have hfields : (x.sendFirst n kept k).tally = x.tally ∧ (x.sendFirst n kept k).stability = x.stability ∧
      (x.sendFirst n kept k).lockCount = x.lockCount ∧ (x.sendFirst n kept k).lostCause = x.lostCause := by
    unfold Port.sendFirst Port.armAckTimer
    split <;> exact ⟨rfl, rfl, rfl, rfl⟩
  obtain ⟨htally', hstability', hlock', hcause'⟩ := hfields
  have hwindow : (x.sendFirst n kept k).window = x.window ++ [{ number := x.nextSeq, packet := kept, retries := 0 }] := rfl
  have hnext : (x.sendFirst n kept k).nextSeq = x.nextSeq + 1 := rfl
  refine ⟨?_, fun k => absurd hlink k, ?_, htally' ▸ htally, fun k => ?_, hstability' ▸ hstability, hlock' ▸ hlock, ?_⟩
  · rw [hwindow, List.length_append]
    exact hroom
  · unfold Port.numbersOk at hnumbers ⊢
    rw [hwindow, hnext]
    match hw : x.window, hnumbers, hroom with
    | [], _, _ => rfl
    | [a], hnumbers, _ => exact ⟨hnumbers, rfl⟩
    | _ :: _ :: _, _, hroom => exact absurd hroom (by simp [Config.windowSize])
  · rw [htally'] at k
    rw [hlimit k] at hup
    exact nomatch hup
  · rw [hcause', hlink, hcause, hup]

/-- The oldest packet leaves the window (R103). -/
theorem Port.ok_popWindow {x : Port} (h : x.ok) (o) : (x.popWindow o).ok := by
  obtain ⟨hlength, hwindow, hnumbers, hrest⟩ := h
  refine ⟨?_, fun k => ?_, ?_, hrest⟩
  · exact (List.length_tail (l := x.window) ▸ Nat.sub_le _ _).trans hlength
  · exact congrArg List.tail (hwindow k)
  · unfold Port.numbersOk at hnumbers ⊢
    have htail : (x.popWindow o).window = x.window.tail := rfl
    rw [htail]
    match hw : x.window, hnumbers, hlength with
    | [], _, _ => exact trivial
    | [_], _, _ => exact trivial
    | [_, b], hnumbers, _ => exact hnumbers.2
    | _ :: _ :: _ :: _, _, hlength => exact absurd hlength (by simp [Config.windowSize])

/-- A resend is counted below the limit of the tally (R106, R91). -/
theorem Port.ok_countResend {x : Port} (h : x.ok) (hup : x.link = .up) (n) (hne : (x.countResend n).tally ≠ Config.tallyLimit) :
    (x.countResend n).ok := by
  obtain ⟨hlength, hwindow, hnumbers, htally, hlimit, hstability, hlock, hcause⟩ := h
  have hbelow : x.tally ≠ Config.tallyLimit := fun k => by simp [hlimit k] at hup
  refine ⟨?_, fun k => absurd hup k, ?_, ?_, fun k => absurd k hne, hstability, hlock, hcause⟩
  · unfold Port.countResend
    simpa using hlength
  · unfold Port.numbersOk at hnumbers ⊢
    have hmapped : (x.countResend n).window =
      x.window.map (fun o => if o.number = n then { o with retries := o.retries + 1 } else o) := rfl
    have hnumber (o : Outstanding) : (if o.number = n then { o with retries := o.retries + 1 } else o).number = o.number := by
      split <;> rfl
    rw [hmapped]
    match hw : x.window, hnumbers with
    | [], _ => exact trivial
    | [a], hnumbers => exact hnumbers.trans (congrArg (· + 1) (hnumber a).symm)
    | a :: b :: _, hnumbers =>
      obtain ⟨hab, hnext⟩ := hnumbers
      exact ⟨by rw [hnumber, hnumber]; exact hab, by rw [hnumber]; exact hnext⟩
  · exact Nat.lt_of_le_of_ne htally hbelow

/-! ## Operations of a port -/

section
variable {s : State} {p : PortId}

theorem State.ok_keeps {t : State} (h : t.quiet = s.quiet) (hok : (s.port p).ok) : (t.port p).ok :=
  Port.ok_of_spine (State.spine_of_quiet h p) hok

/-- A change of the port is in order where the port it leaves is. -/
theorem State.ok_modPort {f : Port → Port} (h : (f (s.port p)).ok) : ((s.modPort p f).port p).ok := by
  rw [State.port_modPort_self]
  exact h

theorem State.spine_halt (s : State) (c : HaltCause) (p : PortId) : ((s.halt c).port p).spine = (s.port p).spine :=
  Port.spine_eq_of_map (congrArg State.ports (s.quiet_halt c)) p

theorem State.ok_endTestWith (h : (s.port p).ok) (o d) : ((s.endTestWith p o d).port p).ok := by
  have hspine := s.spine_endTestWith p o d
  have hok : ({ (s.port p).spine with test := none } : Port).ok := h
  exact (hspine ▸ hok : ((s.endTestWith p o d).port p).spine.ok)

theorem State.cleared_exitUp (h : (s.port p).ok) (hup : (s.port p).link = .up) : ((s.exitUp p).port p).cleared :=
  Port.cleared_of_spine (s.spine_exitUp p) (Port.cleared_leftUp h hup)

theorem State.lostCause_exitUp (h : (s.port p).ok) (hup : (s.port p).link = .up) : ((s.exitUp p).port p).lostCause = none :=
  (Port.lostCause_of_spine (s.spine_exitUp p)).trans (Port.lostCause_of_ok (x := s.port p) h (by simp [hup]))

theorem State.ok_enterListen (h : (s.port p).cleared) : ((s.enterListen p).port p).ok :=
  Port.ok_of_spine (s.spine_enterListen p) (Port.ok_listening h)

theorem State.ok_enterOffer (h : (s.port p).cleared) (hcause : (s.port p).lostCause = none) : ((s.enterOffer p).port p).ok :=
  Port.ok_of_spine (s.spine_enterOffer p) (Port.ok_offering h hcause _)

theorem State.ok_beginAttempt (h : (s.port p).cleared) (hcause : (s.port p).lostCause = none) (g) :
    ((s.beginAttempt p g).port p).ok := by
  rw [State.port_beginAttempt]
  exact Port.ok_training h hcause _ _

theorem State.ok_enterUp (h : (s.port p).cleared) (hcause : (s.port p).lostCause = none) (n) : ((s.enterUp p n).port p).ok := by
  rw [State.port_enterUp]
  exact Port.ok_raised h hcause _ _

theorem State.ok_enterLost (h : (s.port p).counts) (c) : ((s.enterLost p c).port p).ok :=
  Port.ok_of_spine (s.spine_enterLost p c) (Port.ok_givenUp h c)

theorem State.ok_goOff (h : (s.port p).counts) (htally : (s.port p).tally ≠ Config.tallyLimit) : ((s.goOff p).port p).ok :=
  Port.ok_of_spine (s.spine_goOff p) (Port.ok_switchedOff h htally)

theorem State.ok_countFailure (h : (s.port p).cleared) (hcause : (s.port p).lostCause = none) :
    ((s.countFailure p).port p).ok := by
  have hcounted (n : Nat) : ((s.modPort p fun x => { x with attempts := n }).port p).cleared := by
    rw [State.port_modPort_self]
    exact h
  have hcause' (n : Nat) : ((s.modPort p fun x => { x with attempts := n }).port p).lostCause = none := by
    rw [State.port_modPort_self]
    exact hcause
  unfold State.countFailure
  simp only
  split
  · exact State.ok_beginAttempt (hcounted _) (hcause' _) _
  · split
    · exact State.ok_enterLost (hcounted _).1 _
    · have hspine := State.spine_of_quiet (State.quiet_noteDownshift
        ((s.modPort p fun x => { x with attempts := (s.port p).attempts + 1 }).modPort p fun x => { x with
          attempts := 0, ind := { x.ind with downshifted := true },
          ctr := { x.ctr with downshifts := satInc x.ctr.downshifts } }) p) p
      refine State.ok_beginAttempt (Port.cleared_of_spine hspine ?_) ((Port.lostCause_of_spine hspine).trans ?_) _
      · rw [State.port_modPort_self, State.port_modPort_self]
        exact h
      · rw [State.port_modPort_self, State.port_modPort_self]
        exact hcause

theorem State.ok_exhaust (h : (s.port p).ok) (hup : (s.port p).link = .up) : ((s.exhaust p).port p).ok := by
  have hcounted : ((s.modPort p Port.countRetrain).port p).ok := State.ok_modPort h
  have hlink : ((s.modPort p Port.countRetrain).port p).link = .up := by
    rw [State.port_modPort_self]
    exact hup
  exact State.ok_keeps (State.quiet_noteRetrain _ _)
    (State.ok_countFailure (State.cleared_exitUp hcounted hlink) (State.lostCause_exitUp hcounted hlink))

theorem State.ok_restartOffer (h : (s.port p).cleared) : ((s.restartOffer p).port p).ok := by
  refine State.ok_enterListen ?_
  rw [State.port_modPort_self]
  exact h

theorem State.ok_endExchange (h : (s.port p).cleared) (hcause : (s.port p).lostCause = none) (o) :
    ((s.endExchange p o).port p).ok := by
  unfold State.endExchange
  split
  · have hspine := State.spine_of_quiet (State.quiet_takeReports (s.modPort p fun x => { x.dropQueued Reliable.isDiscard with
      identity := { abilities := o.abilities, model := o.model, width := o.width, height := o.height }
      nextSeq := 0, offerTimer := none }) p o) p
    refine State.ok_beginAttempt (Port.cleared_of_spine hspine ?_) ((Port.lostCause_of_spine hspine).trans ?_) _
    · rw [State.port_modPort_self]
      exact h
    · rw [State.port_modPort_self]
      exact hcause
  · exact State.ok_enterLost h.1 _
  · exact State.ok_enterLost h.1 _

theorem State.ok_checkExchange (h : (s.port p).ok) : ((s.checkExchange p).port p).ok := by
  unfold State.checkExchange
  split
  · exact h
  · split
    · next hc =>
      simp only [Bool.and_eq_true, beq_iff_eq] at hc
      obtain ⟨⟨hlink, -⟩, -⟩ := hc
      exact State.ok_endExchange (Port.cleared_of_ok h (by simp [hlink]) (by simp [hlink])) (Port.lostCause_of_ok h (by simp [hlink])) _
    · exact h

theorem State.ok_takeOffer (h : (s.port p).ok) (hlink : (s.port p).link = .offer) (o) : ((s.takeOffer p o).port p).ok := by
  have hcleared := Port.cleared_of_ok h (by simp [hlink]) (by simp [hlink])
  have hite {c : Prop} [Decidable c] {t u : State} (ht : (t.port p).ok) (hu : (u.port p).ok) :
      ((if c then t else u).port p).ok := by split <;> assumption
  unfold State.takeOffer
  split
  · exact State.ok_restartOffer hcleared
  · exact hite (State.ok_restartOffer hcleared) (State.ok_checkExchange (State.ok_modPort h))

theorem State.counts_leaveForRequest (h : (s.port p).ok) : ((s.leaveForRequest p).port p).counts := by
  unfold State.leaveForRequest
  split
  · next hup => exact (State.cleared_exitUp h hup).1
  all_goals exact Port.counts_of_ok h

theorem State.ok_restartPort (h : (s.port p).ok) : ((s.restartPort p).port p).ok := by
  have hoff := (s.leaveForRequest p).spine_goOff p
  have hcounts : (((s.leaveForRequest p).goOff p).port p).counts :=
    Port.counts_of_spine hoff (State.counts_leaveForRequest h)
  have hwindow : (((s.leaveForRequest p).goOff p).port p).window = [] := Port.window_of_spine hoff
  have hlink : (((s.leaveForRequest p).goOff p).port p).link = .off := Port.link_of_spine hoff
  have hcause : (((s.leaveForRequest p).goOff p).port p).lostCause = none := Port.lostCause_of_spine hoff
  obtain ⟨-, -, hlock⟩ := hcounts
  have hreset (g : Grade) : ({ ((s.leaveForRequest p).goOff p).port p with
      tally := 0, attempts := 0, stability := 0, ind := .clear, grade := g } : Port).cleared :=
    ⟨⟨Nat.zero_le _, Nat.zero_le _, hlock⟩, hwindow, nofun⟩
  unfold State.restartPort
  simp only
  split
  · refine State.ok_enterListen ?_
    rw [State.port_modPort_self]
    exact hreset _
  · refine State.ok_modPort (Port.ok_of_cleared (hreset _) ?_ hcause)
    exact fun k => nomatch hlink.symm.trans k

theorem State.ok_recoverPort (h : (s.port p).ok) : ((s.recoverPort p).port p).ok := by
  obtain ⟨-, -, hlock⟩ := State.counts_leaveForRequest h
  have hreset (g : Grade) : (((s.leaveForRequest p).modPort p fun x => { x.clearStream with
      tally := 0, attempts := 0, stability := 0, grade := g }).port p).cleared := by
    rw [State.port_modPort_self]
    exact ⟨⟨Nat.zero_le _, Nat.zero_le _, hlock⟩, rfl, nofun⟩
  unfold State.recoverPort
  simp only
  split
  · exact State.ok_goOff (hreset _).1 (hreset _).2.2
  · exact State.ok_enterListen (Port.cleared_of_spine (State.spine_of_quiet (State.quiet_flushPort _ _) p) (hreset _))

theorem State.ok_applyCeiling (h : (s.port p).ok) : ((s.applyCeiling p).port p).ok := by
  unfold State.applyCeiling
  simp only
  split
  · exact h
  · split
    · next hlink =>
      refine State.ok_beginAttempt ?_ ?_ _
      · rw [State.port_modPort_self]
        exact Port.cleared_of_ok h (by simp [hlink]) (by simp [hlink])
      · rw [State.port_modPort_self]
        exact Port.lostCause_of_ok h (by simp [hlink])
    · next hup =>
      have hcounted : ((s.modPort p fun x => { x.countRetrain with attempts := 0 }).port p).ok := State.ok_modPort h
      have hlink : ((s.modPort p fun x => { x.countRetrain with attempts := 0 }).port p).link = .up := by
        rw [State.port_modPort_self]
        exact hup
      exact State.ok_keeps (State.quiet_noteRetrain _ _)
        (State.ok_beginAttempt (State.cleared_exitUp hcounted hlink) (State.lostCause_exitUp hcounted hlink) _)
    all_goals exact h

theorem State.ok_fallSilent (h : (s.port p).ok) (hup : (s.port p).link = .up) : ((s.fallSilent p).port p).ok := by
  have hnoted : ((s.modPort p fun x => { x with ind := { x.ind with syncLost := true } }).port p).ok := State.ok_modPort h
  have hlink : ((s.modPort p fun x => { x with ind := { x.ind with syncLost := true } }).port p).link = .up := by
    rw [State.port_modPort_self]
    exact hup
  have hlistens := State.ok_enterListen (State.cleared_exitUp hnoted hlink)
  unfold State.fallSilent
  simp only
  split
  · exact hlistens
  · exact State.ok_keeps (State.quiet_blankFront _ _) hlistens

theorem State.ok_takeTrain (h : (s.port p).ok) (hlink : (s.port p).link = .train) (g l n) :
    ((s.takeTrain p g l n).port p).ok := by
  have hcause := Port.lostCause_of_ok h (by simp [hlink])
  obtain ⟨⟨htally, hstability, hlock⟩, hwindow, hlimit⟩ := Port.cleared_of_ok h (by simp [hlink]) (by simp [hlink])
  have hcounted : (s.port p).trainCount g ≤ Config.lockPackets := by
    unfold Port.trainCount
    split
    · exact Nat.min_le_right _ _
    · exact Nat.zero_le _
  have hcleared (b : Bool) : ((s.setPort p { s.port p with lockCount := (s.port p).trainCount g, locked := b }).port p).cleared := by
    rw [State.port_setPort_self]
    exact ⟨⟨htally, hstability, hcounted⟩, hwindow, hlimit⟩
  unfold State.takeTrain
  simp only
  split
  · refine State.ok_enterUp (hcleared _) ?_ _
    rw [State.port_setPort_self]
    exact hcause
  · refine Port.ok_of_cleared (hcleared _) ?_ ?_
    · rw [State.port_setPort_self]
      simp [hlink]
    · rw [State.port_setPort_self]
      exact hcause

/-! ## Stream -/

theorem State.ok_ackOldest (h : (s.port p).ok) (k : Nat) : ((s.ackOldest p k).port p).ok := by
  induction k generalizing s with
  | zero => exact h
  | succ k ih =>
    unfold State.ackOldest
    split
    · exact h
    · exact ih (State.ok_keeps (State.quiet_ackOwner _ _ _) (State.ok_modPort (Port.ok_popWindow h _)))

theorem State.ok_acknowledge (h : (s.port p).ok) (k : Nat) : ((s.acknowledge p k).port p).ok := by
  unfold State.acknowledge
  split
  · exact h
  · exact State.ok_modPort (f := fun x => x.afterAcks _) (State.ok_ackOldest h k)

theorem State.ok_takeAck (h : (s.port p).ok) (n) : ((s.takeAck p n).port p).ok := by
  unfold State.takeAck
  split
  · exact h
  · exact State.ok_acknowledge h _

theorem State.ok_beginRun (h : (s.port p).ok) (i) : ((s.beginRun p i).port p).ok := by
  unfold State.beginRun
  simp only
  split
  · next hspent =>
    refine State.ok_exhaust h (Port.up_of_window h fun hw => ?_)
    simp [hw] at hspent
  · exact State.ok_modPort h

theorem State.ok_runFromOldest (h : (s.port p).ok) : ((s.runFromOldest p).port p).ok := by
  unfold State.runFromOldest
  split
  · exact h
  · exact State.ok_beginRun (State.ok_modPort h) 0

theorem State.ok_takeNak (h : (s.port p).ok) (e) : ((s.takeNak p e).port p).ok := by
  have hcounted : ((s.modPort p fun x => { x with ctr := { x.ctr with naks := satInc x.ctr.naks } }).port p).ok :=
    State.ok_modPort h
  unfold State.takeNak
  simp only
  split
  · exact State.ok_acknowledge hcounted _
  · split
    · exact hcounted
    · split
      · exact hcounted
      · have hacked (i : Nat) := State.ok_modPort (f := fun x => { x with answered := some e }) (State.ok_acknowledge hcounted i)
        split
        · exact State.ok_modPort (hacked _)
        · exact State.ok_beginRun (hacked _) 0

theorem State.ok_ackExpired (h : (s.port p).ok) : ((s.ackExpired p).port p).ok := State.ok_runFromOldest (State.ok_modPort h)

theorem State.ok_endHold (h : (s.port p).ok) : ((s.endHold p).port p).ok := by
  unfold State.endHold
  simp only
  split
  · exact State.ok_runFromOldest (State.ok_modPort h)
  · exact State.ok_modPort h

theorem State.ok_takeHold (h : (s.port p).ok) (q) : ((s.takeHold p q).port p).ok := by
  have hnoted : ((s.modPort p fun x => { x with ind := { x.ind with holdSeen := true } }).port p).ok := State.ok_modPort h
  unfold State.takeHold
  simp only
  split
  · split
    · exact State.ok_endHold hnoted
    · exact hnoted
  · exact State.ok_modPort hnoted

theorem State.ok_sendStripe (h : (s.port p).ok) (hup : (s.port p).link = .up)
    (hroom : (s.port p).window.length < Config.windowSize) (b r) : ((s.sendStripe p b r).port p).ok := by
  unfold State.sendStripe
  simp only
  split
  · next st _ =>
    split
    · rw [State.port_modTile, State.port_setPort_self]
      have hbuf := (s.port p).spine_setBuf b (.sent st)
      refine Port.ok_sendFirst (Port.ok_of_spine hbuf h) ((Port.link_of_spine hbuf).trans hup) ?_ _ _ _
      rw [Port.window_of_spine hbuf]
      exact hroom
    · exact Port.ok_of_spine (s.spine_halt _ p) h
  all_goals
    rw [State.port_setPort_self]
    exact h

theorem State.ok_sendFlip (h : (s.port p).ok) (hup : (s.port p).link = .up)
    (hroom : (s.port p).window.length < Config.windowSize) (e f k) : ((s.sendFlip p e f k).port p).ok := by
  unfold State.sendFlip
  split
  · exact State.ok_modPort h
  · refine State.ok_keeps (State.quiet_settleScene _) (State.ok_keeps (State.quiet_modScene _ _) ?_)
    rw [State.port_modTile]
    exact State.ok_modPort (Port.ok_sendFirst h hup hroom _ _ _)

theorem State.ok_sendHead (h : (s.port p).ok) (hup : (s.port p).link = .up)
    (hroom : (s.port p).window.length < Config.windowSize) (k r) : ((s.sendHead p k r).port p).ok := by
  unfold State.sendHead
  split
  · exact State.ok_sendStripe h hup hroom _ _
  · exact State.ok_sendFlip h hup hroom _ _ _
  all_goals exact State.ok_modPort (Port.ok_sendFirst h hup hroom _ _ _)

theorem State.ok_sendResend (h : (s.port p).ok) (hup : (s.port p).link = .up) (n rest r) :
    ((s.sendResend p n rest r).port p).ok := by
  have hrun : (s.modPort p fun x => { x with run := rest }).port p = { s.port p with run := rest } := State.port_modPort_self _ _ _
  have hok : ({ s.port p with run := rest } : Port).ok := h
  unfold State.sendResend
  simp only [hrun]
  split
  · rw [hrun]
    exact hok
  · split
    · exact Port.ok_of_spine (State.spine_halt _ _ _) (hrun ▸ hok)
    · next o _ _ =>
      have hspine := State.spine_of_quiet (State.quiet_noteResent ((s.modPort p fun x => { x with run := rest }).modPort p
        fun x => x.countResend n) p o.packet) p
      rw [State.port_modPort_self, hrun] at hspine
      split
      · refine State.ok_enterLost (Port.counts_of_spine (State.spine_exitUp _ _) ?_) _
        obtain ⟨htally, -, hlock⟩ := Port.counts_of_ok hok
        have hbelow : (s.port p).tally ≠ Config.tallyLimit := fun k => by
          obtain ⟨-, -, -, -, hlimit, -⟩ := h
          simp [hlimit k] at hup
        have hcounts : (({ s.port p with run := rest } : Port).countResend n).leftUp.spine.counts :=
          ⟨Nat.lt_of_le_of_ne htally hbelow, Nat.zero_le _, hlock⟩
        have hleft (x y : Port) (hxy : x.spine = y.spine) (hy : y.leftUp.spine.counts) : x.leftUp.counts := by
          have htally' : x.tally = y.tally := (congrArg Port.tally hxy : x.spine.tally = _)
          have hlock' : x.lockCount = y.lockCount := (congrArg Port.lockCount hxy : x.spine.lockCount = _)
          obtain ⟨ha, hb, hc⟩ := hy
          exact ⟨htally'.le.trans ha, Nat.zero_le _, hlock'.le.trans hc⟩
        exact hleft _ _ hspine hcounts
      · next hne =>
        have htally := (congrArg Port.tally hspine : (Port.spine _).tally = (Port.spine _).tally)
        have hcounted : (({ s.port p with run := rest } : Port).countResend n).ok :=
          Port.ok_countResend hok hup n fun k => hne (htally.trans k)
        have hkept := Port.ok_of_spine hspine hcounted
        split
        · exact hkept
        · exact State.ok_modPort (f := fun x => x.begin _) hkept

theorem State.ok_countEcho (h : (s.port p).ok) (k) : ((s.countEcho p k).port p).ok := by
  unfold State.countEcho
  simp only
  split
  · exact State.ok_modPort h
  · exact State.ok_endTestWith (State.ok_modPort h) _ _

theorem State.ok_takeEcho (h : (s.port p).ok) (n f l) : ((s.takeEcho p n f l).port p).ok := by
  unfold State.takeEcho
  repeat' split
  · exact h
  · exact State.ok_countEcho h _
  · exact State.ok_countEcho h _
  · exact State.ok_countEcho h _
  · exact h

theorem State.ok_echoExpired (h : (s.port p).ok) : ((s.echoExpired p).port p).ok := by
  unfold State.echoExpired
  repeat' split
  · exact h
  · exact State.ok_countEcho h _
  · exact h

theorem State.ok_takeResult (h : (s.port p).ok) (g b) : ((s.takeResult p g b).port p).ok := by
  unfold State.takeResult
  repeat' split
  · exact h
  · exact State.ok_endTestWith h _ _
  · exact h

theorem State.ok_resultExpired (h : (s.port p).ok) : ((s.resultExpired p).port p).ok := by
  unfold State.resultExpired
  repeat' split
  · exact h
  · exact State.ok_endTestWith h _ _
  · exact h

/-! ## Transmitter -/

theorem State.ok_transmitUp (h : (s.port p).ok) (hup : (s.port p).link = .up) (r) : ((s.transmitUp p r).port p).ok := by
  unfold State.transmitUp
  simp only
  split
  · have hbegun : ((s.modPort p fun x => x.begin .sleepNotice).port p).ok := State.ok_modPort h
    have hlink : ((s.modPort p fun x => x.begin .sleepNotice).port p).link = .up := by
      rw [State.port_modPort_self]
      exact hup
    obtain ⟨hcounts, -, htally⟩ := State.cleared_exitUp hbegun hlink
    exact State.ok_goOff hcounts htally
  · split
    · exact State.ok_modPort h
    · exact State.ok_sendResend h hup _ _ _
    · split
      · next hmay =>
        have hroom : (s.port p).window.length < Config.windowSize := by
          simp only [Port.mayStart, Bool.and_eq_true, decide_eq_true_eq] at hmay
          exact hmay.1.1.1
        exact State.ok_sendHead h hup hroom _ _
      · split
        · exact State.ok_modPort (f := fun x => x.sendTest _ _) h
        · exact h
      · exact h

theorem State.ok_transmit (h : (s.port p).ok) (r) : ((s.transmit p r).port p).ok := by
  unfold State.transmit
  simp only
  split
  · exact h
  · exact h
  · exact h
  · split
    · exact State.ok_modPort h
    · exact h
  · split
    · exact h
    · exact State.ok_checkExchange (State.ok_modPort h)
  · exact State.ok_modPort h
  · next hup => exact State.ok_transmitUp h hup r

theorem State.ok_sleepPort (h : (s.port p).ok) : ((s.sleepPort p).port p).ok := by
  have hoff (hup : (s.port p).link ≠ .up) (hlost : (s.port p).link ≠ .lost) : ((s.goOff p).port p).ok := by
    obtain ⟨hcounts, -, htally⟩ := Port.cleared_of_ok h hup hlost
    exact State.ok_goOff hcounts htally
  unfold State.sleepPort
  split
  · next hlink => exact hoff (by simp [hlink]) (by simp [hlink])
  · next hlink => exact hoff (by simp [hlink]) (by simp [hlink])
  · next hlink => exact hoff (by simp [hlink]) (by simp [hlink])
  all_goals exact h

end

end Sys2Proof.Machine

/-! SUPPORT. O57: `Port.ok` of every port, kept by every command and by the passing of time. -/
namespace Sys2Proof.Machine

/-! ## Answers and loops -/

/-- The command answers a next state that satisfies `P`. -/
def Leads (P : State → Prop) (o : Host.Outcome State Fault Refusal) : Prop := ∃ t, o = .next t ∧ P t

theorem Leads.next {P : State → Prop} {t : State} (h : P t) : Leads P (.next t) := ⟨t, rfl, h⟩

/-- An invariant that every command and a tick keep is kept by every step. -/
theorem kept_of_exec {I : State → Prop} (hpending : ∀ (s : State) cs, I s → I { s with pending := cs })
    (hexec : ∀ c s, I s → Leads I (exec c s)) (htick : ∀ s, I s → I s.tick) : Kept I := by
  intro s t hs hstep
  have hleads : Leads I (step s) := by
    unfold step State.idleStep
    split
    · exact hexec _ _ (hpending _ _ hs)
    · split
      · exact hexec _ _ hs
      · exact Leads.next (htick s hs)
  obtain ⟨u, hu, hI⟩ := hleads
  obtain rfl : u = t := Host.Outcome.next.inj (hu.symm.trans hstep)
  exact hI

/-- A loop keeps what each round keeps. -/
theorem State.forEach_invariant {P : State → Prop} (f : Fin 12 → State → State) (h : ∀ i s, P s → P (f i s))
    (ids : List (Fin 12)) (s : State) (hs : P s) : P (s.forEach ids f) := by
  unfold State.forEach
  induction ids generalizing s with
  | nil => exact hs
  | cons i is ih => exact ih _ (h i s hs)

/-! ## Every port in order -/

/-- Every port is in order. -/
def State.portsOk (s : State) : Prop := ∀ p : PortId, (s.port p).ok

theorem State.portsOk_of_ports {s t : State} (h : t.ports = s.ports) (hs : s.portsOk) : t.portsOk := fun p => by
  have hport : t.port p = s.port p := congrArg (fun ps => ps[p.val]) h
  rw [hport]
  exact hs p

theorem State.portsOk_of_spines {s t : State} (h : t.quiet.ports = s.quiet.ports) (hs : s.portsOk) : t.portsOk :=
  fun p => Port.ok_of_spine (Port.spine_eq_of_map h p) (hs p)

theorem State.portsOk_of_quiet {s t : State} (h : t.quiet = s.quiet) (hs : s.portsOk) : t.portsOk :=
  State.portsOk_of_spines (congrArg State.ports h) hs

/-- An operation of port `p` need only leave that port in order. -/
theorem State.portsOk_of_without {s t : State} {p : PortId} (h : t.quiet.without p = s.quiet.without p) (hp : (t.port p).ok)
    (hs : s.portsOk) : t.portsOk := fun q => by
  by_cases hq : q = p
  · exact hq ▸ hp
  · exact Port.ok_of_spine (State.spine_of_without h hq) (hs q)

theorem State.portsOk_halt {s : State} (hs : s.portsOk) (c) : (s.halt c).portsOk :=
  fun p => Port.ok_of_spine (s.spine_halt c p) (hs p)

theorem State.portsOk_modPort {s : State} (hs : s.portsOk) {p : PortId} {f : Port → Port} (h : (f (s.port p)).ok) :
    (s.modPort p f).portsOk := State.portsOk_of_without (s.without_modPort p f) (State.ok_modPort h) hs

/-! ## What follows a command -/

theorem State.portsOk_sleepPorts {s : State} (hs : s.portsOk) : s.sleepPorts.portsOk := by
  unfold State.sleepPorts
  split
  · exact State.forEach_invariant _ (fun p s hs => State.portsOk_of_without (s.without_sleepPort p) (State.ok_sleepPort (hs p)) hs)
      _ _ hs
  · exact hs

theorem State.portsOk_pump {s : State} (hs : s.portsOk) : s.pump.portsOk :=
  State.forEach_invariant _ (fun p s hs => State.portsOk_of_without (s.without_transmit p none) (State.ok_transmit (hs p) none) hs)
    _ _ hs

@[simp] theorem State.ports_completeControl (s : State) (r) : (s.completeControl r).ports = s.ports := by
  unfold State.completeControl
  split <;> rfl

@[simp] theorem State.ports_completePower (s : State) (b a) : (s.completePower b a).ports = s.ports := by
  unfold State.completePower
  split <;> simp

@[simp] theorem State.ports_settleSleep (s : State) : s.settleSleep.ports = s.ports := by
  unfold State.settleSleep
  split <;> simp

theorem State.portsOk_settle {s : State} (hs : s.portsOk) : s.settle.portsOk := by
  refine State.portsOk_of_ports (State.ports_settleSleep _) (State.portsOk_of_quiet (State.quiet_arbitrate _) ?_)
  exact State.portsOk_sleepPorts (State.portsOk_pump (State.portsOk_pump (State.portsOk_sleepPorts hs)))

theorem leads_portsOk_settled {t : State} (h : t.portsOk) : Leads State.portsOk t.settled := Leads.next (State.portsOk_settle h)

/-- A command whose effect is an operation of one port. -/
theorem leads_portsOk_of_port {s t : State} {p : PortId} (hs : s.portsOk) (h : t.quiet.without p = s.quiet.without p)
    (hp : (t.port p).ok) : Leads State.portsOk t.settled := leads_portsOk_settled (State.portsOk_of_without h hp hs)

/-- A command whose effect leaves the ports but for their queues and buffers. -/
theorem leads_portsOk_of_spines {s t : State} (hs : s.portsOk) (h : t.quiet.ports = s.quiet.ports) :
    Leads State.portsOk t.settled := leads_portsOk_settled (State.portsOk_of_spines h hs)

/-! ## The intake and the Job List -/

@[simp] theorem State.ports_lookFrame (s : State) : s.lookFrame.ports = s.ports := by
  unfold State.lookFrame
  split <;> rfl
@[simp] theorem State.ports_lookControl (s : State) : s.lookControl.ports = s.ports := by
  unfold State.lookControl
  split <;> rfl
@[simp] theorem State.ports_look (s : State) (l) : (s.look l).ports = s.ports := by
  unfold State.look
  split <;> simp
@[simp] theorem State.ports_passStep (s : State) : s.passStep.ports = s.ports := by
  unfold State.passStep
  repeat' split
  all_goals rfl
@[simp] theorem State.ports_beginPass (s : State) : s.beginPass.ports = s.ports := by simp [State.beginPass]
@[simp] theorem State.ports_endPass (s : State) : s.endPass.ports = s.ports := by
  unfold State.endPass
  repeat' split
  · rfl
  · simp
  · rfl
@[simp] theorem State.ports_chainFault (s : State) : s.chainFault.ports = s.ports := rfl
@[simp] theorem State.ports_followLink (s : State) (own a) : (s.followLink own a).ports = s.ports := by
  unfold State.followLink State.examine
  repeat' split
  · simp
  all_goals rfl
@[simp] theorem State.ports_passVoid (s : State) (a) : (s.passVoid a).ports = s.ports := by
  rw [State.passVoid_eq]
  split
  · rfl
  · simp
@[simp] theorem State.ports_takeAttention (s : State) : s.takeAttention.ports = s.ports := by
  unfold State.takeAttention
  repeat' split
  all_goals first | rfl | simp
@[simp] theorem State.ports_leftList (s : State) (n) : (s.leftList n).ports = s.ports := by
  unfold State.leftList
  split
  · simp
  · rfl
@[simp] theorem State.ports_leaveList (s : State) (j) : (s.leaveList j).ports = s.ports := by
  unfold State.leaveList
  simp only [State.ports_look, State.ports_leftList]
@[simp] theorem State.ports_makeWrite (s : State) (a w) : (s.makeWrite a w).ports = s.ports := by cases w <;> rfl
@[simp] theorem State.ports_writeResult (s : State) (j r ws) : (s.writeResult j r ws).ports = s.ports := by
  unfold State.writeResult
  simp only
  have hblock (u : State) (w : CompletionWrite) :
      (u.blockWrite j.addr (j.completionBytes r w).1 (j.completionBytes r w).2).ports = u.ports := rfl
  rw [foldl_keeps State.ports _ hblock, foldl_keeps State.ports _ (fun s w => s.ports_makeWrite _ _)]

theorem State.portsOk_passBusError {s : State} (hs : s.portsOk) : s.passBusError.portsOk := by
  unfold State.passBusError
  simp only
  split <;> exact State.portsOk_of_ports rfl (State.portsOk_halt hs _)

theorem leads_portsOk_linkRead {s : State} (hs : s.portsOk) (link) : Leads State.portsOk (execLinkRead link s) := by
  refine leads_portsOk_settled ?_
  unfold State.linkRead
  repeat' split
  · exact State.portsOk_of_ports (State.ports_followLink _ _ _) hs
  · exact State.portsOk_passBusError hs
  · exact State.portsOk_of_ports (State.ports_followLink _ _ _) hs
  all_goals exact hs

theorem leads_portsOk_lockedExchange {s : State} (hs : s.portsOk) (w) : Leads State.portsOk (execLockedExchange w s) := by
  refine leads_portsOk_settled ?_
  unfold State.exchanged
  split
  · exact hs
  · exact hs
  · exact hs
  · split
    · exact State.portsOk_passBusError hs
    · simp only
      repeat' split
      · exact State.portsOk_of_ports rfl hs
      · exact State.portsOk_of_ports (State.ports_passVoid _ _) hs
      · exact State.portsOk_of_ports rfl hs

theorem leads_portsOk_takingRead {s : State} (hs : s.portsOk) (data) : Leads State.portsOk (execTakingRead data s) := by
  refine leads_portsOk_settled ?_
  unfold State.takeBlock
  split
  · exact hs
  · exact hs
  · exact hs
  · split
    · exact State.portsOk_passBusError hs
    · exact State.portsOk_of_ports ((State.ports_passStep _).trans (State.ports_look _ _)) hs

theorem leads_portsOk_voidLimit {s : State} (hs : s.portsOk) : Leads State.portsOk (execVoidLimit s) := by
  unfold execVoidLimit
  repeat' split
  · exact Leads.next (State.portsOk_of_ports (State.ports_passVoid _ _) hs)
  all_goals exact Leads.next hs

theorem leads_portsOk_progressWrite {s : State} (hs : s.portsOk) (a ok) : Leads State.portsOk (execProgressWrite a ok s) := by
  refine leads_portsOk_settled ?_
  unfold State.progressEnds
  split
  · exact hs
  · split
    · exact hs
    · simp only
      split
      · exact State.portsOk_of_ports (State.ports_makeWrite _ _ _) hs
      · refine State.portsOk_halt ?_ _
        exact State.portsOk_of_ports rfl hs

theorem leads_portsOk_jobCompletion {s : State} (hs : s.portsOk) (a) : Leads State.portsOk (execJobCompletion a s) := by
  refine leads_portsOk_settled ?_
  unfold State.complete
  split
  · exact hs
  · split
    · exact hs
    · simp only
      refine State.portsOk_of_ports (State.ports_leaveList _ _) ?_
      split <;> exact State.portsOk_of_ports (State.ports_writeResult _ _ _ _) hs

theorem leads_portsOk_completionBusError {s : State} (hs : s.portsOk) (a w) :
    Leads State.portsOk (execCompletionBusError a w s) := by
  refine leads_portsOk_settled ?_
  unfold State.completionFails
  split
  · exact hs
  · split
    · exact hs
    · refine State.portsOk_of_ports (State.ports_leaveList _ _) (State.portsOk_halt ?_ _)
      exact State.portsOk_of_ports (State.ports_writeResult _ _ _ _) hs

@[simp] theorem State.ports_writeControl (s : State) (e x) : (s.writeControl e x).ports = s.ports := by
  have hstart (u : State) : u.startUp.ports = u.ports := by
    unfold State.startUp
    simp only
    repeat' split
    all_goals rfl
  unfold State.writeControl State.enable State.disable
  simp only
  repeat' split
  all_goals first
    | rfl
    | simp only [hstart, State.ports_beginPass, State.storeExternal]

@[simp] theorem State.ports_writeScanPeriod (s : State) (w) : (s.writeScanPeriod w).ports = s.ports := by
  unfold State.writeScanPeriod
  simp only
  split <;> rfl

@[simp] theorem State.ports_scanExpired (s : State) : s.scanExpired.ports = s.ports := by
  unfold State.scanExpired
  split
  · simp
  · rfl

@[simp] theorem State.ports_writeChainBase (s : State) (w) : (s.writeChainBase w).ports = s.ports := by
  unfold State.writeChainBase
  split <;> rfl

/-! ## Frame jobs -/

@[simp] theorem State.spines_layersRead (s : State) (j ls m) : (s.layersRead j ls m).quiet.ports = s.quiet.ports := by
  unfold State.layersRead
  simp only [State.quiet_dropTiles]
  rw [State.forEach_keeps State.quiet _ (fun i s => ?_), State.quiet_writeProgress]
  · rfl
  · unfold State.discardOld
    split <;> simp

@[simp] theorem State.spines_fixParticipants (s : State) (j ls) : (s.fixParticipants j ls).quiet.ports = s.quiet.ports := by
  unfold State.fixParticipants
  simp only
  repeat' split
  all_goals simp

theorem leads_portsOk_scene {s : State} (hs : s.portsOk) : Leads State.portsOk (execScene s) := by
  unfold execScene
  repeat' split
  · exact Leads.next hs
  · exact leads_portsOk_of_spines hs (by simp)
  · exact leads_portsOk_of_spines hs (by simp)
  · exact Leads.next (State.portsOk_of_ports rfl hs)

theorem leads_portsOk_layerRecordRead {s : State} (hs : s.portsOk) (data) :
    Leads State.portsOk (execLayerRecordRead data s) := by
  unfold execLayerRecordRead
  split
  · split
    · exact leads_portsOk_of_spines hs (by simp)
    · simp only
      split
      · exact Leads.next (State.portsOk_of_ports rfl hs)
      · refine leads_portsOk_of_spines hs ?_
        unfold State.checkLayers
        split <;> simp
  · exact Leads.next hs

theorem leads_portsOk_tileMap {s : State} (hs : s.portsOk) : Leads State.portsOk (execTileMap s) := by
  unfold execTileMap
  repeat' split
  · exact Leads.next hs
  · exact leads_portsOk_of_spines hs (by simp)
  · exact Leads.next (State.portsOk_of_ports rfl hs)

theorem State.portsOk_replaceMap {s : State} (hs : s.portsOk) (es) : (s.replaceMap es).portsOk := by
  unfold State.replaceMap
  simp only
  refine State.portsOk_of_quiet (State.quiet_completeFrame _ _) (State.forEach_invariant (P := State.portsOk) _ (fun p s hs => ?_) _ _ ?_)
  · exact State.portsOk_of_without (s.without_restartPort p) (State.ok_restartPort (hs p)) hs
  · refine State.portsOk_of_ports (State.forEach_keeps State.ports _ (fun t s => ?_) _ _) hs
    split <;> rfl

theorem leads_portsOk_tileMapEntryRead {s : State} (hs : s.portsOk) (data) :
    Leads State.portsOk (execTileMapEntryRead data s) := by
  unfold execTileMapEntryRead
  split
  · split
    · exact leads_portsOk_of_spines hs (by simp)
    · simp only
      split
      · exact Leads.next (State.portsOk_of_ports rfl hs)
      · refine leads_portsOk_settled ?_
        unfold State.checkEntries
        split
        · exact State.portsOk_of_quiet (State.quiet_completeFrame _ _) hs
        · exact State.portsOk_replaceMap hs _
  · exact Leads.next hs

theorem leads_portsOk_lutLoad {s : State} (hs : s.portsOk) : Leads State.portsOk (execLutLoad s) := by
  unfold execLutLoad
  split
  · exact Leads.next hs
  · simp only
    split
    · exact leads_portsOk_of_spines hs (by simp)
    · exact Leads.next (State.portsOk_of_ports rfl hs)

theorem leads_portsOk_valuesWordRead {s : State} (hs : s.portsOk) (ws) : Leads State.portsOk (execValuesWordRead ws s) := by
  unfold execValuesWordRead
  split
  · split
    · exact leads_portsOk_of_spines hs (by simp)
    · simp only
      split
      · exact Leads.next (State.portsOk_of_ports rfl hs)
      · exact leads_portsOk_of_spines hs (by simp)
  all_goals exact Leads.next hs

theorem leads_portsOk_verify {s : State} (hs : s.portsOk) : Leads State.portsOk (execVerify s) := by
  unfold execVerify
  split
  · exact Leads.next hs
  · simp only
    split
    · exact leads_portsOk_of_spines hs (by simp)
    · refine leads_portsOk_of_spines hs ?_
      unfold State.queueChecks
      simp only [State.quiet_settleVerify]
      rw [State.forEach_keeps State.quiet _ (fun t s => s.quiet_handPacket t _)]
      rfl

theorem leads_portsOk_verifyRecomposition {s : State} (hs : s.portsOk) (image) :
    Leads State.portsOk (execVerifyRecomposition image s) := by
  unfold execVerifyRecomposition
  split
  · split
    · exact Leads.next hs
    · refine leads_portsOk_of_spines hs ?_
      rw [State.quiet_settleVerify]
      have hfreed (p : PortId) (b : BufId) : (s.modPort p fun x => x.freeBuf b).quiet.ports = s.quiet.ports :=
        congrArg State.ports (s.quiet_freeBuf p b)
      exact hfreed _ _
  · exact Leads.next hs

theorem leads_portsOk_verifySurfaceBusError {s : State} (hs : s.portsOk) (layer) :
    Leads State.portsOk (execVerifySurfaceBusError layer s) := by
  unfold execVerifySurfaceBusError
  repeat' split
  · exact Leads.next hs
  · exact leads_portsOk_of_spines hs (by simp)
  all_goals exact Leads.next hs

theorem leads_portsOk_mismatchListWrite {s : State} (hs : s.portsOk) (ok) :
    Leads State.portsOk (execMismatchListWrite ok s) := by
  unfold execMismatchListWrite
  split
  · split
    · split
      · exact leads_portsOk_of_spines hs (by simp)
      · simp only
        split
        · exact Leads.next (State.portsOk_of_ports rfl hs)
        · refine leads_portsOk_of_spines hs ?_
          rw [State.quiet_completeFrame]
          rfl
    · exact leads_portsOk_of_spines hs (by simp)
  all_goals exact Leads.next hs

theorem leads_portsOk_compositionEnd {s : State} (hs : s.portsOk) (image stored) :
    Leads State.portsOk (execCompositionEnd image stored s) := by
  unfold execCompositionEnd
  split
  · split
    · refine leads_portsOk_of_spines hs ?_
      unfold State.storeStripe
      simp only [State.quiet_engine, State.quiet_modScene]
      rw [State.quiet_modPort _ _ _ (fun x => by simp)]
      rfl
    all_goals exact Leads.next hs
  · exact Leads.next hs

theorem leads_portsOk_surfaceBusError {s : State} (hs : s.portsOk) (layer) :
    Leads State.portsOk (execSurfaceBusError layer s) := by
  unfold execSurfaceBusError
  repeat' split
  · exact leads_portsOk_of_spines hs (by simp)
  all_goals exact Leads.next hs

/-! ## Frame starts -/

theorem Port.ok_takeFrame {x : Port} (h : x.ok) (n) : (x.takeFrame n).ok := by
  unfold Port.takeFrame
  split
  · obtain ⟨hlength, hwindow, hnumbers, htally, hlimit, -, hlock, hcause⟩ := h
    exact ⟨hlength, hwindow, hnumbers, htally, hlimit, Nat.min_le_right _ _, hlock, hcause⟩
  · exact h

theorem State.portsOk_issueFrame {s : State} (hs : s.portsOk) : s.issueFrame.portsOk := by
  have hcount (u : State) : u.countDeadline.quiet = u.quiet := by
    unfold State.countDeadline
    repeat' split
    all_goals simp
  unfold State.issueFrame
  simp only
  refine State.portsOk_of_quiet ((State.quiet_checkLimits _).trans (hcount _)) ?_
  exact State.forEach_invariant (P := State.portsOk) _ (fun p s hs => State.portsOk_modPort hs (Port.ok_takeFrame (hs p) _)) _ _
    (State.portsOk_of_ports rfl hs)

@[simp] theorem State.ports_endSwitch (s : State) (o) : (s.endSwitch o).ports = s.ports := by
  have hlock (c : Prop) [Decidable c] (u : State) (r : Reference) : (if c then { u with ref := r } else u).ports = u.ports := by
    split <;> rfl
  unfold State.endSwitch
  simp only
  split
  · rfl
  · split
    · rfl
    · exact hlock _ _ _

theorem State.portsOk_lockPulse {s : State} (hs : s.portsOk) : s.lockPulse.portsOk :=
  State.portsOk_of_ports (State.ports_endSwitch _ _) (State.portsOk_of_ports rfl
    (State.portsOk_issueFrame (State.portsOk_of_ports rfl hs)))

theorem State.portsOk_takePulse {s : State} (hs : s.portsOk) : s.takePulse.portsOk := by
  have hissued := State.portsOk_issueFrame hs
  unfold State.takePulse
  split
  · exact hs
  · split
    · unfold State.switchPulse
      simp only
      split
      · exact State.portsOk_lockPulse hs
      · exact State.portsOk_of_ports rfl hs
    · exact hs
  · split
    · simp only
      split
      · exact State.portsOk_of_ports (State.ports_endSwitch _ _) (State.portsOk_of_ports rfl hissued)
      · exact State.portsOk_of_ports rfl hissued
    · exact hs
  · exact State.portsOk_of_ports rfl hissued

theorem State.portsOk_fallBack {s : State} (hs : s.portsOk) : s.fallBack.portsOk :=
  State.portsOk_of_ports rfl (State.portsOk_issueFrame hs)

theorem State.portsOk_failSafeEnabled {s : State} (hs : s.portsOk) : s.failSafeEnabled.portsOk := by
  unfold State.failSafeEnabled
  split
  · exact State.portsOk_fallBack hs
  · exact hs

theorem State.portsOk_declareLoss {s : State} (hs : s.portsOk) : s.declareLoss.portsOk := by
  have hissued := State.portsOk_issueFrame hs
  unfold State.declareLoss
  split
  · split
    · simp only
      split <;> exact State.portsOk_of_ports (State.ports_endSwitch _ _) (State.portsOk_of_ports rfl hissued)
    · split
      · exact State.portsOk_fallBack hs
      · exact State.portsOk_of_ports rfl hs
  · exact hs

theorem State.portsOk_beginInternal {s : State} (hs : s.portsOk) (a) : (s.beginInternal a).portsOk := by
  have hbegun : ({ s with ref := { s.ref with switch := some { target := .intern, job := some a } } } : State).portsOk :=
    State.portsOk_of_ports rfl hs
  unfold State.beginInternal
  simp only
  split
  · exact State.portsOk_of_ports (State.ports_endSwitch _ _) (State.portsOk_of_ports rfl (State.portsOk_issueFrame hbegun))
  · exact hbegun

/-! ## Control jobs -/

theorem leads_portsOk_completeControl {s : State} (hs : s.portsOk) (r) :
    Leads State.portsOk (s.completeControl r).settled :=
  leads_portsOk_settled (State.portsOk_of_ports (State.ports_completeControl _ _) hs)

theorem leads_portsOk_policy {s : State} (hs : s.portsOk) : Leads State.portsOk (execPolicy s) := by
  unfold execPolicy
  repeat' split
  · exact Leads.next hs
  · exact leads_portsOk_completeControl hs _
  · unfold State.writePolicy
    refine leads_portsOk_completeControl (State.portsOk_failSafeEnabled ?_) _
    exact State.forEach_invariant (P := State.portsOk) _
      (fun p s hs => State.portsOk_of_without (s.without_applyCeiling p) (State.ok_applyCeiling (hs p)) hs) _ _
      (State.portsOk_of_ports rfl hs)

theorem leads_portsOk_sense {s : State} (hs : s.portsOk) : Leads State.portsOk (execSense s) := by
  unfold execSense
  repeat' split
  · exact Leads.next hs
  · exact leads_portsOk_completeControl hs _
  · next j _ _ _ =>
    refine Leads.next (State.portsOk_of_ports (s := s.senseClears (j.bit 20 0) (j.bit 20 1)) rfl ?_)
    exact State.forEach_invariant (P := State.portsOk) _
      (fun p s hs => State.portsOk_modPort (f := fun x => x.senseClear _ _) hs (hs p)) _ _ hs

theorem leads_portsOk_senseRecordWrite {s : State} (hs : s.portsOk) (ok) :
    Leads State.portsOk (execSenseRecordWrite ok s) := by
  unfold execSenseRecordWrite
  split
  · split
    · exact Leads.next hs
    · split
      · simp only
        split
        · refine leads_portsOk_completeControl ?_ _
          exact State.portsOk_of_ports (s := s) rfl hs
        · refine Leads.next ?_
          exact State.portsOk_of_ports (s := s) rfl hs
      · exact leads_portsOk_completeControl hs _
  · exact Leads.next hs

theorem leads_portsOk_recover {s : State} (hs : s.portsOk) : Leads State.portsOk (execRecover s) := by
  unfold execRecover
  split
  · exact Leads.next hs
  · simp only
    split
    · exact leads_portsOk_completeControl hs _
    · refine leads_portsOk_completeControl (State.forEach_invariant (P := State.portsOk) _ (fun t s hs => ?_) _ _ hs) _
      unfold State.recoverTile
      split
      · exact hs
      · exact State.portsOk_of_without (s.without_recoverPort _) (State.ok_recoverPort (hs _)) hs

theorem leads_portsOk_linkTest {s : State} (hs : s.portsOk) : Leads State.portsOk (execLinkTest s) := by
  unfold execLinkTest
  split
  · exact Leads.next hs
  · split
    · exact leads_portsOk_completeControl hs _
    · repeat' split
      · exact leads_portsOk_completeControl hs _
      · exact leads_portsOk_completeControl hs _
      · exact leads_portsOk_completeControl hs _
      · refine leads_portsOk_settled (State.portsOk_of_ports (State.ports_lookControl _) ?_)
        have hflight (j : Job) : (s.takeFlight j).portsOk := State.portsOk_of_ports rfl hs
        exact State.portsOk_modPort (hflight _) (hflight _ _)

theorem State.portsOk_withdrawTarget {s : State} (hs : s.portsOk) (j) : (s.withdrawTarget j).1.portsOk := by
  unfold State.withdrawTarget
  split
  · exact hs
  · exact hs
  · exact State.portsOk_of_ports rfl hs
  · split
    · split
      · exact hs
      · exact State.portsOk_of_quiet (State.quiet_endSceneEarly _ _) hs
    all_goals exact State.portsOk_of_quiet (State.quiet_completeFrame _ _) hs
  · exact hs
  · exact State.portsOk_of_ports (s.ports_endSwitch _) hs
  · dsimp only
    refine State.forEach_invariant (P := State.portsOk) _ (fun p s hs => ?_) _ _ hs
    split
    · exact hs
    · split
      · exact State.portsOk_of_without (s.without_endTest p _) (State.ok_endTestWith (hs p) _ _) hs
      · exact hs

theorem leads_portsOk_withdraw {s : State} (hs : s.portsOk) : Leads State.portsOk (execWithdraw s) := by
  unfold execWithdraw
  split
  · exact Leads.next hs
  · simp only
    split
    · exact leads_portsOk_completeControl hs _
    · split
      · exact leads_portsOk_completeControl hs _
      · split
        · exact leads_portsOk_completeControl hs _
        · exact leads_portsOk_completeControl (State.portsOk_withdrawTarget hs _) _

theorem State.portsOk_requestSource {s : State} (hs : s.portsOk) (j src) : (s.requestSource j src).portsOk := by
  have hended : (s.endSwitch .superseded).portsOk := State.portsOk_of_ports (s.ports_endSwitch _) hs
  have hflight (j : Job) : ((s.endSwitch .superseded).takeFlight j).portsOk :=
    State.portsOk_of_ports (s := s.endSwitch .superseded) rfl hended
  unfold State.requestSource
  simp only
  split
  · exact State.portsOk_of_ports (State.ports_completeControl _ _) (State.portsOk_of_ports rfl hended)
  · split
    · exact State.portsOk_of_ports (State.ports_lookControl _) (hflight j)
    · exact State.portsOk_of_ports (State.ports_lookControl _) (State.portsOk_beginInternal (hflight j) _)

theorem leads_portsOk_reference {s : State} (hs : s.portsOk) : Leads State.portsOk (execReference s) := by
  have hperiod (n : Nat) : (s.applyPeriod n).portsOk := by
    unfold State.applyPeriod
    split
    · exact hs
    · exact State.portsOk_of_ports rfl hs
  unfold execReference
  split
  · exact Leads.next hs
  · simp only
    split
    · exact leads_portsOk_completeControl hs _
    · split
      · exact leads_portsOk_completeControl hs _
      · split
        · exact leads_portsOk_completeControl hs _
        · split
          · exact leads_portsOk_completeControl hs _
          · split
            · refine leads_portsOk_settled ?_
              unfold State.completeReference
              simp only
              split <;> exact State.portsOk_of_ports (State.ports_completeControl _ _) (State.portsOk_of_ports rfl (hperiod _))
            · exact leads_portsOk_settled (State.portsOk_requestSource (hperiod _) _ _)

theorem State.portsOk_enterSleep {s : State} (hs : s.portsOk) : s.enterSleep.portsOk := by
  have hstop (u : State) : u.stopReference.ports = u.ports := by
    unfold State.stopReference
    simp only [State.ports_endSwitch]
    split <;> rfl
  have hnotice {u : State} {p : PortId} (hu : u.portsOk) : (u.modPort p Port.dueNotice).portsOk := by
    refine State.portsOk_modPort hu ?_
    unfold Port.dueNotice
    split <;> exact hu p
  unfold State.enterSleep
  simp only
  refine State.portsOk_of_ports (hstop _) (State.portsOk_sleepPorts (State.forEach_invariant (P := State.portsOk) _ (fun p s hs => ?_) _ _ ?_))
  · exact hnotice (State.portsOk_of_without (s.without_endTest p _) (State.ok_endTestWith (hs p) _ _) hs)
  · exact State.portsOk_of_ports (s := s.stopWork .notRunning) rfl (State.portsOk_of_quiet (s.quiet_stopWork .notRunning) hs)

theorem leads_portsOk_power {s : State} (hs : s.portsOk) : Leads State.portsOk (execPower s) := by
  unfold execPower
  split
  · exact Leads.next hs
  · split
    · exact leads_portsOk_completeControl hs _
    · split
      · exact leads_portsOk_completeControl hs _
      · have hrun : ({ s with controlRun := .power } : State).portsOk := State.portsOk_of_ports rfl hs
        refine leads_portsOk_settled ?_
        generalize ({ s with controlRun := .power } : State) = u at hrun
        unfold State.changePower
        split
        · exact hrun
        · unfold State.enterStandby
          refine State.portsOk_of_ports (State.ports_completePower _ _ _)
            (State.portsOk_of_ports (s := u.stopWork .notRunning) rfl ?_)
          exact State.portsOk_of_quiet (u.quiet_stopWork .notRunning) hrun
        · exact State.portsOk_enterSleep hrun
        · exact State.portsOk_of_ports ((State.ports_lookFrame _).trans
            (State.ports_completePower { u with power := { u.power with state := .run } } _ _)) hrun
        · exact hrun
        · exact State.portsOk_enterSleep hrun
        · exact State.portsOk_of_ports rfl hrun
        · exact State.portsOk_of_ports rfl hrun
        · exact hrun

theorem leads_portsOk_wakeSettleEnd {s : State} (hs : s.portsOk) : Leads State.portsOk (execWakeSettleEnd s) := by
  refine leads_portsOk_settled ?_
  unfold State.endSettle
  split
  · exact hs
  · exact hs
  · refine State.portsOk_of_ports ((State.ports_lookControl _).trans (State.ports_completePower _ _ _)) ?_
    refine State.forEach_invariant (P := State.portsOk) _ (fun p s hs => ?_) _ _ (State.portsOk_of_ports rfl hs)
    split
    · next hoff =>
      refine State.portsOk_of_without (s.without_enterListen p) (State.ok_enterListen ?_) hs
      exact Port.cleared_of_ok (hs p) (by simp [hoff.1]) (by simp [hoff.1])
    · exact hs

/-! ## Soft reset and time -/

/-- A port after the clearing of a soft reset. -/
theorem Port.cleared_softReset (x : Port) : x.softReset.cleared :=
  ⟨⟨Nat.zero_le _, Nat.zero_le _, Nat.zero_le _⟩, rfl, nofun⟩

theorem State.port_map (s : State) (f : Port → Port) (p : PortId) : ({ s with ports := s.ports.map f } : State).port p = f (s.port p) := by
  simp [State.port]

theorem State.port_clearAll (s : State) (p : PortId) : s.clearAll.port p = (s.port p).softReset := s.port_map Port.softReset p

theorem State.portsOk_clearAll (s : State) : s.clearAll.portsOk := fun p => by
  rw [State.port_clearAll]
  exact Port.ok_of_cleared (Port.cleared_softReset _) nofun rfl

theorem State.portsOk_softReset (s : State) : s.softReset.portsOk := by
  have hpower (u : State) : u.resetPower.ports = u.ports := by
    unfold State.resetPower
    repeat' split
    all_goals rfl
  have hcleared : ∀ p, (s.clearAll.resetPower.port p).cleared := fun p => by
    have hport : s.clearAll.resetPower.port p = s.clearAll.port p := congrArg (fun ps => ps[p.val]) (hpower _)
    rw [hport, State.port_clearAll]
    exact Port.cleared_softReset _
  have hok : s.clearAll.resetPower.portsOk := State.portsOk_of_ports (hpower _) s.portsOk_clearAll
  refine State.portsOk_failSafeEnabled ?_
  unfold State.listenMapped
  split
  · exact hok
  · refine (State.forEach_invariant (P := fun u => u.portsOk ∧ ∀ p, (u.port p).cleared) _ (fun p u hu => ?_) _ _ ⟨hok, hcleared⟩).1
    obtain ⟨hports, hclear⟩ := hu
    split
    · refine ⟨State.portsOk_of_without (u.without_enterListen p) (State.ok_enterListen (hclear p)) hports, fun q => ?_⟩
      by_cases hq : q = p
      · subst hq
        exact Port.cleared_of_spine (u.spine_enterListen q) (hclear q)
      · exact Port.cleared_of_spine (State.spine_of_without (u.without_enterListen p) hq) (hclear q)
    · exact ⟨hports, hclear⟩

theorem State.portsOk_tick {s : State} (hs : s.portsOk) : s.tick.portsOk := fun p => by
  have hport : s.tick.port p = (s.port p).tick := s.port_map Port.tick p
  rw [hport]
  exact (hs p : (s.port p).ok)

/-! ## Links -/

theorem leads_portsOk_takeInUp {s : State} (hs : s.portsOk) (p : PortId) (f : State → State)
    (h : ∀ u : State, u.portsOk → (u.port p).link = .up → (f u).portsOk) : Leads State.portsOk (s.takeInUp p f) := by
  unfold State.takeInUp
  split
  · next hup =>
    refine leads_portsOk_settled (h _ ?_ ?_)
    · exact State.portsOk_of_without (s.without_heard p) (State.ok_modPort (hs p)) hs
    · unfold State.heard
      rw [State.port_modPort_self]
      exact hup
  all_goals exact Leads.next hs

theorem State.portsOk_atTileOf {s : State} (hs : s.portsOk) (p) (f : TileId → State → State)
    (h : ∀ t (u : State), (f t u).quiet = u.quiet) : (s.atTileOf p f).portsOk := by
  unfold State.atTileOf
  split
  · exact hs
  · exact State.portsOk_of_quiet (h _ _) hs

theorem leads_portsOk_receiveCheckFailure {s : State} (hs : s.portsOk) (p why) :
    Leads State.portsOk (execReceiveCheckFailure p why s) := by
  have hchecked : (s.modPort p fun x => x.checkFailed why).portsOk := by
    refine State.portsOk_modPort hs ?_
    obtain ⟨hlength, hwindow, hnumbers, htally, hlimit, hstability, hlock, hcause⟩ := hs p
    rw [Port.checkFailed_eq]
    refine ⟨hlength, hwindow, hnumbers, htally, hlimit, hstability, ?_, hcause⟩
    show (if _ then 0 else (s.port p).lockCount) ≤ _
    split
    · exact Nat.zero_le _
    · exact hlock
  unfold execReceiveCheckFailure
  split
  · exact Leads.next hs
  · exact Leads.next hs
  all_goals exact Leads.next hchecked

theorem State.portsOk_enterOffer {s : State} (hs : s.portsOk) (p) (hup : (s.port p).link ≠ .up) (hlost : (s.port p).link ≠ .lost) :
    (s.enterOffer p).portsOk :=
  State.portsOk_of_without (s.without_enterOffer p)
    (State.ok_enterOffer (Port.cleared_of_ok (hs p) hup hlost) (Port.lostCause_of_ok (hs p) hlost)) hs

theorem leads_portsOk_beaconReceived {s : State} (hs : s.portsOk) (p) : Leads State.portsOk (execBeaconReceived p s) := by
  unfold execBeaconReceived
  split
  · next h => exact leads_portsOk_settled (State.portsOk_enterOffer hs p (by simp [h]) (by simp [h]))
  · next h => exact leads_portsOk_settled (State.portsOk_enterOffer hs p (by simp [h]) (by simp [h]))
  all_goals exact Leads.next hs

theorem State.portsOk_takeOffer {s : State} (hs : s.portsOk) (p o) (hlink : (s.port p).link = .offer) :
    (s.takeOffer p o).portsOk := State.portsOk_of_without (s.without_takeOffer p o) (State.ok_takeOffer (hs p) hlink o) hs

theorem leads_portsOk_offerReceived {s : State} (hs : s.portsOk) (p o) : Leads State.portsOk (execOfferReceived p o s) := by
  have hoffer : ((s.enterOffer p).port p).link = .offer := Port.link_of_spine (s.spine_enterOffer p)
  unfold execOfferReceived
  split
  · next h => exact leads_portsOk_settled (State.portsOk_takeOffer (State.portsOk_enterOffer hs p (by simp [h]) (by simp [h])) p o hoffer)
  · next h => exact leads_portsOk_settled (State.portsOk_takeOffer (State.portsOk_enterOffer hs p (by simp [h]) (by simp [h])) p o hoffer)
  · next h => exact leads_portsOk_settled (State.portsOk_takeOffer hs p o h)
  all_goals exact Leads.next hs

theorem leads_portsOk_trainReceived {s : State} (hs : s.portsOk) (p g l n) :
    Leads State.portsOk (execTrainReceived p g l n s) := by
  unfold execTrainReceived
  split
  · next h => exact leads_portsOk_of_port hs (s.without_takeTrain p g l n) (State.ok_takeTrain (hs p) h g l n)
  all_goals exact Leads.next hs

theorem leads_portsOk_transmitterFree {s : State} (hs : s.portsOk) (p r) : Leads State.portsOk (execTransmitterFree p r s) := by
  unfold execTransmitterFree
  split
  · exact Leads.next hs
  · refine leads_portsOk_of_port hs ?_ (State.ok_transmit (State.ok_modPort (hs p)) r)
    simp

theorem leads_portsOk_tallySaturation {s : State} (hs : s.portsOk) (p) : Leads State.portsOk (execTallySaturation p s) := by
  unfold execTallySaturation
  simp only
  split
  · exact Leads.next hs
  · split
    · next h => exact leads_portsOk_of_port hs (s.without_sendResend p _ _ _) (State.ok_sendResend (hs p) h.1 _ _ _)
    · exact Leads.next hs

/-- A command with one effect, under a condition. -/
theorem leads_portsOk_ite {s t : State} (hs : s.portsOk) {c : Prop} [Decidable c] (h : c → t.portsOk) :
    Leads State.portsOk (if c then t.settled else .next s) := by
  split
  · next hc => exact leads_portsOk_settled (h hc)
  · exact Leads.next hs

/-! ## Every command -/

theorem exec_portsOk (c : Instr) (s : State) (hs : s.portsOk) : Leads State.portsOk (exec c s) := by
  have hport {t : State} {p : PortId} (h : t.quiet.without p = s.quiet.without p) (hp : (t.port p).ok) : t.portsOk :=
    State.portsOk_of_without h hp hs
  have hports {t : State} (h : t.ports = s.ports) : Leads State.portsOk (.next t) := Leads.next (State.portsOk_of_ports h hs)
  cases c with
  | powerOnReset => exact Leads.next (State.portsOk_of_ports (s := State.reset) rfl resetMeetsTheInvariants.2.2.2.2.1)
  | softReset => exact leads_portsOk_settled s.portsOk_softReset
  | enableSet external => exact hports (s.ports_writeControl true external)
  | enableClear external => exact hports (s.ports_writeControl false external)
  | startExternalWrite external => exact hports rfl
  | attention => exact hports s.ports_takeAttention
  | causeRead => exact hports rfl
  | causeEnableWrite w => exact hports rfl
  | scanPeriodWrite w => exact hports (s.ports_writeScanPeriod w)
  | registerWrite r w =>
    simp only [exec, execRegisterWrite]
    split
    · exact hports (s.ports_writeChainBase w)
    · exact hports rfl
    · exact hports rfl
    · exact hports rfl
    · split
      · exact leads_portsOk_settled s.portsOk_softReset
      · exact hports (s.ports_writeControl _ _)
    · exact hports s.ports_takeAttention
    · exact hports rfl
    · exact hports (s.ports_writeScanPeriod w)
  | scanTimerExpiry => exact hports s.ports_scanExpired
  | linkRead link => exact leads_portsOk_linkRead hs link
  | lockedExchange w => exact leads_portsOk_lockedExchange hs w
  | takingRead data => exact leads_portsOk_takingRead hs data
  | voidLimit => exact leads_portsOk_voidLimit hs
  | progressWrite a ok => exact leads_portsOk_progressWrite hs a ok
  | jobCompletion a => exact leads_portsOk_jobCompletion hs a
  | completionBusError a w => exact leads_portsOk_completionBusError hs a w
  | scene => exact leads_portsOk_scene hs
  | layerRecordRead data => exact leads_portsOk_layerRecordRead hs data
  | tileMap => exact leads_portsOk_tileMap hs
  | tileMapEntryRead data => exact leads_portsOk_tileMapEntryRead hs data
  | lutLoad => exact leads_portsOk_lutLoad hs
  | valuesWordRead ws => exact leads_portsOk_valuesWordRead hs ws
  | verify => exact leads_portsOk_verify hs
  | verifyRecomposition image => exact leads_portsOk_verifyRecomposition hs image
  | mismatchListWrite ok => exact leads_portsOk_mismatchListWrite hs ok
  | policy => exact leads_portsOk_policy hs
  | sense => exact leads_portsOk_sense hs
  | senseRecordWrite ok => exact leads_portsOk_senseRecordWrite hs ok
  | recover => exact leads_portsOk_recover hs
  | linkTest => exact leads_portsOk_linkTest hs
  | withdraw => exact leads_portsOk_withdraw hs
  | reference => exact leads_portsOk_reference hs
  | power => exact leads_portsOk_power hs
  | wakeSettleEnd => exact leads_portsOk_wakeSettleEnd hs
  | compositionEnd image stored => exact leads_portsOk_compositionEnd hs image stored
  | surfaceBusError layer => exact leads_portsOk_surfaceBusError hs layer
  | transmitterFree p r => exact leads_portsOk_transmitterFree hs p r
  | receiveCheckFailure p why => exact leads_portsOk_receiveCheckFailure hs p why
  | beaconReceived p => exact leads_portsOk_beaconReceived hs p
  | offerReceived p o => exact leads_portsOk_offerReceived hs p o
  | trainReceived p g l e => exact leads_portsOk_trainReceived hs p g l e
  | ackReceived p n =>
    simp only [exec, execAckReceived]
    exact leads_portsOk_takeInUp hs p _ fun u hu _ => State.portsOk_of_without (u.without_takeAck p n) (State.ok_takeAck (hu p) n) hu
  | nakReceived p n =>
    simp only [exec, execNakReceived]
    exact leads_portsOk_takeInUp hs p _ fun u hu _ => State.portsOk_of_without (u.without_takeNak p n) (State.ok_takeNak (hu p) n) hu
  | holdReceived p q =>
    simp only [exec, execHoldReceived]
    exact leads_portsOk_takeInUp hs p _ fun u hu _ =>
      State.portsOk_of_without (u.without_takeHold p q) (State.ok_takeHold (hu p) q) hu
  | statusReceived p st =>
    simp only [exec, execStatusReceived]
    exact leads_portsOk_takeInUp hs p _ fun u hu _ => State.portsOk_atTileOf hu p _ fun t u => u.quiet_flipReport t _ _
  | flippedReceived p e n =>
    simp only [exec, execFlippedReceived]
    exact leads_portsOk_takeInUp hs p _ fun u hu _ => State.portsOk_atTileOf hu p _ fun t u => u.quiet_flipReport t _ _
  | testEchoReceived p n f d =>
    simp only [exec, execTestEchoReceived]
    exact leads_portsOk_takeInUp hs p _ fun u hu _ =>
      State.portsOk_of_without (u.without_takeEcho p n f d) (State.ok_takeEcho (hu p) n f d) hu
  | testResultReceived p g b =>
    simp only [exec, execTestResultReceived]
    exact leads_portsOk_takeInUp hs p _ fun u hu _ =>
      State.portsOk_of_without (u.without_takeResult p g b) (State.ok_takeResult (hu p) g b) hu
  | checkReportReceived p e l =>
    simp only [exec, execCheckReportReceived]
    exact leads_portsOk_takeInUp hs p _ fun u hu _ => State.portsOk_atTileOf hu p _ fun t u => u.quiet_takeReport t _ _
  | beaconTimer p =>
    simp only [exec, execBeaconTimer]
    exact leads_portsOk_ite hs fun _ => State.portsOk_modPort hs (hs p)
  | offerRepeatTimer p =>
    simp only [exec, execOfferRepeatTimer]
    exact leads_portsOk_ite hs fun _ => State.portsOk_modPort hs (hs p)
  | offerTimeout p =>
    simp only [exec, execOfferTimeout]
    exact leads_portsOk_ite hs fun h => hport (s.without_restartOffer p)
      (State.ok_restartOffer (Port.cleared_of_ok (hs p) (by simp [h.1]) (by simp [h.1])))
  | trainTimeout p =>
    simp only [exec, execTrainTimeout]
    exact leads_portsOk_ite hs fun h => hport (s.without_countFailure p)
      (State.ok_countFailure (Port.cleared_of_ok (hs p) (by simp [h.1]) (by simp [h.1])) (Port.lostCause_of_ok (hs p) (by simp [h.1])))
  | silence p =>
    simp only [exec, execSilence]
    exact leads_portsOk_ite hs fun h => hport (s.without_fallSilent p) (State.ok_fallSilent (hs p) h.1)
  | ackTimeout p =>
    simp only [exec, execAckTimeout]
    exact leads_portsOk_ite hs fun _ => hport (s.without_ackExpired p) (State.ok_ackExpired (hs p))
  | retryExhaustion p =>
    simp only [exec, execRetryExhaustion]
    refine leads_portsOk_ite hs fun h => hport (s.without_exhaust p) (State.ok_exhaust (hs p) ?_)
    simp only [State.retriesSpent, Bool.and_eq_true, beq_iff_eq] at h
    exact h.1
  | tallySaturation p => exact leads_portsOk_tallySaturation hs p
  | holdExpiry p =>
    simp only [exec, execHoldExpiry]
    exact leads_portsOk_ite hs fun _ => hport (s.without_endHold p) (State.ok_endHold (hs p))
  | echoTimeout p => exact leads_portsOk_of_port hs (s.without_echoExpired p) (State.ok_echoExpired (hs p))
  | resultTimeout p => exact leads_portsOk_of_port hs (s.without_resultExpired p) (State.ok_resultExpired (hs p))
  | stabilityReached p =>
    simp only [exec, execStabilityReached]
    split
    · obtain ⟨hlength, hwindow, hnumbers, htally, hlimit, -, hlock, hcause⟩ := hs p
      exact Leads.next (State.portsOk_modPort hs ⟨hlength, hwindow, hnumbers, htally, hlimit, Nat.le_refl _, hlock, hcause⟩)
    · exact Leads.next hs
  | frameStart =>
    refine leads_portsOk_settled ?_
    unfold State.timedFrame
    split
    · exact State.portsOk_of_ports rfl (State.portsOk_issueFrame hs)
    · exact hs
  | syncInPulse => exact leads_portsOk_settled (State.portsOk_takePulse hs)
  | lossDeclared => exact leads_portsOk_settled (State.portsOk_declareLoss hs)
  | lockPulse =>
    simp only [exec, execLockPulse]
    exact leads_portsOk_ite hs fun _ => State.portsOk_lockPulse hs
  | lockTimerExpiry =>
    refine leads_portsOk_settled ?_
    unfold State.lockExpired
    split
    · exact State.portsOk_of_ports (State.ports_endSwitch _ _) hs
    · exact hs
  | deadlineExpiry =>
    simp only [exec, execDeadlineExpiry]
    exact leads_portsOk_ite hs fun _ => State.portsOk_of_quiet s.quiet_expireDeadline hs
  | confirmationLimit i =>
    simp only [exec, execConfirmationLimit]
    split
    · exact Leads.next hs
    · exact leads_portsOk_ite hs fun _ => State.portsOk_of_quiet (by simp) hs
  | verifySurfaceBusError layer => exact leads_portsOk_verifySurfaceBusError hs layer

/-- Settles O57: every command leaves every port in order, and so does a tick. -/
theorem portsAreKept : Obligations.PortsAreKept :=
  kept_of_exec (I := State.portsOk) (fun _ _ hs => State.portsOk_of_ports rfl hs) exec_portsOk fun _ hs => State.portsOk_tick hs

end Sys2Proof.Machine

/-! SUPPORT. O56: at most one job of a lane RUNNING, kept by every command. Most keep what an entry says of its job; the looks of
R158 start at most one job of a lane that has none. -/
namespace Sys2Proof.Machine

/-! ## The listed entries -/

/-- The listed jobs without their waiting writes and their results. -/
def State.entries (s : State) : List Job := s.jobs.map Job.entry

theorem State.entries_of_jobs {s t : State} (h : t.jobs = s.jobs) : t.entries = s.entries := congrArg (List.map Job.entry) h

/-- What keeps the quiet parts keeps the entries. -/
theorem State.entries_keeps {s t : State} (h : t.quiet = s.quiet) : t.entries = s.entries := State.entries_of_quiet h

theorem State.entries_of_without {s t : State} {p : PortId} (h : t.quiet.without p = s.quiet.without p) :
    t.entries = s.entries := congrArg State.jobs h

@[simp] theorem State.entries_hand (s : State) (a r) : (s.hand a r).entries = s.entries := State.entries_keeps (s.quiet_hand a r)

@[simp] theorem State.entries_halt (s : State) (c) : (s.halt c).entries = s.entries := congrArg State.jobs (s.quiet_halt c)

@[simp] theorem State.entries_completeControl (s : State) (r) : (s.completeControl r).entries = s.entries := by
  unfold State.completeControl
  split
  · rfl
  · exact State.entries_hand s _ r

@[simp] theorem State.entries_completePower (s : State) (b a) : (s.completePower b a).entries = s.entries := by
  unfold State.completePower
  split <;> simp

@[simp] theorem State.entries_sleepPorts (s : State) : s.sleepPorts.entries = s.entries := by
  unfold State.sleepPorts
  split
  · exact State.forEach_keeps State.entries _ (fun p s => State.entries_of_without (s.without_sleepPort p)) _ _
  · rfl

@[simp] theorem State.entries_pump (s : State) : s.pump.entries = s.entries :=
  State.forEach_keeps State.entries _ (fun p s => State.entries_of_without (s.without_transmit p none)) _ _

@[simp] theorem State.entries_arbitrate (s : State) : s.arbitrate.entries = s.entries := State.entries_keeps s.quiet_arbitrate

@[simp] theorem State.entries_settleSleep (s : State) : s.settleSleep.entries = s.entries := by
  unfold State.settleSleep
  split
  · exact State.entries_completePower _ _ _
  · rfl

@[simp] theorem State.entries_settle (s : State) : s.settle.entries = s.entries := by simp [State.settle]

/-! ## The running jobs of a list -/

/-- How many jobs of lane `l` are RUNNING. -/
def runningCount (l : Lane) (js : List Job) : Nat := (js.filter (fun j => j.lane == some l && j.status == .running)).length

theorem runningCount_entry (l : Lane) (js : List Job) : runningCount l (js.map Job.entry) = runningCount l js := by
  unfold runningCount
  rw [List.filter_map, List.length_map]
  rfl

theorem runningCount_filter_le (l : Lane) (js : List Job) (f : Job → Bool) : runningCount l (js.filter f) ≤ runningCount l js :=
  (List.filter_sublist.filter _).length_le

theorem runningCount_append (l : Lane) (js ks : List Job) : runningCount l (js ++ ks) = runningCount l js + runningCount l ks := by
  simp [runningCount]

/-- A change of the jobs that lets no job start. -/
theorem runningCount_map_le (l : Lane) (js : List Job) (f : Job → Job)
    (h : ∀ j, (f j).lane = some l → (f j).status = .running → j.lane = some l ∧ j.status = .running) :
    runningCount l (js.map f) ≤ runningCount l js := by
  unfold runningCount
  rw [List.filter_map, List.length_map, ← List.countP_eq_length_filter, ← List.countP_eq_length_filter]
  refine List.countP_mono_left fun j _ hj => ?_
  simp only [Function.comp, Bool.and_eq_true, beq_iff_eq] at hj ⊢
  exact h j hj.1 hj.2

/-- A job in front of the list is counted for its own lane while it runs. -/
theorem runningCount_cons (l : Lane) (j : Job) (js : List Job) :
    runningCount l (j :: js) = (if j.lane = some l ∧ j.status = .running then 1 else 0) + runningCount l js := by
  unfold runningCount
  rw [List.filter_cons]
  by_cases h : j.lane = some l ∧ j.status = .running
  · simp [h, Nat.add_comm]
  · rw [if_neg (by simpa using h), if_neg h, Nat.zero_add]

/-- A look at a lane starts one job of it at most, and none of the other lane (R158). -/
theorem runningCount_startOldest (l m : Lane) (f) (js : List Job) :
    runningCount m (startOldest l f js).1 ≤ runningCount m js + if m = l then 1 else 0 := by
  induction js with
  | nil => exact Nat.zero_le _
  | cons j js ih =>
    unfold startOldest
    split
    · next hdue =>
      obtain ⟨hlane, hwaiting, -⟩ := hdue
      split
      · simp only [runningCount_cons, hwaiting, reduceCtorEq, and_false, if_false, Nat.zero_add]
        exact ih
      · simp only [runningCount_cons, hlane, hwaiting, Option.some.injEq, reduceCtorEq, and_false, if_false, Nat.zero_add, and_true]
        simp only [eq_comm (a := l) (b := m)]
        omega
    · simp only [runningCount_cons]
      omega

theorem runningCount_of_not_busy {s : State} {l : Lane} (h : s.laneBusy l = false) : runningCount l s.jobs = 0 := by
  unfold runningCount
  rw [List.length_eq_zero_iff, List.filter_eq_nil_iff]
  simpa [State.laneBusy, List.any_eq_false] using h

/-! ## At most one in each lane -/

/-- At most one job of each lane is RUNNING. -/
def State.oneEach (s : State) : Prop := ∀ l, runningCount l s.jobs ≤ 1

theorem State.oneEach_of_entries {s t : State} (h : t.entries = s.entries) (hs : s.oneEach) : t.oneEach := fun l => by
  rw [← runningCount_entry l t.jobs]
  exact (congrArg (runningCount l) h).trans_le ((runningCount_entry l s.jobs).trans_le (hs l))

/-- A look at a lane in which nothing runs. -/
theorem State.oneEach_startOldest {s : State} (hs : s.oneEach) {l : Lane} (h : s.laneBusy l = false) (f) (m : Lane) :
    runningCount m (startOldest l f s.jobs).1 ≤ 1 := by
  refine (runningCount_startOldest l m f s.jobs).trans ?_
  split
  · next hm => rw [hm, runningCount_of_not_busy h]
  · exact hs m

theorem State.oneEach_lookFrame {s : State} (hs : s.oneEach) : s.lookFrame.oneEach := by
  unfold State.lookFrame
  split
  · exact hs
  · next h =>
    simp only [Bool.or_eq_true, not_or, Bool.not_eq_true] at h
    exact State.oneEach_startOldest hs h.1 _

theorem State.oneEach_lookControl {s : State} (hs : s.oneEach) : s.lookControl.oneEach := by
  unfold State.lookControl
  split
  · exact hs
  · next h =>
    simp only [Bool.or_eq_true, not_or, Bool.not_eq_true] at h
    exact State.oneEach_startOldest hs h.1 _

theorem State.oneEach_look {s : State} (hs : s.oneEach) (l) : (s.look l).oneEach := by
  unfold State.look
  split
  · exact hs
  · exact State.oneEach_lookFrame hs
  · exact State.oneEach_lookControl hs

theorem State.oneEach_settle {s : State} (hs : s.oneEach) : s.settle.oneEach := State.oneEach_of_entries s.entries_settle hs

theorem State.oneEach_takeFlight {s : State} (hs : s.oneEach) (j) : (s.takeFlight j).oneEach := fun l => by
  refine (runningCount_map_le l s.jobs _ fun k => ?_).trans (hs l)
  split
  · exact fun _ h => nomatch h
  · exact fun hl hr => ⟨hl, hr⟩

theorem leads_oneEach {s t : State} (hs : s.oneEach) (h : t.entries = s.entries) : Leads State.oneEach t.settled :=
  Leads.next (State.oneEach_settle (State.oneEach_of_entries h hs))

theorem leads_oneEach_next {s t : State} (hs : s.oneEach) (h : t.entries = s.entries) : Leads State.oneEach (.next t) :=
  Leads.next (State.oneEach_of_entries h hs)

theorem leads_oneEach_of_port {s t : State} {p : PortId} (hs : s.oneEach) (h : t.quiet.without p = s.quiet.without p) :
    Leads State.oneEach t.settled := leads_oneEach hs (State.entries_of_without h)

theorem leads_oneEach_of_quiet {s t : State} (hs : s.oneEach) (h : t.quiet = s.quiet) : Leads State.oneEach t.settled :=
  leads_oneEach hs (State.entries_keeps h)

theorem leads_oneEach_completeControl {s t : State} (hs : s.oneEach) (h : t.entries = s.entries) (r) :
    Leads State.oneEach (t.completeControl r).settled := leads_oneEach hs ((t.entries_completeControl r).trans h)

/-! ## Frame jobs -/

@[simp] theorem State.entries_fixParticipants (s : State) (j ls) : (s.fixParticipants j ls).entries = s.entries := by
  unfold State.fixParticipants
  simp only
  repeat' split
  · exact State.entries_keeps (by simp)
  · exact State.entries_keeps (by simp)
  · unfold State.layersRead
    refine (State.entries_keeps (State.quiet_dropTiles _ _ _)).trans ?_
    refine (State.forEach_keeps State.entries _ (fun i s => ?_) _ _).trans ((State.entries_keeps (State.quiet_writeProgress _ _)).trans ?_)
    rotate_left
    · rfl
    unfold State.discardOld
    split
    · rfl
    · exact State.entries_keeps (State.quiet_queueDiscard _ _ _)

@[simp] theorem State.entries_replaceMap (s : State) (es) : (s.replaceMap es).entries = s.entries := by
  unfold State.replaceMap
  simp only
  refine (State.entries_keeps (State.quiet_completeFrame _ _)).trans ?_
  refine (State.forEach_keeps State.entries _ (fun p s => State.entries_of_without (s.without_restartPort p)) _ _).trans ?_
  refine State.forEach_keeps State.entries _ (fun t s => ?_) _ _
  split <;> rfl

theorem leads_oneEach_scene {s : State} (hs : s.oneEach) : Leads State.oneEach (execScene s) := by
  unfold execScene
  repeat' split
  · exact Leads.next hs
  · exact leads_oneEach_of_quiet hs (by simp)
  · exact leads_oneEach hs (by simp)
  · exact Leads.next hs

theorem leads_oneEach_layerRecordRead {s : State} (hs : s.oneEach) (data) : Leads State.oneEach (execLayerRecordRead data s) := by
  unfold execLayerRecordRead
  split
  · split
    · exact leads_oneEach_of_quiet hs (by simp)
    · simp only
      split
      · exact Leads.next hs
      · refine leads_oneEach hs ?_
        unfold State.checkLayers
        split
        · exact State.entries_keeps (by simp)
        · exact State.entries_fixParticipants _ _ _
  · exact Leads.next hs

theorem leads_oneEach_tileMap {s : State} (hs : s.oneEach) : Leads State.oneEach (execTileMap s) := by
  unfold execTileMap
  repeat' split
  · exact Leads.next hs
  · exact leads_oneEach_of_quiet hs (by simp)
  · exact Leads.next hs

theorem leads_oneEach_tileMapEntryRead {s : State} (hs : s.oneEach) (data) :
    Leads State.oneEach (execTileMapEntryRead data s) := by
  unfold execTileMapEntryRead
  split
  · split
    · exact leads_oneEach_of_quiet hs (by simp)
    · simp only
      split
      · exact Leads.next hs
      · refine leads_oneEach hs ?_
        unfold State.checkEntries
        split
        · exact State.entries_keeps (by simp)
        · exact State.entries_replaceMap _ _
  · exact Leads.next hs

theorem leads_oneEach_lutLoad {s : State} (hs : s.oneEach) : Leads State.oneEach (execLutLoad s) := by
  unfold execLutLoad
  split
  · exact Leads.next hs
  · simp only
    split
    · exact leads_oneEach_of_quiet hs (by simp)
    · exact Leads.next hs

theorem leads_oneEach_valuesWordRead {s : State} (hs : s.oneEach) (ws) : Leads State.oneEach (execValuesWordRead ws s) := by
  unfold execValuesWordRead
  split
  · split
    · exact leads_oneEach_of_quiet hs (by simp)
    · simp only
      split
      · exact Leads.next hs
      · exact leads_oneEach_of_quiet hs (by simp)
  all_goals exact Leads.next hs

theorem leads_oneEach_verify {s : State} (hs : s.oneEach) : Leads State.oneEach (execVerify s) := by
  unfold execVerify
  split
  · exact Leads.next hs
  · simp only
    split
    · exact leads_oneEach_of_quiet hs (by simp)
    · refine leads_oneEach hs ?_
      unfold State.queueChecks
      refine (State.entries_keeps (State.quiet_settleVerify _)).trans ?_
      exact State.forEach_keeps State.entries _ (fun t s => State.entries_keeps (s.quiet_handPacket t _)) _ _

theorem leads_oneEach_verifyRecomposition {s : State} (hs : s.oneEach) (image) :
    Leads State.oneEach (execVerifyRecomposition image s) := by
  unfold execVerifyRecomposition
  split
  · split
    · exact Leads.next hs
    · refine leads_oneEach hs ((State.entries_keeps (State.quiet_settleVerify _)).trans ?_)
      rfl
  · exact Leads.next hs

theorem leads_oneEach_verifySurfaceBusError {s : State} (hs : s.oneEach) (layer) :
    Leads State.oneEach (execVerifySurfaceBusError layer s) := by
  unfold execVerifySurfaceBusError
  repeat' split
  · exact Leads.next hs
  · exact leads_oneEach_of_quiet hs (by simp)
  all_goals exact Leads.next hs

theorem leads_oneEach_mismatchListWrite {s : State} (hs : s.oneEach) (ok) :
    Leads State.oneEach (execMismatchListWrite ok s) := by
  unfold execMismatchListWrite
  split
  · split
    · split
      · exact leads_oneEach_of_quiet hs (by simp)
      · simp only
        split
        · exact Leads.next hs
        · refine leads_oneEach hs ((State.entries_keeps (State.quiet_completeFrame _ _)).trans ?_)
          rfl
    · exact leads_oneEach_of_quiet hs (by simp)
  all_goals exact Leads.next hs

theorem leads_oneEach_compositionEnd {s : State} (hs : s.oneEach) (image stored) :
    Leads State.oneEach (execCompositionEnd image stored s) := by
  unfold execCompositionEnd
  split
  · split
    · refine leads_oneEach hs ?_
      unfold State.storeStripe
      simp only
      exact (State.entries_keeps (State.quiet_engine _ _)).trans ((State.entries_keeps (State.quiet_modScene _ _)).trans rfl)
    all_goals exact Leads.next hs
  · exact Leads.next hs

theorem leads_oneEach_surfaceBusError {s : State} (hs : s.oneEach) (layer) :
    Leads State.oneEach (execSurfaceBusError layer s) := by
  unfold execSurfaceBusError
  repeat' split
  · exact leads_oneEach_of_quiet hs (by simp)
  all_goals exact Leads.next hs

/-! ## The Frame Reference -/

@[simp] theorem State.entries_issueFrame (s : State) : s.issueFrame.entries = s.entries := by
  have hcount (u : State) : u.countDeadline.quiet = u.quiet := by
    unfold State.countDeadline
    repeat' split
    all_goals simp
  unfold State.issueFrame
  simp only
  refine (State.entries_keeps ((State.quiet_checkLimits _).trans (hcount _))).trans ?_
  refine (State.forEach_keeps State.entries _ (fun p s => ?_) _ _).trans ?_
  · rfl
  · rfl

@[simp] theorem State.entries_endSwitch (s : State) (o) : (s.endSwitch o).entries = s.entries := by
  have hlock (c : Prop) [Decidable c] (u : State) (r : Reference) : (if c then { u with ref := r } else u).entries = u.entries := by
    split <;> rfl
  unfold State.endSwitch
  simp only
  split
  · rfl
  · split
    · rfl
    · rw [State.entries_hand]
      exact hlock _ _ _

@[simp] theorem State.entries_fallBack (s : State) : s.fallBack.entries = s.entries := s.entries_issueFrame

@[simp] theorem State.entries_lockPulse (s : State) : s.lockPulse.entries = s.entries :=
  (State.entries_endSwitch _ _).trans (State.entries_issueFrame _)

@[simp] theorem State.entries_takePulse (s : State) : s.takePulse.entries = s.entries := by
  unfold State.takePulse
  split
  · rfl
  · split
    · unfold State.switchPulse
      simp only
      split
      · simp
      · rfl
    · rfl
  · split
    · simp only
      split
      · exact (State.entries_endSwitch _ _).trans s.entries_issueFrame
      · exact s.entries_issueFrame
    · rfl
  · exact s.entries_issueFrame

@[simp] theorem State.entries_declareLoss (s : State) : s.declareLoss.entries = s.entries := by
  unfold State.declareLoss
  split
  · split
    · simp only
      split <;> exact (State.entries_endSwitch _ _).trans s.entries_issueFrame
    · split
      · simp
      · rfl
  · rfl

@[simp] theorem State.entries_beginInternal (s : State) (a) : (s.beginInternal a).entries = s.entries := by
  unfold State.beginInternal
  simp only
  split
  · exact (State.entries_endSwitch _ _).trans (State.entries_issueFrame _)
  · rfl

@[simp] theorem State.entries_failSafeEnabled (s : State) : s.failSafeEnabled.entries = s.entries := by
  unfold State.failSafeEnabled
  split
  · simp
  · rfl

/-! ## Control jobs -/

theorem leads_oneEach_policy {s : State} (hs : s.oneEach) : Leads State.oneEach (execPolicy s) := by
  unfold execPolicy
  repeat' split
  · exact Leads.next hs
  · exact leads_oneEach_completeControl hs rfl _
  · unfold State.writePolicy
    refine leads_oneEach_completeControl hs ((State.entries_failSafeEnabled _).trans ?_) _
    exact State.forEach_keeps State.entries _ (fun p s => State.entries_of_without (s.without_applyCeiling p)) _ _

theorem State.entries_senseClears (s : State) (c l) : (s.senseClears c l).entries = s.entries := by
  unfold State.senseClears
  refine State.forEach_keeps State.entries _ (fun p s => ?_) _ _
  rfl

theorem leads_oneEach_sense {s : State} (hs : s.oneEach) : Leads State.oneEach (execSense s) := by
  unfold execSense
  repeat' split
  · exact Leads.next hs
  · exact leads_oneEach_completeControl hs rfl _
  · next j _ _ _ =>
    refine leads_oneEach_next hs ((State.entries_of_jobs ?_).trans (s.entries_senseClears (j.bit 20 0) (j.bit 20 1)))
    dsimp only

theorem leads_oneEach_senseRecordWrite {s : State} (hs : s.oneEach) (ok) : Leads State.oneEach (execSenseRecordWrite ok s) := by
  unfold execSenseRecordWrite
  split
  · split
    · exact Leads.next hs
    · split
      · simp only
        split
        · exact leads_oneEach hs (State.entries_completeControl _ _)
        · exact Leads.next hs
      · exact leads_oneEach_completeControl hs rfl _
  · exact Leads.next hs

theorem leads_oneEach_recover {s : State} (hs : s.oneEach) : Leads State.oneEach (execRecover s) := by
  unfold execRecover
  split
  · exact Leads.next hs
  · simp only
    split
    · exact leads_oneEach_completeControl hs rfl _
    · refine leads_oneEach_completeControl hs (State.forEach_keeps State.entries _ (fun t s => ?_) _ _) _
      unfold State.recoverTile
      split
      · rfl
      · exact State.entries_of_without (s.without_recoverPort _)

theorem leads_oneEach_linkTest {s : State} (hs : s.oneEach) : Leads State.oneEach (execLinkTest s) := by
  unfold execLinkTest
  split
  · exact Leads.next hs
  · split
    · exact leads_oneEach_completeControl hs rfl _
    · repeat' split
      · exact leads_oneEach_completeControl hs rfl _
      · exact leads_oneEach_completeControl hs rfl _
      · exact leads_oneEach_completeControl hs rfl _
      · refine Leads.next (State.oneEach_settle (State.oneEach_lookControl ?_))
        exact State.oneEach_of_entries rfl (State.oneEach_takeFlight hs _)

theorem State.entries_withdrawTarget (s : State) (j) : (s.withdrawTarget j).1.entries = s.entries := by
  unfold State.withdrawTarget
  split
  · rfl
  · rfl
  · exact s.entries_hand _ _
  · split
    · split
      · rfl
      · exact State.entries_keeps (s.quiet_endSceneEarly _)
    all_goals exact State.entries_keeps (s.quiet_completeFrame _)
  · rfl
  · exact s.entries_endSwitch _
  · dsimp only
    refine State.forEach_keeps State.entries _ (fun p s => ?_) _ _
    split
    · rfl
    · split
      · exact State.entries_of_without (s.without_endTest p _)
      · rfl

theorem leads_oneEach_withdraw {s : State} (hs : s.oneEach) : Leads State.oneEach (execWithdraw s) := by
  unfold execWithdraw
  split
  · exact Leads.next hs
  · simp only
    split
    · exact leads_oneEach_completeControl hs rfl _
    · split
      · exact leads_oneEach_completeControl hs rfl _
      · split
        · exact leads_oneEach_completeControl hs rfl _
        · exact leads_oneEach_completeControl hs (s.entries_withdrawTarget _) _

theorem State.oneEach_requestSource {s : State} (hs : s.oneEach) (j src) : (s.requestSource j src).oneEach := by
  have hended : (s.endSwitch .superseded).oneEach := State.oneEach_of_entries (s.entries_endSwitch _) hs
  have hflight := State.oneEach_takeFlight hended j
  unfold State.requestSource
  simp only
  split
  · exact State.oneEach_of_entries (State.entries_completeControl _ _) hended
  · split
    · refine State.oneEach_lookControl ?_
      exact State.oneEach_of_entries rfl hflight
    · exact State.oneEach_lookControl (State.oneEach_of_entries (State.entries_beginInternal _ _) hflight)

theorem State.entries_completeReference (s : State) (o n lock) : (s.completeReference o n lock).entries = s.entries := by
  unfold State.completeReference
  rw [State.entries_completeControl]
  split <;> rfl

theorem leads_oneEach_reference {s : State} (hs : s.oneEach) : Leads State.oneEach (execReference s) := by
  have hperiod (n : Nat) : (s.applyPeriod n).entries = s.entries := by
    unfold State.applyPeriod
    split <;> rfl
  unfold execReference
  split
  · exact Leads.next hs
  · simp only
    split
    · exact leads_oneEach_completeControl hs rfl _
    · split
      · exact leads_oneEach_completeControl hs rfl _
      · split
        · exact leads_oneEach_completeControl hs rfl _
        · split
          · exact leads_oneEach_completeControl hs rfl _
          · split
            · exact leads_oneEach hs ((State.entries_completeReference _ _ _ _).trans (hperiod _))
            · exact Leads.next (State.oneEach_settle (State.oneEach_requestSource (State.oneEach_of_entries (hperiod _) hs) _ _))

@[simp] theorem State.entries_enterSleep (s : State) : s.enterSleep.entries = s.entries := by
  have hstop (u : State) : u.stopReference.entries = u.entries := by
    unfold State.stopReference
    simp only
    refine (State.entries_endSwitch _ _).trans ?_
    split <;> rfl
  unfold State.enterSleep
  simp only
  refine (hstop _).trans ((State.entries_sleepPorts _).trans ?_)
  refine (State.forEach_keeps State.entries _ (fun p s => ?_) _ _).trans ?_
  · refine (State.entries_of_jobs ?_).trans (State.entries_of_without (s.without_endTest p .aborted))
    rfl
  · refine (State.entries_of_jobs ?_).trans (State.entries_keeps (s.quiet_stopWork .notRunning))
    dsimp only

theorem State.oneEach_changePower {s : State} (hs : s.oneEach) (w) : (s.changePower w).oneEach := by
  unfold State.changePower
  split
  · exact hs
  · refine State.oneEach_of_entries ((State.entries_completePower _ _ _).trans ?_) hs
    refine (State.entries_of_jobs ?_).trans (State.entries_keeps (s.quiet_stopWork .notRunning))
    dsimp only
  · exact State.oneEach_of_entries s.entries_enterSleep hs
  · have hrun : ({ s with power := { s.power with state := .run } } : State).oneEach := hs
    exact State.oneEach_lookFrame (State.oneEach_of_entries (State.entries_completePower _ _ _) hrun)
  · exact hs
  · exact State.oneEach_of_entries s.entries_enterSleep hs
  all_goals exact hs

theorem leads_oneEach_power {s : State} (hs : s.oneEach) : Leads State.oneEach (execPower s) := by
  unfold execPower
  split
  · exact Leads.next hs
  · split
    · exact leads_oneEach_completeControl hs rfl _
    · split
      · exact leads_oneEach_completeControl hs rfl _
      · exact Leads.next (State.oneEach_settle (State.oneEach_changePower (s := { s with controlRun := .power }) hs _))

theorem leads_oneEach_wakeSettleEnd {s : State} (hs : s.oneEach) : Leads State.oneEach (execWakeSettleEnd s) := by
  refine Leads.next (State.oneEach_settle ?_)
  unfold State.endSettle
  split
  · exact hs
  · exact hs
  · refine State.oneEach_lookControl (State.oneEach_of_entries (State.entries_completePower _ _ _) (State.oneEach_of_entries ?_ hs))
    refine State.forEach_keeps State.entries _ (fun p s => ?_) _ _
    split
    · exact State.entries_of_without (s.without_enterListen p)
    · rfl

/-! ## Links and the stream -/

theorem leads_oneEach_takeInUp {s : State} (hs : s.oneEach) (p : PortId) (f : State → State)
    (h : ∀ u : State, (f u).quiet.without p = u.quiet.without p) : Leads State.oneEach (s.takeInUp p f) := by
  unfold State.takeInUp
  split
  · exact leads_oneEach_of_port hs ((h _).trans (s.without_heard p))
  all_goals exact Leads.next hs

theorem State.quiet_atTileOf (s : State) (p) (f : TileId → State → State) (h : ∀ t (u : State), (f t u).quiet = u.quiet) :
    (s.atTileOf p f).quiet = s.quiet := by
  unfold State.atTileOf
  split
  · rfl
  · exact h _ _

theorem leads_oneEach_ite {s t : State} (hs : s.oneEach) {c : Prop} [Decidable c] (h : t.entries = s.entries) :
    Leads State.oneEach (if c then t.settled else .next s) := by
  split
  · exact leads_oneEach hs h
  · exact Leads.next hs

/-- Every command outside the intake keeps at most one job of a lane RUNNING. -/
theorem exec_oneEach (c : Instr) (s : State) (hmoves : c.movesIntake = false) (hs : s.oneEach) : Leads State.oneEach (exec c s) := by
  have hport {t : State} {p : PortId} (h : t.quiet.without p = s.quiet.without p) : Leads State.oneEach t.settled :=
    leads_oneEach_of_port hs h
  cases c with
  | powerOnReset => exact nomatch hmoves
  | softReset => exact nomatch hmoves
  | enableSet external => exact nomatch hmoves
  | enableClear external => exact nomatch hmoves
  | startExternalWrite external => exact nomatch hmoves
  | attention => exact nomatch hmoves
  | causeRead => exact Leads.next hs
  | causeEnableWrite w => exact Leads.next hs
  | scanPeriodWrite w => exact nomatch hmoves
  | registerWrite r w => exact nomatch hmoves
  | scanTimerExpiry => exact nomatch hmoves
  | linkRead link => exact nomatch hmoves
  | lockedExchange w => exact nomatch hmoves
  | takingRead data => exact nomatch hmoves
  | voidLimit => exact nomatch hmoves
  | progressWrite a ok =>
    refine leads_oneEach hs ?_
    unfold State.progressEnds
    split
    · rfl
    · next j _ =>
      split
      · rfl
      · next w ws _ =>
        have hwritten : (s.modJob a fun j => { j with writes := ws }).entries = s.entries :=
          State.entries_keeps (State.quiet_modJob _ _ _ fun _ => rfl)
        simp only
        split
        · cases w <;> exact hwritten
        · exact (State.entries_halt _ _).trans hwritten
  | jobCompletion a => exact nomatch hmoves
  | completionBusError a w => exact nomatch hmoves
  | scene => exact leads_oneEach_scene hs
  | layerRecordRead data => exact leads_oneEach_layerRecordRead hs data
  | tileMap => exact leads_oneEach_tileMap hs
  | tileMapEntryRead data => exact leads_oneEach_tileMapEntryRead hs data
  | lutLoad => exact leads_oneEach_lutLoad hs
  | valuesWordRead ws => exact leads_oneEach_valuesWordRead hs ws
  | verify => exact leads_oneEach_verify hs
  | verifyRecomposition image => exact leads_oneEach_verifyRecomposition hs image
  | mismatchListWrite ok => exact leads_oneEach_mismatchListWrite hs ok
  | policy => exact leads_oneEach_policy hs
  | sense => exact leads_oneEach_sense hs
  | senseRecordWrite ok => exact leads_oneEach_senseRecordWrite hs ok
  | recover => exact leads_oneEach_recover hs
  | linkTest => exact leads_oneEach_linkTest hs
  | withdraw => exact leads_oneEach_withdraw hs
  | reference => exact leads_oneEach_reference hs
  | power => exact leads_oneEach_power hs
  | wakeSettleEnd => exact leads_oneEach_wakeSettleEnd hs
  | compositionEnd image stored => exact leads_oneEach_compositionEnd hs image stored
  | surfaceBusError layer => exact leads_oneEach_surfaceBusError hs layer
  | transmitterFree p r =>
    simp only [exec, execTransmitterFree]
    split
    · exact Leads.next hs
    · exact hport (p := p) (by simp)
  | receiveCheckFailure p why =>
    simp only [exec, execReceiveCheckFailure]
    split
    all_goals exact Leads.next hs
  | beaconReceived p =>
    simp only [exec, execBeaconReceived]
    split
    · exact hport (s.without_enterOffer p)
    · exact hport (s.without_enterOffer p)
    all_goals exact Leads.next hs
  | offerReceived p o =>
    simp only [exec, execOfferReceived]
    split
    · exact hport (p := p) (by simp)
    · exact hport (p := p) (by simp)
    · exact hport (s.without_takeOffer p o)
    all_goals exact Leads.next hs
  | trainReceived p g l e =>
    simp only [exec, execTrainReceived]
    split
    · exact hport (s.without_takeTrain p g l e)
    all_goals exact Leads.next hs
  | ackReceived p n =>
    simp only [exec, execAckReceived]
    exact leads_oneEach_takeInUp hs p _ fun u => u.without_takeAck p n
  | nakReceived p n =>
    simp only [exec, execNakReceived]
    exact leads_oneEach_takeInUp hs p _ fun u => u.without_takeNak p n
  | holdReceived p q =>
    simp only [exec, execHoldReceived]
    exact leads_oneEach_takeInUp hs p _ fun u => u.without_takeHold p q
  | statusReceived p st =>
    simp only [exec, execStatusReceived]
    exact leads_oneEach_takeInUp hs p _ fun u =>
      congrArg (·.without p) (u.quiet_atTileOf p _ fun t u => u.quiet_flipReport t _ _)
  | flippedReceived p e n =>
    simp only [exec, execFlippedReceived]
    exact leads_oneEach_takeInUp hs p _ fun u =>
      congrArg (·.without p) (u.quiet_atTileOf p _ fun t u => u.quiet_flipReport t _ _)
  | testEchoReceived p n f d =>
    simp only [exec, execTestEchoReceived]
    exact leads_oneEach_takeInUp hs p _ fun u => u.without_takeEcho p n f d
  | testResultReceived p g b =>
    simp only [exec, execTestResultReceived]
    exact leads_oneEach_takeInUp hs p _ fun u => u.without_takeResult p g b
  | checkReportReceived p e l =>
    simp only [exec, execCheckReportReceived]
    exact leads_oneEach_takeInUp hs p _ fun u =>
      congrArg (·.without p) (u.quiet_atTileOf p _ fun t u => u.quiet_takeReport t _ _)
  | beaconTimer p =>
    simp only [exec, execBeaconTimer]
    exact leads_oneEach_ite hs rfl
  | offerRepeatTimer p =>
    simp only [exec, execOfferRepeatTimer]
    exact leads_oneEach_ite hs rfl
  | offerTimeout p =>
    simp only [exec, execOfferTimeout]
    exact leads_oneEach_ite hs (State.entries_of_without (s.without_restartOffer p))
  | trainTimeout p =>
    simp only [exec, execTrainTimeout]
    exact leads_oneEach_ite hs (State.entries_of_without (s.without_countFailure p))
  | silence p =>
    simp only [exec, execSilence]
    exact leads_oneEach_ite hs (State.entries_of_without (s.without_fallSilent p))
  | ackTimeout p =>
    simp only [exec, execAckTimeout]
    exact leads_oneEach_ite hs (State.entries_of_without (s.without_ackExpired p))
  | retryExhaustion p =>
    simp only [exec, execRetryExhaustion]
    exact leads_oneEach_ite hs (State.entries_of_without (s.without_exhaust p))
  | tallySaturation p =>
    simp only [exec, execTallySaturation]
    split
    · exact Leads.next hs
    · exact leads_oneEach_ite hs (State.entries_of_without (s.without_sendResend p _ _ _))
  | holdExpiry p =>
    simp only [exec, execHoldExpiry]
    exact leads_oneEach_ite hs (State.entries_of_without (s.without_endHold p))
  | echoTimeout p => exact hport (s.without_echoExpired p)
  | resultTimeout p => exact hport (s.without_resultExpired p)
  | stabilityReached p =>
    simp only [exec, execStabilityReached]
    split <;> exact Leads.next hs
  | frameStart =>
    refine leads_oneEach hs ?_
    unfold State.timedFrame
    split
    · exact s.entries_issueFrame
    · rfl
  | syncInPulse => exact leads_oneEach hs s.entries_takePulse
  | lossDeclared => exact leads_oneEach hs s.entries_declareLoss
  | lockPulse =>
    simp only [exec, execLockPulse]
    exact leads_oneEach_ite hs s.entries_lockPulse
  | lockTimerExpiry =>
    refine leads_oneEach hs ?_
    unfold State.lockExpired
    split
    · exact s.entries_endSwitch _
    · rfl
  | deadlineExpiry =>
    simp only [exec, execDeadlineExpiry]
    exact leads_oneEach_ite hs (State.entries_keeps s.quiet_expireDeadline)
  | confirmationLimit i =>
    simp only [exec, execConfirmationLimit]
    split
    · exact Leads.next hs
    · exact leads_oneEach_ite hs (State.entries_keeps (by simp))
  | verifySurfaceBusError layer => exact leads_oneEach_verifySurfaceBusError hs layer

end Sys2Proof.Machine

/-! SUPPORT. O56: the Job List, the intake states and the lanes, kept by every command. -/
namespace Sys2Proof.Machine

/-! ## The list and the intake -/

/-- The Job List by itself: at most 8 jobs, no block twice, at most one job RUNNING in each lane (R156, R158). -/
def State.listed (s : State) : Prop := s.jobs.length ≤ Config.jobListSize ∧ (s.jobs.map Job.addr).Nodup ∧ s.oneEach

/-- The intake by itself: its state, its registers and its pass go with the list (R149–R153). -/
def Intake.goesWith (i : Intake) (jobs : List Job) : Prop := i.ok jobs ∧ i.pass.fits jobs

/-- The list and the intake together. -/
def State.inOrder (s : State) : Prop := s.listed ∧ s.intake.goesWith s.jobs

theorem State.inOrder_iff (s : State) :
    (s.listOk ∧ s.intake.ok s.jobs ∧ s.oneRunning .frame ∧ s.oneRunning .control) ↔ s.inOrder := by
  constructor
  · rintro ⟨⟨hlength, hnodup, hfits⟩, hok, hframe, hcontrol⟩
    refine ⟨⟨hlength, hnodup, fun l => ?_⟩, hok, hfits⟩
    cases l with
    | frame => exact hframe
    | control => exact hcontrol
  · rintro ⟨⟨hlength, hnodup, heach⟩, hok, hfits⟩
    exact ⟨⟨hlength, hnodup, hfits⟩, hok, heach .frame, heach .control⟩

theorem State.listed_of_jobs {s t : State} (h : t.jobs = s.jobs) (hs : s.listed) : t.listed := by
  unfold State.listed State.oneEach at hs ⊢
  rw [h]
  exact hs

/-- Fitting rests on the listed addresses. -/
theorem PassStage.fits_of_addrs {js ks : List Job} (h : ks.map Job.addr = js.map Job.addr) {p : PassStage} (hp : p.fits js) :
    p.fits ks := by
  have hlength : ks.length = js.length := by simpa using congrArg List.length h
  have hfree {a : Word} (hfree : ∀ j ∈ js, j.addr ≠ a) (k : Job) (hk : k ∈ ks) : k.addr ≠ a := by
    have hmem : k.addr ∈ js.map Job.addr := h ▸ List.mem_map_of_mem hk
    obtain ⟨j, hj, hjk⟩ := List.mem_map.mp hmem
    exact hjk ▸ hfree j hj
  cases p with
  | none => exact trivial
  | link => exact hlength.trans_lt hp
  | exchange a => exact ⟨hlength.trans_lt hp.1, hfree hp.2⟩
  | taking a w => exact ⟨hlength.trans_lt hp.1, hfree hp.2⟩

theorem Intake.goesWith_of_addrs {i : Intake} {js ks : List Job} (h : ks.map Job.addr = js.map Job.addr) (hi : i.goesWith js) :
    i.goesWith ks := by
  have hlength : ks.length = js.length := by simpa using congrArg List.length h
  obtain ⟨⟨hoff, hidle, hfull, hrest⟩, hfits⟩ := hi
  exact ⟨⟨hoff, hidle, fun k => hlength ▸ hfull k, hrest⟩, PassStage.fits_of_addrs h hfits⟩

/-- A change outside the intake and the listed blocks need only keep the lanes. -/
theorem State.inOrder_of_addrs {s t : State} (hs : s.inOrder) (hintake : t.intake = s.intake)
    (haddrs : t.jobs.map Job.addr = s.jobs.map Job.addr) (heach : t.oneEach) : t.inOrder := by
  obtain ⟨⟨hlength, hnodup, -⟩, hgoes⟩ := hs
  have hsame : t.jobs.length = s.jobs.length := by simpa using congrArg List.length haddrs
  refine ⟨⟨hsame.trans_le hlength, haddrs ▸ hnodup, heach⟩, ?_⟩
  rw [hintake]
  exact Intake.goesWith_of_addrs haddrs hgoes

/-- A change of the intake alone. -/
theorem State.inOrder_of_intake {s t : State} (hs : s.listed) (hjobs : t.jobs = s.jobs) (hgoes : t.intake.goesWith s.jobs) :
    t.inOrder := ⟨State.listed_of_jobs hjobs hs, hjobs ▸ hgoes⟩

theorem State.inOrder_of_fixed {s t : State} (hs : s.inOrder) (h : t.fixed = s.fixed) (heach : t.oneEach) : t.inOrder := by
  simp only [State.fixed, Prod.mk.injEq] at h
  obtain ⟨-, hintake, -, -, -, -, -, haddrs⟩ := h
  exact State.inOrder_of_addrs hs hintake haddrs heach

theorem State.inOrder_settle {s : State} (hs : s.inOrder) : s.settle.inOrder :=
  State.inOrder_of_fixed hs s.fixed_settle (State.oneEach_settle hs.1.2.2)

theorem State.listed_halt {s : State} (hs : s.listed) (c) : (s.halt c).listed := by
  obtain ⟨hlength, hnodup, heach⟩ := hs
  have hfixed := s.fixed_halt c
  simp only [State.fixed, Prod.mk.injEq] at hfixed
  obtain ⟨-, -, -, -, -, -, -, haddrs⟩ := hfixed
  have hsame : (s.halt c).jobs.length = s.jobs.length := by simpa using congrArg List.length haddrs
  exact ⟨hsame.trans_le hlength, haddrs ▸ hnodup, State.oneEach_of_entries (s.entries_halt c) heach⟩

theorem State.listed_look {s : State} (hs : s.listed) (l) : (s.look l).listed := by
  obtain ⟨hlength, hnodup, heach⟩ := hs
  have hfixed := s.fixed_look l
  simp only [State.fixed, Prod.mk.injEq] at hfixed
  obtain ⟨-, -, -, -, -, -, -, haddrs⟩ := hfixed
  have hsame : (s.look l).jobs.length = s.jobs.length := by simpa using congrArg List.length haddrs
  exact ⟨hsame.trans_le hlength, haddrs ▸ hnodup, State.oneEach_look heach l⟩

/-! ## Intake states -/

/-- OFF with ENABLE 0. -/
theorem Intake.goesWith_off {i : Intake} {jobs : List Job} (hstate : i.state = .off) (henable : i.enable = false)
    (hpass : i.pass = .none) (hrescan : i.rescan = false) (htimer : i.scanTimer = none) : i.goesWith jobs := by
  refine ⟨⟨fun _ => henable, ?_, ?_, ?_, ?_, ?_⟩, ?_⟩ <;> simp [hstate, hpass, hrescan, htimer, PassStage.fits]

theorem Intake.goesWith_chainFault {i : Intake} {jobs : List Job} (hstate : i.state = .chainFault) (hpass : i.pass = .none)
    (hrescan : i.rescan = false) (htimer : i.scanTimer = none) : i.goesWith jobs := by
  refine ⟨⟨?_, ?_, ?_, ?_, ?_, ?_⟩, ?_⟩ <;> simp [hstate, hpass, hrescan, htimer, PassStage.fits]

theorem Intake.goesWith_idle {i : Intake} {jobs : List Job} (hstate : i.state = .idle) (henable : i.enable = true)
    (hpass : i.pass = .none) (hrescan : i.rescan = false) : i.goesWith jobs := by
  refine ⟨⟨?_, ?_, ?_, ?_, ?_, ?_⟩, ?_⟩ <;> simp [hstate, henable, hpass, hrescan, PassStage.fits]

theorem Intake.goesWith_full {i : Intake} {jobs : List Job} (hstate : i.state = .full) (henable : i.enable = true)
    (hpass : i.pass = .none) (hrescan : i.rescan = false) (htimer : i.scanTimer = none) (hjobs : jobs.length = Config.jobListSize) :
    i.goesWith jobs := by
  refine ⟨⟨?_, ?_, ?_, ?_, ?_, ?_⟩, ?_⟩ <;> simp [hstate, henable, hpass, hrescan, htimer, hjobs, PassStage.fits]

/-- SCANNING, at any access whose block is free. -/
theorem Intake.goesWith_scanning {i : Intake} {jobs : List Job} (hstate : i.state = .scanning) (hpass : i.pass ≠ .none)
    (htimer : i.scanTimer = none) (hfits : i.pass.fits jobs) : i.goesWith jobs := by
  refine ⟨⟨?_, ?_, ?_, ?_, ?_, ?_⟩, hfits⟩ <;> simp [hstate, hpass, htimer]

/-- Of an intake that goes with the list: a pass runs in SCANNING, without a scan timer. -/
theorem Intake.scanning_of_pass {i : Intake} {jobs : List Job} (h : i.goesWith jobs) (hpass : i.pass ≠ .none) :
    i.state = .scanning ∧ i.scanTimer = none := by
  obtain ⟨⟨-, -, -, hscanning, -, htimer⟩, -⟩ := h
  have hstate := hscanning.mpr hpass
  refine ⟨hstate, ?_⟩
  cases ht : i.scanTimer with
  | none => rfl
  | some n => exact nomatch hstate.symm.trans (htimer (by simp [ht]))

/-- Outside SCANNING no pass runs and no rescan is due. -/
theorem Intake.still_of_not_scanning {i : Intake} {jobs : List Job} (h : i.goesWith jobs) (hstate : i.state ≠ .scanning) :
    i.pass = .none ∧ i.rescan = false := by
  obtain ⟨⟨-, -, -, hscanning, hrescan, -⟩, -⟩ := h
  refine ⟨Classical.not_not.mp fun k => hstate (hscanning.mpr k), ?_⟩
  cases hr : i.rescan with
  | false => rfl
  | true => exact absurd (hrescan hr) hstate

/-- Outside IDLE the scan timer is stopped. -/
theorem Intake.stopped_of_not_idle {i : Intake} {jobs : List Job} (h : i.goesWith jobs) (hstate : i.state ≠ .idle) :
    i.scanTimer = none := by
  obtain ⟨⟨-, -, -, -, -, htimer⟩, -⟩ := h
  cases ht : i.scanTimer with
  | none => rfl
  | some n => exact absurd (htimer (by simp [ht])) hstate

/-! ## Passes -/

theorem State.inOrder_intakeOff {s : State} (hs : s.listed) (henable : s.intake.enable = false) : s.intakeOff.inOrder :=
  State.inOrder_of_intake hs rfl (Intake.goesWith_off rfl henable rfl rfl rfl)

theorem State.inOrder_chainFault {s : State} (hs : s.listed) : s.chainFault.inOrder :=
  State.inOrder_of_intake hs rfl (Intake.goesWith_chainFault rfl rfl rfl rfl)

/-- A step of a pass begins with a list in order. -/
theorem State.inOrder_passStep {s : State} (hs : s.listed) (hstate : s.intake.state = .scanning)
    (htimer : s.intake.scanTimer = none) : s.passStep.inOrder := by
  unfold State.passStep
  split
  · next h => exact State.inOrder_intakeOff hs (by simpa using h)
  · next h =>
    have henable : s.intake.enable = true := by simpa using h
    split
    · next hfull =>
      exact State.inOrder_of_intake hs rfl (Intake.goesWith_full rfl henable rfl rfl htimer (Nat.le_antisymm hs.1 hfull))
    · next hroom => exact State.inOrder_of_intake hs rfl (Intake.goesWith_scanning hstate nofun htimer (Nat.lt_of_not_le hroom))

theorem State.inOrder_beginPass {s : State} (hs : s.listed) : s.beginPass.inOrder :=
  State.inOrder_passStep (State.listed_of_jobs rfl hs) rfl rfl

theorem State.inOrder_endPass {s : State} (hs : s.listed) : s.endPass.inOrder := by
  unfold State.endPass
  split
  · next h => exact State.inOrder_intakeOff hs (by simpa using h)
  · next h =>
    have henable : s.intake.enable = true := by simpa using h
    split
    · exact State.inOrder_beginPass hs
    · next hrescan => exact State.inOrder_of_intake hs rfl (Intake.goesWith_idle rfl henable rfl (eq_false_of_ne_true hrescan))

theorem State.intake_halt (s : State) (c) : (s.halt c).intake = s.intake := by
  have hfixed := s.fixed_halt c
  simp only [State.fixed, Prod.mk.injEq] at hfixed
  exact hfixed.2.1

theorem State.inOrder_passBusError {s : State} (hs : s.listed) : s.passBusError.inOrder := by
  have hhalted := State.listed_halt hs .busFault
  unfold State.passBusError
  simp only
  split
  · next henable => exact State.inOrder_of_intake hhalted rfl (Intake.goesWith_idle rfl henable rfl rfl)
  · next h => exact State.inOrder_intakeOff hhalted (by simpa using h)

theorem State.inOrder_followLink {s : State} (hs : s.inOrder) (hpass : s.intake.pass = .link) (own a) :
    (s.followLink own a).inOrder := by
  obtain ⟨hlisted, hgoes⟩ := hs
  obtain ⟨hstate, htimer⟩ := Intake.scanning_of_pass hgoes (by simp [hpass])
  have hroom : s.jobs.length < Config.jobListSize := by
    have hfits := hgoes.2
    rw [hpass] at hfits
    exact hfits
  unfold State.followLink State.examine
  split
  · exact State.inOrder_endPass hlisted
  · split
    · exact State.inOrder_chainFault hlisted
    · split
      · next h => exact State.inOrder_intakeOff hlisted (by simpa using h)
      · split
        · exact State.inOrder_chainFault hlisted
        · next hfree =>
          have hnone : s.findJob a = none := by simpa using hfree
          refine State.inOrder_of_intake hlisted rfl (Intake.goesWith_scanning hstate nofun htimer ⟨hroom, fun j hj => ?_⟩)
          simpa using (List.find?_eq_none.mp hnone) j hj

theorem State.inOrder_linkRead {s : State} (hs : s.inOrder) (link) : (s.linkRead link).inOrder := by
  unfold State.linkRead
  split
  · next hpass _ => exact State.inOrder_followLink hs hpass _ _
  · next hpass _ =>
    split
    · exact State.inOrder_passBusError hs.1
    · exact State.inOrder_followLink hs hpass _ _
  all_goals exact hs

theorem State.inOrder_passVoid {s : State} (hs : s.inOrder) (hpass : s.intake.pass ≠ .none) (a) : (s.passVoid a).inOrder := by
  obtain ⟨hlisted, hgoes⟩ := hs
  obtain ⟨hstate, htimer⟩ := Intake.scanning_of_pass hgoes hpass
  rw [State.passVoid_eq]
  split
  · exact State.inOrder_chainFault (State.listed_of_jobs rfl hlisted)
  · exact State.inOrder_passStep (State.listed_of_jobs rfl hlisted) hstate htimer

theorem State.inOrder_exchanged {s : State} (hs : s.inOrder) (word0) : (s.exchanged word0).inOrder := by
  unfold State.exchanged
  split
  · exact hs
  · exact hs
  · exact hs
  · next a hpass =>
    split
    · exact State.inOrder_passBusError hs.1
    · simp only
      split
      · obtain ⟨hlisted, hgoes⟩ := hs
        obtain ⟨hstate, htimer⟩ := Intake.scanning_of_pass hgoes (by simp [hpass])
        refine State.inOrder_of_intake hlisted rfl (Intake.goesWith_scanning hstate nofun htimer ?_)
        have hfits := hgoes.2
        rw [hpass] at hfits
        exact hfits
      · split
        · exact State.inOrder_passVoid hs (by simp [hpass]) a
        · exact State.inOrder_chainFault hs.1

/-! ## Filing and leaving -/

/-- A job whose block is not listed joins a list with room; it waits (R157). -/
theorem State.listed_append {s : State} (hs : s.listed) {j : Job} (hroom : s.jobs.length < Config.jobListSize)
    (hfree : ∀ k ∈ s.jobs, k.addr ≠ j.addr) (hwaits : j.status = .waiting) : ({ s with jobs := s.jobs ++ [j] } : State).listed := by
  obtain ⟨-, hnodup, heach⟩ := hs
  refine ⟨?_, ?_, fun l => ?_⟩
  · rw [List.length_append]
    exact hroom
  · rw [List.map_append, List.nodup_append]
    refine ⟨hnodup, List.nodup_singleton _, fun b hb c hc => ?_⟩
    obtain ⟨k, hk, hkb⟩ := List.mem_map.mp hb
    obtain rfl : c = j.addr := by simpa using hc
    exact hkb ▸ hfree k hk
  · show runningCount l (s.jobs ++ [j]) ≤ 1
    have hnone : runningCount l [j] = 0 := by simp [hwaits, runningCount]
    rw [runningCount_append, hnone]
    exact heach l

theorem State.newJob_addr (s : State) (a w tag params) : (s.newJob a w tag params).addr = a := by
  unfold State.newJob
  simp only
  repeat' split
  all_goals rfl

theorem State.newJob_status (s : State) (a w tag params) : (s.newJob a w tag params).status = .waiting := by
  unfold State.newJob
  simp only
  repeat' split
  all_goals rfl

@[simp] theorem State.intake_look (s : State) (l) : (s.look l).intake = s.intake := by
  have hfixed := s.fixed_look l
  simp only [State.fixed, Prod.mk.injEq] at hfixed
  exact hfixed.2.1

theorem State.inOrder_takeBlock {s : State} (hs : s.inOrder) (data) : (s.takeBlock data).inOrder := by
  unfold State.takeBlock
  split
  · exact hs
  · exact hs
  · exact hs
  · next a w hpass =>
    split
    · exact State.inOrder_passBusError hs.1
    · obtain ⟨hlisted, hgoes⟩ := hs
      obtain ⟨hstate, htimer⟩ := Intake.scanning_of_pass hgoes (by simp [hpass])
      have hfits := hgoes.2
      rw [hpass] at hfits
      obtain ⟨hroom, hfree⟩ := hfits
      simp only [State.file]
      refine State.inOrder_passStep (State.listed_look ?_ _) ?_ ?_
      · refine State.listed_append (State.listed_of_jobs rfl hlisted) hroom (fun k hk => ?_) (State.newJob_status _ _ _ _ _)
        rw [State.newJob_addr]
        exact hfree k hk
      · rw [State.intake_look]
        exact hstate
      · rw [State.intake_look]
        exact htimer

theorem PassStage.fits_filter {jobs : List Job} {p : PassStage} (h : p.fits jobs) (f : Job → Bool) : p.fits (jobs.filter f) := by
  have hlength := List.length_filter_le f jobs
  cases p with
  | none => exact trivial
  | link => exact hlength.trans_lt h
  | exchange a => exact ⟨hlength.trans_lt h.1, fun k hk => h.2 k (List.mem_filter.mp hk).1⟩
  | taking a w => exact ⟨hlength.trans_lt h.1, fun k hk => h.2 k (List.mem_filter.mp hk).1⟩

/-- A listed job leaves; a list that was full is scanned again (R149, R160). -/
theorem State.inOrder_leaveList {s : State} (hs : s.inOrder) (j) : (s.leaveList j).inOrder := by
  obtain ⟨⟨hlength, hnodup, heach⟩, hgoes⟩ := hs
  have hleft : ({ s with jobs := s.jobs.filter (fun k => k.addr != j.addr) } : State).listed := by
    refine ⟨(List.length_filter_le _ _).trans hlength, ?_, fun l => (runningCount_filter_le l _ _).trans (heach l)⟩
    exact hnodup.sublist (List.filter_sublist.map _)
  have horder : (({ s with jobs := s.jobs.filter (fun k => k.addr != j.addr) } : State).leftList s.jobs.length).inOrder := by
    unfold State.leftList
    split
    · exact State.inOrder_beginPass hleft
    · next hnot =>
      refine ⟨hleft, ⟨?_, PassStage.fits_filter hgoes.2 _⟩⟩
      obtain ⟨⟨hoff, hidle, hfull, hrest⟩, -⟩ := hgoes
      exact ⟨hoff, hidle, fun k => absurd ⟨(hfull k).2, k⟩ hnot, hrest⟩
  exact State.inOrder_of_fixed horder (State.fixed_look _ _) (State.listed_look horder.1 _).2.2

theorem State.jobs_makeWrite (s : State) (a w) : (s.makeWrite a w).jobs = s.jobs := by cases w <;> rfl
theorem State.intake_makeWrite (s : State) (a w) : (s.makeWrite a w).intake = s.intake := by cases w <;> rfl

theorem State.jobs_writeResult (s : State) (j r ws) : (s.writeResult j r ws).jobs = s.jobs := by
  have hblock (u : State) (w : CompletionWrite) :
      (u.blockWrite j.addr (j.completionBytes r w).1 (j.completionBytes r w).2).jobs = u.jobs := rfl
  unfold State.writeResult
  simp only
  rw [foldl_keeps State.jobs _ hblock, foldl_keeps State.jobs _ (fun s w => s.jobs_makeWrite _ _)]

theorem State.intake_writeResult (s : State) (j r ws) : (s.writeResult j r ws).intake = s.intake := by
  have hblock (u : State) (w : CompletionWrite) :
      (u.blockWrite j.addr (j.completionBytes r w).1 (j.completionBytes r w).2).intake = u.intake := rfl
  unfold State.writeResult
  simp only
  rw [foldl_keeps State.intake _ hblock, foldl_keeps State.intake _ (fun s w => s.intake_makeWrite _ _)]

theorem State.inOrder_writeResult {s : State} (hs : s.inOrder) (j r ws) : (s.writeResult j r ws).inOrder :=
  State.inOrder_of_intake hs.1 (s.jobs_writeResult j r ws) (s.intake_writeResult j r ws ▸ hs.2)

theorem State.inOrder_complete {s : State} (hs : s.inOrder) (a) : (s.complete a).inOrder := by
  unfold State.complete
  split
  · exact hs
  · split
    · exact hs
    · simp only
      refine State.inOrder_leaveList ?_ _
      split
      · exact State.inOrder_writeResult hs _ _ _
      · exact State.inOrder_writeResult hs _ _ _

theorem State.inOrder_completionFails {s : State} (hs : s.inOrder) (a w) : (s.completionFails a w).inOrder := by
  unfold State.completionFails
  split
  · exact hs
  · split
    · exact hs
    · have hwritten (j r) := State.inOrder_writeResult hs j r (writesBefore w)
      exact State.inOrder_leaveList
        (State.inOrder_of_fixed (hwritten _ _) (State.fixed_halt _ _) (State.listed_halt (hwritten _ _).1 _).2.2) _

/-! ## Registers -/

theorem State.inOrder_takeAttention {s : State} (hs : s.inOrder) : s.takeAttention.inOrder := by
  obtain ⟨hlisted, hgoes⟩ := hs
  unfold State.takeAttention
  split
  · exact ⟨hlisted, hgoes⟩
  · exact State.inOrder_beginPass hlisted
  · next hstate =>
    obtain ⟨⟨hoff, hidle, hfull, hscanning, -, htimer⟩, hfits⟩ := hgoes
    exact State.inOrder_of_intake hlisted rfl ⟨⟨hoff, hidle, hfull, hscanning, fun _ => hstate, htimer⟩, hfits⟩
  · exact ⟨hlisted, hgoes⟩
  · split
    · exact State.inOrder_beginPass hlisted
    · next h => exact State.inOrder_intakeOff hlisted (by simpa using h)

theorem State.inOrder_scanExpired {s : State} (hs : s.inOrder) : s.scanExpired.inOrder := by
  unfold State.scanExpired
  split
  · exact State.inOrder_beginPass hs.1
  · exact hs

theorem State.inOrder_writeScanPeriod {s : State} (hs : s.inOrder) (w) : (s.writeScanPeriod w).inOrder := by
  obtain ⟨hlisted, ⟨hoff, hidle, hfull, hscanning, hrescan, htimer⟩, hfits⟩ := hs
  unfold State.writeScanPeriod
  simp only
  split
  · next hstate =>
    exact State.inOrder_of_intake hlisted rfl ⟨⟨hoff, hidle, hfull, hscanning, hrescan, fun _ => hstate⟩, hfits⟩
  · exact State.inOrder_of_intake hlisted rfl ⟨⟨hoff, hidle, hfull, hscanning, hrescan, htimer⟩, hfits⟩

theorem State.inOrder_writeChainBase {s : State} (hs : s.inOrder) (w) : (s.writeChainBase w).inOrder := by
  unfold State.writeChainBase
  split
  · exact hs
  · exact State.inOrder_of_intake hs.1 rfl hs.2

theorem State.inOrder_enable {s : State} (hs : s.inOrder) : s.enable.inOrder := by
  obtain ⟨hlisted, ⟨hoff, hidle, hfull, hrest⟩, hfits⟩ := hs
  have hstarted : ({ s with intake := { s.intake with enable := true } } : State).startUp.listed :=
    State.listed_of_jobs (by rw [State.startUp_eq]) hlisted
  have hintake : ({ s with intake := { s.intake with enable := true } } : State).startUp.intake =
      { s.intake with enable := true } := by rw [State.startUp_eq]
  have hjobs : ({ s with intake := { s.intake with enable := true } } : State).startUp.jobs = s.jobs := by rw [State.startUp_eq]
  have hgoes (hstate : s.intake.state ≠ .off) :
      ({ s with intake := { s.intake with enable := true } } : State).startUp.inOrder := by
    refine State.inOrder_of_intake hlisted hjobs ?_
    rw [hintake]
    exact ⟨⟨fun k => absurd k hstate, fun _ => rfl, fun k => ⟨rfl, (hfull k).2⟩, hrest⟩, hfits⟩
  unfold State.enable
  simp only [hintake]
  split
  · exact State.inOrder_beginPass hstarted
  all_goals
    next hstate => exact hgoes (by simp [hstate])

theorem State.inOrder_disable {s : State} (hs : s.inOrder) : s.disable.inOrder := by
  obtain ⟨hlisted, hgoes⟩ := hs
  obtain ⟨⟨hoff, hidle, hfull, hrest⟩, hfits⟩ := hgoes
  have hcleared : ({ s with intake := { s.intake with enable := false } } : State).listed := State.listed_of_jobs rfl hlisted
  have hkept (hnotidle : s.intake.state ≠ .idle) (hnotfull : s.intake.state ≠ .full) :
      ({ s with intake := { s.intake with enable := false } } : State).inOrder :=
    State.inOrder_of_intake hlisted rfl ⟨⟨fun _ => rfl, fun k => absurd k hnotidle, fun k => absurd k hnotfull, hrest⟩, hfits⟩
  unfold State.disable
  simp only
  split
  · next h => exact hkept (by simp [h]) (by simp [h])
  · exact State.inOrder_intakeOff hcleared rfl
  · next h => exact hkept (by simp [h]) (by simp [h])
  · exact State.inOrder_intakeOff hcleared rfl
  · next h => exact hkept (by simp [h]) (by simp [h])

theorem State.inOrder_writeControl {s : State} (hs : s.inOrder) (e x) : (s.writeControl e x).inOrder := by
  have hstored : (s.storeExternal x).inOrder := State.inOrder_of_intake hs.1 rfl hs.2
  unfold State.writeControl
  simp only
  split
  · exact State.inOrder_enable hstored
  · split
    · exact State.inOrder_disable hstored
    · exact hstored

/-! ## Resets and time -/

/-- An empty list is in order. -/
theorem State.listed_of_empty {s : State} (h : s.jobs = []) : s.listed := by
  refine ⟨by simp [h], by simp [h], fun l => ?_⟩
  rw [h]
  exact Nat.zero_le _

theorem State.inOrder_softReset (s : State) : s.softReset.inOrder := by
  have hpower (u : State) : u.resetPower.jobs = u.jobs := by
    unfold State.resetPower
    repeat' split
    all_goals rfl
  have hlisten (u : State) : u.listenMapped.entries = u.entries := by
    unfold State.listenMapped
    split
    · rfl
    · refine State.forEach_keeps State.entries _ (fun p s => ?_) _ _
      split
      · exact State.entries_of_without (s.without_enterListen p)
      · rfl
  have hempty : s.softReset.jobs = [] := by
    have hentries : s.softReset.entries = [] := by
      unfold State.softReset
      rw [State.entries_failSafeEnabled, hlisten, State.entries, hpower]
      rfl
    simpa [State.entries] using hentries
  refine ⟨State.listed_of_empty hempty, ?_⟩
  have hcore := s.core_softReset
  simp only [State.core, Prod.mk.injEq] at hcore
  obtain ⟨-, hintake, -⟩ := hcore
  rw [hintake]
  exact Intake.goesWith_off rfl rfl rfl rfl rfl

theorem State.inOrder_tick {s : State} (hs : s.inOrder) : s.tick.inOrder := by
  obtain ⟨hlisted, ⟨hoff, hidle, hfull, hscanning, hrescan, htimer⟩, hfits⟩ := hs
  refine State.inOrder_of_intake hlisted rfl ⟨⟨hoff, hidle, hfull, hscanning, hrescan, fun h => htimer ?_⟩, hfits⟩
  rw [← Option.isSome_map]
  exact h

/-! ## Every command -/

theorem Instr.changesList_of_movesIntake {c : Instr} (h : c.movesIntake = false) : c.changesList = false := by
  cases c <;> first | rfl | exact nomatch h

theorem exec_inOrder (c : Instr) (s : State) (hs : s.inOrder) : Leads State.inOrder (exec c s) := by
  by_cases hmoves : c.movesIntake = false
  · obtain ⟨t, hexec, hframe⟩ := exec_answers c s
    obtain ⟨u, hexec', heach⟩ := exec_oneEach c s hmoves hs.1.2.2
    obtain rfl : t = u := Host.Outcome.next.inj (hexec.symm.trans hexec')
    exact ⟨t, hexec, State.inOrder_of_addrs hs (hframe.intake hmoves)
      (hframe.jobs (Instr.changesList_of_movesIntake hmoves)) heach⟩
  · cases c with
    | powerOnReset => exact Leads.next ⟨State.listed_of_empty rfl, Intake.goesWith_off rfl rfl rfl rfl rfl⟩
    | softReset => exact Leads.next (State.inOrder_settle s.inOrder_softReset)
    | enableSet external => exact Leads.next (State.inOrder_writeControl hs true external)
    | enableClear external => exact Leads.next (State.inOrder_writeControl hs false external)
    | startExternalWrite external => exact Leads.next (State.inOrder_of_intake hs.1 rfl hs.2)
    | attention => exact Leads.next (State.inOrder_takeAttention hs)
    | scanPeriodWrite w => exact Leads.next (State.inOrder_writeScanPeriod hs w)
    | registerWrite r w =>
      simp only [exec, execRegisterWrite]
      split
      · exact Leads.next (State.inOrder_writeChainBase hs w)
      · exact Leads.next hs
      · exact Leads.next hs
      · exact Leads.next hs
      · split
        · exact Leads.next (State.inOrder_settle s.inOrder_softReset)
        · exact Leads.next (State.inOrder_writeControl hs _ _)
      · exact Leads.next (State.inOrder_takeAttention hs)
      · exact Leads.next (State.inOrder_of_intake hs.1 rfl hs.2)
      · exact Leads.next (State.inOrder_writeScanPeriod hs w)
    | scanTimerExpiry => exact Leads.next (State.inOrder_scanExpired hs)
    | linkRead link => exact Leads.next (State.inOrder_settle (State.inOrder_linkRead hs link))
    | lockedExchange w => exact Leads.next (State.inOrder_settle (State.inOrder_exchanged hs w))
    | takingRead data => exact Leads.next (State.inOrder_settle (State.inOrder_takeBlock hs data))
    | voidLimit =>
      simp only [exec, execVoidLimit]
      split
      · next hpass =>
        split
        · exact Leads.next (State.inOrder_passVoid hs (by simp [hpass]) _)
        · exact Leads.next hs
      all_goals exact Leads.next hs
    | jobCompletion a => exact Leads.next (State.inOrder_settle (State.inOrder_complete hs a))
    | completionBusError a w => exact Leads.next (State.inOrder_settle (State.inOrder_completionFails hs a w))
    | _ => exact absurd rfl hmoves

/-- Settles O56: the commands that move the intake one by one, the others by their frame. -/
theorem jobListAndIntakeAreKept : Obligations.JobListAndIntakeAreKept := by
  have hkept : Kept State.inOrder :=
    kept_of_exec (fun _ _ hs => State.inOrder_of_intake hs.1 rfl hs.2) exec_inOrder fun _ hs => State.inOrder_tick hs
  intro s t hs hstep
  exact t.inOrder_iff.mpr (hkept s t (s.inOrder_iff.mp hs) hstep)

end Sys2Proof.Machine

/-! SUPPORT. O58: the epoch order and the scene before ARMED as one invariant of the parts that name epochs, kept by the scene
pipeline and by the table logic. -/
namespace Sys2Proof.Machine

/-! ## Packets, ports and tile records -/

/-- A FLIP names an epoch up to `n`, and not the barred one. -/
def Reliable.allowed (n : Epoch) (bar : Option Epoch) (k : Reliable) : Prop :=
  k.flipBelow n ∧ ∀ e, bar = some e → k.isFlipOf e = false

/-- The FLIPs waiting and outstanding on a port are allowed, and its stripes name epochs up to `n`. -/
structure Port.within (n : Epoch) (bar : Option Epoch) (x : Port) : Prop where
  queue : ∀ k ∈ x.queue, k.allowed n bar
  window : ∀ o ∈ x.window, o.packet.allowed n bar
  bufs : ∀ b : BufId, (x.buf b).below n

/-- A tile record names epochs in order: its front the presented one `m` at most, a whole back store `n` at most. -/
def Tile.within (m n : Epoch) (x : Tile) : Prop := (x.front = 0 ∨ x.front ≤ m) ∧ x.back.wholeBelow n

/-- A change of a port that brings it no FLIP and no stripe. -/
def Port.Sheds (f : Port → Port) : Prop := ∀ n bar (x : Port), x.within n bar → (f x).within n bar

theorem Reliable.allowed_none {n : Epoch} {bar : Option Epoch} {k : Reliable} (h : k.allowed n bar) : k.allowed n none :=
  ⟨h.1, nofun⟩

theorem Port.within_none {n : Epoch} {bar : Option Epoch} {x : Port} (h : x.within n bar) : x.within n none :=
  ⟨fun k hk => Reliable.allowed_none (h.queue k hk), fun o ho => Reliable.allowed_none (h.window o ho), h.bufs⟩

section
variable {n : Epoch} {bar : Option Epoch} {x : Port}

/-- Queue, window and buffers decide. -/
theorem Port.within_congr {y : Port} (h : x.within n bar) (hqueue : y.queue = x.queue) (hwindow : y.window = x.window)
    (hbufA : y.bufA = x.bufA) (hbufB : y.bufB = x.bufB) : y.within n bar := by
  obtain ⟨hq, hw, hb⟩ := h
  refine ⟨hqueue ▸ hq, hwindow ▸ hw, fun b => ?_⟩
  cases b with
  | first => exact (congrArg (Buffer.below n) hbufA).mpr (hb .first)
  | second => exact (congrArg (Buffer.below n) hbufB).mpr (hb .second)

theorem Port.within_dropQueued (h : x.within n bar) (f) : (x.dropQueued f).within n bar :=
  ⟨fun k hk => h.queue k (List.mem_filter.mp hk).1, h.window, h.bufs⟩

theorem Port.within_enqueue (h : x.within n bar) {k : Reliable} (hk : k.allowed n bar) : (x.enqueue k).within n bar := by
  unfold Port.enqueue
  split
  · exact h
  · refine ⟨fun j hj => ?_, h.window, h.bufs⟩
    rcases List.mem_append.mp hj with hj | hj
    · exact h.queue j hj
    · obtain rfl := List.mem_singleton.mp hj
      exact hk

theorem Port.buf_setBuf (x : Port) (b c : BufId) (v : Buffer) : (x.setBuf b v).buf c = if b = c then v else x.buf c := by
  cases b <;> cases c <;> rfl

theorem Port.within_setBuf (h : x.within n bar) (b) {v : Buffer} (hv : v.below n) : (x.setBuf b v).within n bar := by
  have hkept : (x.setBuf b v).queue = x.queue ∧ (x.setBuf b v).window = x.window := by cases b <;> exact ⟨rfl, rfl⟩
  refine ⟨hkept.1 ▸ h.queue, hkept.2 ▸ h.window, fun c => ?_⟩
  rw [Port.buf_setBuf]
  split
  · exact hv
  · exact h.bufs c

theorem Port.within_freeBuf (h : x.within n bar) (b) : (x.freeBuf b).within n bar := by
  unfold Port.freeBuf
  split
  · exact h
  all_goals
    obtain ⟨hqueue, hwindow, hbufs⟩ := Port.within_setBuf h b (v := .free) trivial
    exact ⟨hqueue, hwindow, hbufs⟩

theorem Port.within_freeUnsent (h : x.within n bar) : x.freeUnsent.within n bar := by
  have hdrop (b : BufId) {y : Port} (hy : y.within n bar) : (match y.buf b with
      | .composing _ | .ready _ => y.freeBuf b
      | .free | .sent _ => y).within n bar := by
    split
    · exact Port.within_freeBuf hy b
    · exact Port.within_freeBuf hy b
    all_goals exact hy
  exact Port.within_dropQueued (hdrop .second (hdrop .first h)) _

theorem Port.within_flush (h : x.within n bar) : x.flush.within n bar :=
  Port.within_dropQueued (Port.within_freeBuf (Port.within_freeBuf h .first) .second) _

end

theorem Reliable.allowed_discard (n bar e) : (Reliable.discard e).allowed n bar := ⟨trivial, fun _ _ => rfl⟩
theorem Reliable.allowed_stripe (n bar b) : (Reliable.stripe b).allowed n bar := ⟨trivial, fun _ _ => rfl⟩
theorem Reliable.allowed_table (n bar l s a) : (Reliable.table l s a).allowed n bar := ⟨trivial, fun _ _ => rfl⟩
theorem Reliable.allowed_check (n bar e s a) : (Reliable.check e s a).allowed n bar := ⟨trivial, fun _ _ => rfl⟩

/-! ## The frame job's record -/

/-- The epoch of a scene that has not reached ARMED (R59). -/
def FrameRun.barred : FrameRun → Option Epoch
  | .scene r => if r.stage.delivering? then some r.epoch else none
  | .idle | .started | .layers _ | .entries _ | .values _ | .lut _ | .verify _ | .listing _ _ => none

/-- A scene record names no epoch above `n`, and before ARMED nothing is flipped (R59). -/
def SceneRec.within (n : Epoch) (r : SceneRec) : Prop :=
  r.epoch ≤ n ∧ (r.stage.delivering? = true → r.flipSet = 0 ∧ r.flipSent = 0 ∧ r.confirmed = 0 ∧ r.unconfirmed = 0)

/-- What the frame job holds names no epoch above `n`. -/
def FrameRun.within (n : Epoch) : FrameRun → Prop
  | .scene r => r.within n
  | .verify r => tableBelow n r.table
  | .idle | .started | .layers _ | .entries _ | .values _ | .lut _ | .listing _ _ => True

/-- A scene, if one runs, has reached ARMED. -/
def State.pastArming (s : State) : Prop := s.frameRun.barred = none

/-! ## The invariant -/

/-- Every part of the state names epochs in order (R22, R53, R59, R63). -/
structure State.epochal (s : State) : Prop where
  presented : s.presented ≤ s.epochCounter
  tiles : ∀ t : TileId, (s.tile t).within s.presented s.epochCounter
  ports : ∀ p : PortId, (s.port p).within s.epochCounter s.frameRun.barred
  run : s.frameRun.within s.epochCounter
  active : tableBelow s.epochCounter s.composer.active
  shown : tableBelow s.epochCounter s.composer.shown

theorem State.scene_eq_some {s : State} {r : SceneRec} : s.scene = some r ↔ s.frameRun = .scene r := by
  unfold State.scene
  split
  · next h => simp [h]
  all_goals
    next h => simp [h]

theorem State.verify_eq_some {s : State} {r : VerifyRec} : s.verify = some r ↔ s.frameRun = .verify r := by
  unfold State.verify
  split
  · next h => simp [h]
  all_goals
    next h => simp [h]

theorem FrameRun.barred_eq_some {f : FrameRun} {e : Epoch} :
    f.barred = some e ↔ ∃ r, f = .scene r ∧ r.stage.delivering? = true ∧ r.epoch = e := by
  cases f with
  | scene r => simp [FrameRun.barred]
  | _ => simp [FrameRun.barred]

theorem State.epochal_iff (s : State) : (s.epochsOk ∧ s.sceneOk) ↔ s.epochal := by
  constructor
  · rintro ⟨⟨hpresented, hfront, hback, hports, hscene, hactive, hshown, hverify⟩, hok⟩
    have hbarred {k : Reliable} (hk : ∀ r, s.scene = some r → r.stage.delivering? = true → k.isFlipOf r.epoch = false) (e : Epoch)
        (he : s.frameRun.barred = some e) : k.isFlipOf e = false := by
      obtain ⟨r, hr, hdelivering, rfl⟩ := FrameRun.barred_eq_some.mp he
      exact hk r (State.scene_eq_some.mpr hr) hdelivering
    refine ⟨hpresented, fun t => ⟨hfront t, hback t⟩, fun p => ?_, ?_, hactive, hshown⟩
    · obtain ⟨hqueue, hwindow, hbufs⟩ := hports p
      refine ⟨fun k hk => ⟨hqueue k hk, hbarred fun r hr hd => ?_⟩, fun o ho => ⟨hwindow o ho, hbarred fun r hr hd => ?_⟩, hbufs⟩
      · obtain ⟨-, -, -, -, hflips⟩ := hok r hr hd
        exact (hflips p).1 k hk
      · obtain ⟨-, -, -, -, hflips⟩ := hok r hr hd
        exact (hflips p).2 o ho
    · unfold FrameRun.within
      split
      · next r hr =>
        have hrec := State.scene_eq_some.mpr hr
        refine ⟨hscene r hrec, fun hd => ?_⟩
        obtain ⟨hset, hsent, hconfirmed, hunconfirmed, -⟩ := hok r hrec hd
        exact ⟨hset, hsent, hconfirmed, hunconfirmed⟩
      · next r hr => exact hverify r (State.verify_eq_some.mpr hr)
      all_goals exact trivial
  · rintro ⟨hpresented, htiles, hports, hrun, hactive, hshown⟩
    have hscene {r : SceneRec} (hr : s.scene = some r) : r.within s.epochCounter := by
      rw [State.scene_eq_some.mp hr] at hrun
      exact hrun
    refine ⟨⟨hpresented, fun t => (htiles t).1, fun t => (htiles t).2, fun p => ?_, fun r hr => (hscene hr).1, hactive, hshown,
      fun r hr => ?_⟩, fun r hr hd => ?_⟩
    · obtain ⟨hqueue, hwindow, hbufs⟩ := hports p
      exact ⟨fun k hk => (hqueue k hk).1, fun o ho => (hwindow o ho).1, hbufs⟩
    · rw [State.verify_eq_some.mp hr] at hrun
      exact hrun
    · obtain ⟨hset, hsent, hconfirmed, hunconfirmed⟩ := (hscene hr).2 hd
      have hbarred : s.frameRun.barred = some r.epoch :=
        FrameRun.barred_eq_some.mpr ⟨r, State.scene_eq_some.mp hr, hd, rfl⟩
      refine ⟨hset, hsent, hconfirmed, hunconfirmed, fun p => ?_⟩
      obtain ⟨hqueue, hwindow, -⟩ := hports p
      exact ⟨fun k hk => (hqueue k hk).2 _ hbarred, fun o ho => (hwindow o ho).2 _ hbarred⟩

/-! ## Updates -/

/-- The parts that name epochs. -/
def State.epochParts (s : State) : Epoch × Epoch × Vector Tile 12 × Vector Port 12 × FrameRun × Option LayerTable × Option LayerTable :=
  (s.epochCounter, s.presented, s.tiles, s.ports, s.frameRun, s.composer.active, s.composer.shown)

theorem State.epochCounter_modScene (s : State) (f) : (s.modScene f).epochCounter = s.epochCounter := by
  unfold State.modScene
  split <;> rfl

theorem State.epochal_of_parts {s t : State} (hs : s.epochal) (h : t.epochParts = s.epochParts) : t.epochal := by
  simp only [State.epochParts, Prod.mk.injEq] at h
  obtain ⟨hcounter, hpresented, htiles, hports, hrun, hactive, hshown⟩ := h
  have hport (p : PortId) : t.port p = s.port p := congrArg (fun ps => ps[p.val]) hports
  have htile (i : TileId) : t.tile i = s.tile i := congrArg (fun ts => ts[i.val]) htiles
  refine ⟨?_, fun i => ?_, fun p => ?_, ?_, ?_, ?_⟩
  · rw [hpresented, hcounter]
    exact hs.presented
  · rw [htile, hpresented, hcounter]
    exact hs.tiles i
  · rw [hport, hcounter, hrun]
    exact hs.ports p
  · rw [hrun, hcounter]
    exact hs.run
  · rw [hactive, hcounter]
    exact hs.active
  · rw [hshown, hcounter]
    exact hs.shown

theorem State.epochal_setPort {s : State} (hs : s.epochal) {p : PortId} {x : Port}
    (h : x.within s.epochCounter s.frameRun.barred) : (s.setPort p x).epochal := by
  refine ⟨hs.presented, hs.tiles, fun q => ?_, hs.run, hs.active, hs.shown⟩
  by_cases hq : p = q
  · subst hq
    rw [State.port_setPort_self]
    exact h
  · rw [State.port_setPort_ne s hq]
    exact hs.ports q

theorem State.epochal_modPort {s : State} (hs : s.epochal) {p : PortId} {f : Port → Port} (h : Port.Sheds f) :
    (s.modPort p f).epochal := State.epochal_setPort hs (h _ _ _ (hs.ports p))

theorem State.epochal_modTile {s : State} (hs : s.epochal) {t : TileId} {f : Tile → Tile}
    (h : (f (s.tile t)).within s.presented s.epochCounter) : (s.modTile t f).epochal := by
  refine ⟨hs.presented, fun i => ?_, hs.ports, hs.run, hs.active, hs.shown⟩
  show ((s.modTile t f).tile i).within _ _
  rw [State.tile_modTile]
  split
  · next hi => exact hi ▸ h
  · exact hs.tiles i

/-- Another record of the frame job, which bars no new epoch. -/
theorem State.epochal_frameRun {s : State} (hs : s.epochal) {f : FrameRun} (h : f.within s.epochCounter)
    (hbar : f.barred = none ∨ f.barred = s.frameRun.barred) : ({ s with frameRun := f } : State).epochal := by
  refine ⟨hs.presented, hs.tiles, fun p => ?_, h, hs.active, hs.shown⟩
  show (s.port p).within s.epochCounter f.barred
  rcases hbar with hbar | hbar
  · exact hbar ▸ Port.within_none (hs.ports p)
  · exact hbar ▸ hs.ports p

/-- A changed scene record of the same epoch, which is before ARMED only where it was. -/
theorem State.epochal_modScene {s : State} (hs : s.epochal) {f : SceneRec → SceneRec}
    (h : ∀ r, s.frameRun = .scene r → r.within s.epochCounter → (f r).epoch = r.epoch ∧ (f r).within s.epochCounter ∧
      ((f r).stage.delivering? = true → r.stage.delivering? = true)) : (s.modScene f).epochal := by
  unfold State.modScene
  split
  · next r hr =>
    have hrun := hs.run
    rw [hr] at hrun
    obtain ⟨hepoch, hwithin, hstage⟩ := h r hr hrun
    refine State.epochal_frameRun hs hwithin ?_
    rw [hr]
    unfold FrameRun.barred
    simp only
    split
    · next hd => rw [hepoch, if_pos (hstage hd)]; exact Or.inr rfl
    · exact Or.inl rfl
  all_goals exact hs

/-- A change of a scene record that its order does not rest on. -/
def SceneRec.Beside (f : SceneRec → SceneRec) : Prop := ∀ r : SceneRec, (f r).epoch = r.epoch ∧ (f r).stage = r.stage ∧
  (f r).flipSet = r.flipSet ∧ (f r).flipSent = r.flipSent ∧ (f r).confirmed = r.confirmed ∧ (f r).unconfirmed = r.unconfirmed

theorem State.epochal_modScene_beside {s : State} (hs : s.epochal) {f : SceneRec → SceneRec} (h : SceneRec.Beside f) :
    (s.modScene f).epochal := by
  refine State.epochal_modScene hs fun r _ hr => ?_
  obtain ⟨hepoch, hstage, hset, hsent, hconfirmed, hunconfirmed⟩ := h r
  refine ⟨hepoch, ?_, hstage ▸ id⟩
  unfold SceneRec.within
  rw [hepoch, hstage, hset, hsent, hconfirmed, hunconfirmed]
  exact hr

theorem State.pastArming_of_frameRun {s : State} {r : SceneRec} (h : s.frameRun = .scene r) (hd : r.stage.delivering? = false) :
    s.pastArming := by
  unfold State.pastArming
  rw [h]
  simp [FrameRun.barred, hd]

theorem State.delivering_of_pastArming {s : State} (h : s.pastArming) {r : SceneRec} (hr : s.frameRun = .scene r) :
    r.stage.delivering? = false := by
  unfold State.pastArming at h
  rw [hr] at h
  simpa [FrameRun.barred] using h

/-- A changed scene record that has reached ARMED. -/
theorem State.epochal_modScene_past {s : State} (hs : s.epochal) (hpast : s.pastArming) {f : SceneRec → SceneRec}
    (h : ∀ r, (f r).epoch = r.epoch ∧ (f r).stage = r.stage) : (s.modScene f).epochal := by
  refine State.epochal_modScene hs fun r hr hwithin => ?_
  obtain ⟨hepoch, hstage⟩ := h r
  have hd := State.delivering_of_pastArming hpast hr
  have hd' : (f r).stage.delivering? = false := hstage ▸ hd
  exact ⟨hepoch, ⟨hepoch ▸ hwithin.1, fun k => absurd (hd'.symm.trans k) (by decide)⟩,
    fun k => absurd (hd'.symm.trans k) (by decide)⟩

theorem State.pastArming_modScene {s : State} (hpast : s.pastArming) {f : SceneRec → SceneRec} (h : ∀ r, (f r).stage = r.stage) :
    (s.modScene f).pastArming := by
  unfold State.modScene
  split
  · next r hr =>
    have hd := State.delivering_of_pastArming hpast hr
    exact State.pastArming_of_frameRun rfl (h r ▸ hd)
  all_goals exact hpast

theorem State.frameRun_modJob (s : State) (a f) : (s.modJob a f).frameRun = s.frameRun := rfl

theorem State.epochal_writeProgress {s : State} (hs : s.epochal) (v) : (s.writeProgress v).epochal := by
  unfold State.writeProgress
  split
  · exact hs
  · exact State.epochal_of_parts hs rfl

theorem State.epochal_completeFrame {s : State} (hs : s.epochal) (r) : (s.completeFrame r).epochal := by
  unfold State.completeFrame
  split
  · exact State.epochal_frameRun hs trivial (Or.inl rfl)
  · next j _ =>
    have hhanded : (s.hand j.addr r).epochal := State.epochal_of_parts hs rfl
    exact State.epochal_frameRun (f := .idle) hhanded trivial (Or.inl rfl)

/-- Looping over tiles or ports. -/
theorem foldl_invariant {P : State → Prop} {β : Type} (f : State → β → State) (h : ∀ s b, P s → P (f s b)) (bs : List β)
    (s : State) (hs : P s) : P (bs.foldl f s) := by
  induction bs generalizing s with
  | nil => exact hs
  | cons b bs ih => exact ih _ (h s b hs)

/-! ## Delivery and its end -/

section
variable {s : State}

theorem State.epochal_enqueue (hs : s.epochal) (p) {k : Reliable} (h : ∀ n bar, k.allowed n bar) :
    (s.modPort p fun x => x.enqueue k).epochal := State.epochal_modPort hs fun n bar _ hx => Port.within_enqueue hx (h n bar)

theorem State.epochal_dropQueued (hs : s.epochal) (p f) : (s.modPort p fun x => x.dropQueued f).epochal :=
  State.epochal_modPort hs fun _ _ _ hx => Port.within_dropQueued hx f

theorem State.epochal_queueDiscard (hs : s.epochal) (t e) : (s.queueDiscard t e).epochal := by
  unfold State.queueDiscard
  split
  · exact hs
  · refine State.epochal_modPort hs fun n bar x hx => ?_
    split
    · exact hx
    · exact Port.within_enqueue hx (Reliable.allowed_discard n bar e)

theorem State.epochal_releaseEngine (hs : s.epochal) (p) : (s.releaseEngine p).epochal := by
  unfold State.releaseEngine
  split
  · exact hs
  all_goals
    split
    · exact State.epochal_of_parts hs rfl
    · exact hs

theorem State.epochal_setCursor (hs : s.epochal) (t n) : (s.setCursor t n).epochal :=
  State.epochal_modScene_beside hs fun _ => ⟨rfl, rfl, rfl, rfl, rfl, rfl⟩

theorem State.epochal_flushPort (hs : s.epochal) (p) : (s.flushPort p).epochal := by
  have hflushed : ((s.modPort p Port.flush).releaseEngine p).epochal :=
    State.epochal_releaseEngine (State.epochal_modPort hs fun _ _ _ => Port.within_flush) p
  unfold State.flushPort
  simp only
  split
  · split
    · exact State.epochal_setCursor hflushed _ _
    · exact hflushed
  · exact hflushed

theorem State.epochal_freeTile (hs : s.epochal) (t) : (s.freeTile t).epochal := by
  unfold State.freeTile
  split
  · exact hs
  · exact State.epochal_releaseEngine (State.epochal_modPort hs fun _ _ _ => Port.within_freeUnsent) _

theorem State.epochal_stopDelivery (hs : s.epochal) (e t) : (s.stopDelivery e t).epochal := by
  unfold State.stopDelivery
  simp only
  split
  · exact State.epochal_queueDiscard (State.epochal_freeTile hs t) t e
  · exact State.epochal_freeTile hs t

theorem State.epochal_endAtTile (hs : s.epochal) (e t) : (s.endAtTile e t).epochal := by
  have hfreed := State.epochal_freeTile hs t
  have hdiscarded {u : State} (hu : u.epochal) : (if (u.tile t).back.holds e then u.queueDiscard t e else u).epochal := by
    split
    · exact State.epochal_queueDiscard hu t e
    · exact hu
  unfold State.endAtTile
  refine hdiscarded ?_
  split
  · exact hfreed
  · split
    · exact hfreed
    · exact State.epochal_dropQueued hfreed _ _

theorem State.epochal_completeScene (hs : s.epochal) (r) : (s.completeScene r).epochal := by
  obtain ⟨hpresented, htiles, hports, hrun, -, hshown⟩ := State.epochal_completeFrame hs r
  exact ⟨hpresented, htiles, hports, hrun, nofun, hshown⟩

theorem State.epochal_endSceneWith (hs : s.epochal) (r x) : (s.endSceneWith r x).epochal :=
  State.epochal_completeScene
    (foldl_invariant (P := State.epochal) _ (fun _ t hu => State.epochal_endAtTile hu r.epoch t) _ _ hs) x

theorem State.epochal_endSceneEarly (hs : s.epochal) (o) : (s.endSceneEarly o).epochal := by
  unfold State.endSceneEarly
  split
  · exact hs
  · exact State.epochal_endSceneWith hs _ _

theorem State.epochal_settleScene (hs : s.epochal) : s.settleScene.epochal := by
  unfold State.settleScene
  split
  · exact hs
  · split
    · exact hs
    · split
      · exact State.epochal_completeScene hs _
      · split
        · refine State.epochal_writeProgress (State.epochal_modScene hs fun r _ hr => ?_) _
          exact ⟨rfl, ⟨hr.1, nofun⟩, nofun⟩
        · exact hs

/-! ## Arming and drops -/

/-- A scene that is armed bars no epoch any more, and its FLIPs name its own (R59). -/
theorem State.epochal_armScene (hs : s.epochal) {r : SceneRec} (hr : s.frameRun = .scene r) : (s.armScene r).epochal := by
  have hepoch : r.epoch ≤ s.epochCounter := by
    have hrun := hs.run
    rw [hr] at hrun
    exact hrun.1
  have harmed (set : Mask) (target : Word) : (s.modScene fun r => { r with
      flipSet := set, target := some target, deadline := 0, stage := .armed }).epochal ∧
      (s.modScene fun r => { r with flipSet := set, target := some target, deadline := 0, stage := .armed }).pastArming ∧
      (s.modScene fun r => { r with flipSet := set, target := some target, deadline := 0, stage := .armed }).epochCounter =
        s.epochCounter := by
    refine ⟨State.epochal_modScene hs fun r _ hr => ⟨rfl, ⟨hr.1, nofun⟩, nofun⟩, ?_, ?_⟩
    · unfold State.modScene
      rw [hr]
      exact State.pastArming_of_frameRun rfl rfl
    · unfold State.modScene
      rw [hr]
  unfold State.armScene
  simp only
  obtain ⟨horder, hpast, hcounter⟩ := harmed (s.armedMask r) (s.ref.frameNumber + 2)
  refine State.epochal_writeProgress (foldl_invariant
    (P := fun u => u.epochal ∧ u.pastArming ∧ u.epochCounter = s.epochCounter) _ (fun u t hu => ?_) _ _ ⟨horder, hpast, hcounter⟩).1 _
  obtain ⟨hu, hpast, hcounter⟩ := hu
  split
  · exact ⟨hu, hpast, hcounter⟩
  · refine ⟨State.epochal_setPort hu (Port.within_enqueue (hu.ports _) ⟨?_, fun e he => ?_⟩), hpast, hcounter⟩
    · exact hcounter ▸ hepoch
    · exact nomatch hpast.symm.trans he

theorem State.epochal_armingRule (hs : s.epochal) : s.armingRule.epochal := by
  unfold State.armingRule
  split
  · exact hs
  · next r hr =>
    split
    · exact hs
    · simp only
      split
      · exact State.epochal_endSceneEarly hs _
      · split
        · exact State.epochal_armScene hs (State.scene_eq_some.mp hr)
        · split
          · exact State.epochal_endSceneEarly hs _
          · exact hs

theorem State.epochal_dropTiles (hs : s.epochal) (m c) : (s.dropTiles m c).epochal := by
  unfold State.dropTiles
  split
  · exact hs
  · simp only
    split
    · exact hs
    · refine State.epochal_armingRule
        (foldl_invariant (P := State.epochal) _ (fun _ t hu => State.epochal_stopDelivery hu _ t) _ _ ?_)
      exact State.epochal_modScene_beside hs fun _ => ⟨rfl, rfl, rfl, rfl, rfl, rfl⟩

theorem State.epochal_expireDeadline (hs : s.epochal) : s.expireDeadline.epochal := by
  unfold State.expireDeadline
  split
  · exact hs
  · refine State.epochal_dropTiles ?_ _ _
    exact State.epochal_modScene_beside hs fun _ => ⟨rfl, rfl, rfl, rfl, rfl, rfl⟩

/-! ## Confirmations -/

theorem Tile.within_mono {m m' n : Epoch} {x : Tile} (h : x.within m n) (hm : m ≤ m') : x.within m' n :=
  ⟨h.1.imp id fun hx => BitVec.le_trans hx hm, h.2⟩

/-- The presented epoch once `x` has been presented too (R33). -/
def State.presentedWith (s : State) (x : Epoch) : Epoch := if s.presented < x then x else s.presented

/-- An epoch is presented in a state that would be in order with that epoch presented (R33, R63). -/
theorem State.epochal_present {x : Epoch} (h : ({ s with presented := s.presentedWith x } : State).epochal) :
    (s.present x).epochal := by
  unfold State.presentedWith at h
  unfold State.present
  split
  · next hlt =>
    rw [if_pos hlt] at h
    obtain ⟨hpresented, htiles, hports, hrun, hactive, -⟩ := h
    refine ⟨hpresented, htiles, hports, hrun, hactive, fun tab htab => ?_⟩
    simp only at htab
    split at htab
    · next tab' htab' =>
      split at htab
      · exact Option.some.inj htab ▸ hactive tab' htab'
      · exact nomatch htab
    · exact nomatch htab
  · next hle =>
    rw [if_neg hle] at h
    exact h

theorem SceneRec.not_delivering_of_awaits {n : Epoch} {r : SceneRec} (h : r.within n) {e : Epoch} {t : TileId}
    (hawaits : r.awaits e t = true) : r.stage.delivering? = false := by
  cases hd : r.stage.delivering? with
  | false => rfl
  | true =>
    obtain ⟨hset, -⟩ := h.2 hd
    simp [SceneRec.awaits, hset, Mask.has] at hawaits

theorem State.epochal_confirmed (hs : s.epochal) (t : TileId) (x : Epoch) :
    (s.modScene fun r => if r.awaits x t then { r with confirmed := r.confirmed ||| bitOf t } else r).epochal := by
  refine State.epochal_modScene hs fun r _ hr => ?_
  split
  · next hawaits =>
    have hd := SceneRec.not_delivering_of_awaits hr hawaits
    exact ⟨rfl, ⟨hr.1, fun k => absurd (hd.symm.trans k) (by decide)⟩, id⟩
  · exact ⟨rfl, hr, id⟩

end

/-- What a confirmation of `x` does beside the tile's record and the presented epoch (R63): its FLIPs go, and the scene counts it. -/
def State.confirmBeside (s : State) (t : TileId) (x : Epoch) : State :=
  (match (s.tile t).geom.port with
    | none => s
    | some p => s.modPort p (fun y => y.dropQueued (Reliable.isFlipOf x))).modScene
      fun r => if r.awaits x t then { r with confirmed := r.confirmed ||| bitOf t } else r

theorem State.confirmFlip_eq (s : State) (t x) :
    s.confirmFlip t x = ((s.modTile t fun r => { r.activate with front := x, back := .empty }).confirmBeside t x).present x := rfl

section
variable {s : State}

theorem State.epochal_confirmBeside (hs : s.epochal) (t x) : (s.confirmBeside t x).epochal := by
  refine State.epochal_confirmed ?_ t x
  split
  · exact hs
  · exact State.epochal_dropQueued hs _ _

theorem State.confirmBeside_presented (s : State) (t x) (m : Epoch) :
    (({ s with presented := m } : State).confirmBeside t x) = { s.confirmBeside t x with presented := m } := by
  have hscene (u : State) (f) : ({ u with presented := m } : State).modScene f = { u.modScene f with presented := m } := by
    unfold State.modScene
    dsimp only
    split <;> rfl
  unfold State.confirmBeside
  rw [← hscene]
  refine congrArg (fun u : State => u.modScene _) ?_
  show (match (s.tile t).geom.port with | none => _ | some _ => _) = _
  split <;> rfl

theorem State.presented_confirmBeside (s : State) (t x) : (s.confirmBeside t x).presented = s.presented := by
  unfold State.confirmBeside State.modScene
  split <;> split <;> rfl

/-- A flip confirmation of an epoch that has been counted (R63). -/
theorem State.epochal_confirmFlip (hs : s.epochal) (t : TileId) {x : Epoch} (hx : x ≤ s.epochCounter) :
    (s.confirmFlip t x).epochal := by
  have hbounds : s.presented ≤ s.presentedWith x ∧ x ≤ s.presentedWith x ∧ s.presentedWith x ≤ s.epochCounter := by
    unfold State.presentedWith
    split
    · next h => exact ⟨BitVec.le_of_lt h, BitVec.le_refl _, hx⟩
    · next h => exact ⟨BitVec.le_refl _, BitVec.not_lt.mp h, hs.presented⟩
  obtain ⟨hold, hnew, hcounter⟩ := hbounds
  have hraised : ({ s with presented := s.presentedWith x } : State).epochal :=
    ⟨hcounter, fun i => Tile.within_mono (hs.tiles i) hold, hs.ports, hs.run, hs.active, hs.shown⟩
  rw [State.confirmFlip_eq]
  refine State.epochal_present ?_
  unfold State.presentedWith
  rw [State.presented_confirmBeside, ← State.confirmBeside_presented]
  refine State.epochal_confirmBeside ?_ t x
  exact State.epochal_modTile (f := fun r => { r.activate with front := x, back := .empty }) hraised ⟨Or.inr hnew, trivial⟩

/-! ## Reports -/

/-- The epoch of a whole back store has been counted. -/
theorem State.le_of_scheduled (hs : s.epochal) {t : TileId} {e : Epoch} (h : (s.tile t).back.isScheduled e = true) :
    e ≤ s.epochCounter := by
  have hback := (hs.tiles t).2
  cases hb : (s.tile t).back with
  | scheduled e' f =>
    rw [hb] at h hback
    obtain rfl : e' = e := by simpa [BackStore.isScheduled] using h
    exact hback
  | _ => simp [hb, BackStore.isScheduled] at h

theorem State.epochal_flipReport (hs : s.epochal) (t x frame) : (s.flipReport t x frame).epochal := by
  unfold State.flipReport
  split
  · next e f hb =>
    split
    · next he =>
      have hx : x ≤ s.epochCounter := State.le_of_scheduled hs (t := t) (by simp [hb, BackStore.isScheduled, he])
      refine State.epochal_settleScene (State.epochal_confirmFlip ?_ t ?_)
      · refine State.epochal_modScene_beside hs fun r => ?_
        dsimp only
        split <;> split <;> exact ⟨rfl, rfl, rfl, rfl, rfl, rfl⟩
      · rw [State.epochCounter_modScene]
        exact hx
    · exact hs
  all_goals exact hs

theorem State.epochal_unconfirm (hs : s.epochal) (hpast : s.pastArming) (t c) : (s.unconfirm t c).epochal :=
  State.epochal_modScene_past hs hpast fun _ => ⟨rfl, rfl⟩

theorem State.pastArming_unconfirm (hpast : s.pastArming) (t c) : (s.unconfirm t c).pastArming :=
  State.pastArming_modScene hpast fun _ => rfl

theorem State.pastArming_of_awaits (hs : s.epochal) {r : SceneRec} (hr : s.scene = some r) {e t}
    (hawaits : r.awaits e t = true) : s.pastArming := by
  have hrun := hs.run
  rw [State.scene_eq_some.mp hr] at hrun
  exact State.pastArming_of_frameRun (State.scene_eq_some.mp hr) (SceneRec.not_delivering_of_awaits hrun hawaits)

/-- The FLIP of the past limit gives way to DISCARD (R66). -/
theorem Port.sheds_flipToDiscard (e : Epoch) : Port.Sheds fun x =>
    { x with queue := x.queue.map fun k => if k.isFlipOf e then .discard e else k } := fun n bar x hx => by
  refine ⟨fun k hk => ?_, hx.window, hx.bufs⟩
  obtain ⟨k', hk', rfl⟩ := List.mem_map.mp hk
  split
  · exact Reliable.allowed_discard n bar e
  · exact hx.queue k' hk'

theorem State.epochal_passLimit (hs : s.epochal) (hpast : s.pastArming) (r t) : (s.passLimit r t).epochal := by
  have hlost := State.epochal_unconfirm hs hpast t .limit
  unfold State.passLimit
  simp only
  split
  · exact hlost
  · split
    · exact State.epochal_dropQueued hlost _ _
    · exact State.epochal_modPort hlost (Port.sheds_flipToDiscard r.epoch)

theorem State.pastArming_passLimit (hpast : s.pastArming) (r t) : (s.passLimit r t).pastArming := by
  have hlost := State.pastArming_unconfirm hpast t .limit
  unfold State.passLimit
  simp only
  repeat' split
  all_goals exact hlost

theorem State.epochal_checkLimits (hs : s.epochal) : s.checkLimits.epochal := by
  unfold State.checkLimits
  split
  · exact hs
  · next r hr =>
    refine State.epochal_settleScene ?_
    by_cases hdue : ∃ t, r.awaits r.epoch t = true
    · obtain ⟨t, ht⟩ := hdue
      exact (foldl_invariant (P := fun u => u.epochal ∧ u.pastArming) _
        (fun u t hu => ⟨State.epochal_passLimit hu.1 hu.2 r t, State.pastArming_passLimit hu.2 r t⟩) _ _
        ⟨hs, State.pastArming_of_awaits hs hr ht⟩).1
    · have hnone : (allIds.filter fun t => r.awaits r.epoch t && s.ref.frameNumber == s.limitTarget r t + 8) = [] :=
        List.filter_eq_nil_iff.mpr fun t _ h => hdue ⟨t, (Bool.and_eq_true_iff.mp h).1⟩
      rw [hnone]
      exact hs

theorem State.epochal_blankFront (hs : s.epochal) (t) : (s.blankFront t).epochal := by
  unfold State.blankFront
  split
  · exact State.epochal_modTile hs ⟨Or.inl rfl, (hs.tiles t).2⟩
  · exact hs

theorem State.epochal_lostTile (hs : s.epochal) (t) : (s.lostTile t).epochal := by
  have hblank := State.epochal_blankFront hs t
  unfold State.lostTile
  simp only
  split
  · exact hblank
  · next r hr =>
    split
    · exact State.epochal_dropTiles hblank _ _
    · split
      · next ha => exact State.epochal_settleScene (State.epochal_unconfirm hblank (State.pastArming_of_awaits hblank hr ha) t _)
      · exact hblank

theorem State.epochal_reportFront (hs : s.epochal) (t f) : (s.reportFront t f).epochal := by
  refine State.epochal_modTile hs ?_
  split
  · exact hs.tiles t
  · exact ⟨Or.inl rfl, (hs.tiles t).2⟩

/-- A back store that names no epoch above the counter. -/
theorem State.epochal_back (hs : s.epochal) (t) {v : BackStore} (hv : v.wholeBelow s.epochCounter) :
    (s.modTile t fun x => { x with back := v }).epochal := State.epochal_modTile hs ⟨(hs.tiles t).1, hv⟩

theorem State.epochal_reportBack (hs : s.epochal) (t b n) : (s.reportBack t b n).epochal := by
  unfold State.reportBack
  split
  · exact State.epochal_back hs t trivial
  · exact State.epochal_queueDiscard (State.epochal_back hs t (v := .loading b n) trivial) t b

theorem State.epochal_reportFlip (hs : s.epochal) (t f) : (s.reportFlip t f).epochal := by
  unfold State.reportFlip
  split
  · next h => exact State.epochal_confirmFlip hs t (State.le_of_scheduled hs h)
  · exact State.epochal_reportFront hs t f

theorem State.epochal_resume (hs : s.epochal) {r : SceneRec} (hr : r.epoch ≤ s.epochCounter) (t b n) : (s.resume r t b n).epochal := by
  unfold State.resume
  simp only
  split
  · exact State.epochal_setCursor (State.epochal_back hs t (v := .empty) trivial) t _
  · split
    · exact State.epochal_setCursor (State.epochal_back hs t (v := .loading b n) trivial) t _
    · split
      · next h => exact State.epochal_setCursor (State.epochal_back hs t (v := .armed b) (h.1 ▸ hr)) t _
      · exact State.epochal_queueDiscard (State.epochal_setCursor (State.epochal_back hs t (v := .loading b n) trivial) t _) t b

theorem State.epochal_requeueFlip (hs : s.epochal) (hpast : s.pastArming) (t) {e : Epoch} (he : e ≤ s.epochCounter) (f) :
    (s.requeueFlip t e f).epochal := by
  unfold State.requeueFlip
  split
  · exact hs
  · refine State.epochal_setPort hs ?_
    dsimp only
    split
    · exact hs.ports _
    · exact Port.within_enqueue (hs.ports _) ⟨he, fun _ hbar => nomatch hpast.symm.trans hbar⟩

end

/-! ## What a report leaves of the counter and the stage -/

/-- The epoch counter, and whether a scene before ARMED is there. -/
def State.sameRun (s t : State) : Prop := t.epochCounter = s.epochCounter ∧ (s.pastArming → t.pastArming)

theorem State.sameRun_confirmFlip (s : State) (t x) : s.sameRun (s.confirmFlip t x) := by
  have hpresent (u : State) : (u.present x).epochCounter = u.epochCounter ∧ (u.present x).frameRun = u.frameRun := by
    unfold State.present
    split <;> exact ⟨rfl, rfl⟩
  have hdropped (u : State) : (match (u.tile t).geom.port with
      | none => u
      | some p => u.modPort p (fun y => y.dropQueued (Reliable.isFlipOf x))).epochCounter = u.epochCounter ∧
      (match (u.tile t).geom.port with
      | none => u
      | some p => u.modPort p (fun y => y.dropQueued (Reliable.isFlipOf x))).frameRun = u.frameRun := by
    split <;> exact ⟨rfl, rfl⟩
  rw [State.confirmFlip_eq]
  refine ⟨(hpresent _).1.trans ?_, fun hpast => ?_⟩
  · unfold State.confirmBeside
    rw [State.epochCounter_modScene]
    exact (hdropped _).1
  · refine (congrArg FrameRun.barred (hpresent _).2).trans (State.pastArming_modScene ?_ fun r => ?_)
    · exact (congrArg FrameRun.barred (hdropped _).2).trans hpast
    · split <;> rfl

theorem State.sameRun_reportFlip (s : State) (t f) : s.sameRun (s.reportFlip t f) := by
  unfold State.reportFlip
  split
  · exact s.sameRun_confirmFlip t f
  · exact ⟨rfl, id⟩

theorem State.pastArming_reportFront {s : State} (h : s.pastArming) (t f) : (s.reportFront t f).pastArming := h

section
variable {s : State}

theorem State.epochal_loseFlip (hs : s.epochal) (hpast : s.pastArming) (r t f b n) : (s.loseFlip r t f b n).epochal := by
  have hlost := State.epochal_unconfirm (State.epochal_reportFlip hs t f) ((s.sameRun_reportFlip t f).2 hpast) t .lost
  unfold State.loseFlip
  refine State.epochal_settleScene (State.epochal_reportBack ?_ t b n)
  split
  · exact hlost
  · exact State.epochal_dropQueued hlost _ _

theorem State.epochal_relinkFlip (hs : s.epochal) (hpast : s.pastArming) (r t f b n) : (s.relinkFlip r t f b n).epochal := by
  have hback := (hs.tiles t).2
  unfold State.relinkFlip
  simp only
  split
  · next e target hb =>
    have he : e ≤ s.epochCounter := by
      rw [hb] at hback
      exact hback
    split
    · exact State.epochal_settleScene (State.epochal_reportBack (State.epochal_confirmFlip hs t he) t b n)
    · split
      · refine State.epochal_modScene_past (State.epochal_requeueFlip ?_ ?_ t ?_ target) ?_ fun _ => ⟨rfl, rfl⟩
        · exact State.epochal_back (State.epochal_reportFront hs t f) t he
        · exact hpast
        · exact he
        · unfold State.requeueFlip
          split <;> exact hpast
      · exact State.epochal_loseFlip hs hpast r t f b n
  · split
    · exact State.epochal_reportFront hs t f
    · exact State.epochal_loseFlip hs hpast r t f b n
  · exact State.epochal_loseFlip hs hpast r t f b n
  · exact State.epochal_loseFlip hs hpast r t f b n

theorem State.epochal_storeReport (hs : s.epochal) (t f b n) : (s.storeReport t f b n).epochal := by
  have hflip := State.epochal_reportFlip hs t f
  unfold State.storeReport
  split
  · exact State.epochal_reportBack hflip t b n
  · next r hr =>
    split
    · next h => exact State.epochal_relinkFlip hs (State.pastArming_of_awaits hs hr h) r t f b n
    · split
      · refine State.epochal_armingRule (State.epochal_resume hflip ?_ t b n)
        have hrun := hs.run
        rw [State.scene_eq_some.mp hr] at hrun
        exact (s.sameRun_reportFlip t f).1 ▸ hrun.1
      · exact State.epochal_reportBack hflip t b n

end

end Sys2Proof.Machine

/-! SUPPORT. O58: the epoch order kept by the table logic, the links and the stream. -/
namespace Sys2Proof.Machine

/-! ## Jobs without a scene -/

/-- A record of the frame job that is no scene and holds no table. -/
def FrameRun.plain : FrameRun → Prop
  | .scene _ => False
  | .verify _ => False
  | .idle | .started | .layers _ | .entries _ | .values _ | .lut _ | .listing _ _ => True

theorem FrameRun.within_of_plain {f : FrameRun} (h : f.plain) (n : Epoch) : f.within n ∧ f.barred = none := by
  cases f with
  | scene r => exact h.elim
  | verify r => exact h.elim
  | _ => exact ⟨trivial, rfl⟩

section
variable {s : State}

theorem State.epochal_run (hs : s.epochal) {f : FrameRun} (h : f.plain) : ({ s with frameRun := f } : State).epochal :=
  State.epochal_frameRun hs (FrameRun.within_of_plain h _).1 (Or.inl (FrameRun.within_of_plain h s.epochCounter).2)

theorem State.epochal_modLut (hs : s.epochal) (f) : (s.modLut f).epochal := by
  unfold State.modLut
  split
  · exact State.epochal_run hs (f := .values _) trivial
  · exact State.epochal_run hs (f := .lut _) trivial
  all_goals exact hs

/-- A changed record of a VERIFY that compares with the same table. -/
theorem State.epochal_modVerify (hs : s.epochal) {f : VerifyRec → VerifyRec} (h : ∀ r, (f r).table = r.table) :
    (s.modVerify f).epochal := by
  unfold State.modVerify
  split
  · next r hr =>
    have hrun := hs.run
    rw [hr] at hrun
    refine State.epochal_frameRun hs (f := .verify (f r)) ?_ (Or.inl rfl)
    show tableBelow s.epochCounter (f r).table
    exact h r ▸ hrun
  · exact State.epochal_run hs (f := .listing _ _) trivial
  all_goals exact hs

theorem State.epochal_settleLut (hs : s.epochal) : s.settleLut.epochal := by
  unfold State.settleLut
  split
  · exact hs
  · split
    · exact State.epochal_completeFrame hs _
    · exact hs

theorem State.epochal_dropQueuedOf (hs : s.epochal) (t f) : (s.dropQueuedOf t f).epochal := by
  unfold State.dropQueuedOf
  split
  · exact hs
  · exact State.epochal_dropQueued hs _ _

theorem State.epochal_lutSkip (hs : s.epochal) (t) : (s.lutSkip t).epochal := by
  unfold State.lutSkip
  split
  · exact hs
  · split
    · exact State.epochal_settleLut (State.epochal_dropQueuedOf (State.epochal_modLut hs _) t _)
    · exact hs

theorem State.epochal_ackTable (hs : s.epochal) (t l n) : (s.ackTable t l n).epochal := by
  have hacked : (s.modTile t fun x => x.tableAcked l).epochal := State.epochal_modTile hs (hs.tiles t)
  unfold State.ackTable
  simp only
  split
  · exact hacked
  · split
    · exact State.epochal_settleLut (State.epochal_modLut hacked _)
    · exact hacked

theorem State.epochal_handPacket (hs : s.epochal) (t) {k : Reliable} (h : ∀ n bar, k.allowed n bar) : (s.handPacket t k).epochal := by
  unfold State.handPacket
  split
  · exact hs
  · exact State.epochal_enqueue hs _ h

theorem State.epochal_queueTables (hs : s.epochal) (r) : (s.queueTables r).epochal := by
  unfold State.queueTables
  simp only
  refine State.epochal_settleLut (State.forEach_invariant (P := State.epochal) _ (fun t u hu => ?_) _ _ ?_)
  · exact State.epochal_handPacket hu t fun n bar => Reliable.allowed_table n bar _ _ _
  · exact State.epochal_run hs (f := .lut _) trivial

theorem State.epochal_settleVerify (hs : s.epochal) : s.settleVerify.epochal := by
  unfold State.settleVerify
  split
  · exact hs
  · split
    · split
      · exact State.epochal_completeFrame hs _
      · exact State.epochal_run hs (f := .listing _ _) trivial
    · exact hs

theorem State.epochal_verifyMiss (hs : s.epochal) (t) : (s.verifyMiss t).epochal := by
  unfold State.verifyMiss
  split
  · exact hs
  · split
    · refine State.epochal_settleVerify (State.epochal_dropQueuedOf ?_ t _)
      exact State.epochal_modVerify hs fun _ => rfl
    · exact hs

theorem State.epochal_queueChecks (hs : s.epochal) (list m) : (s.queueChecks list m).epochal := by
  unfold State.queueChecks
  simp only
  refine State.epochal_settleVerify (State.forEach_invariant (P := State.epochal) _ (fun t u hu => ?_) _ _ ?_)
  · exact State.epochal_handPacket hu t fun n bar => Reliable.allowed_check n bar _ _ _
  · have hserial : ({ s with serial := s.serial + 1 } : State).epochal := State.epochal_of_parts hs rfl
    exact State.epochal_frameRun (f := .verify _) hserial hs.shown (Or.inl rfl)

theorem State.epochal_takeReport (hs : s.epochal) (t e c) : (s.takeReport t e c).epochal := by
  unfold State.takeReport
  split
  · exact hs
  · split
    · refine State.epochal_settleVerify (State.epochal_modVerify hs fun _ => ?_)
      split <;> rfl
    · exact hs

theorem State.epochal_portLeft (hs : s.epochal) (p) : (s.portLeft p).epochal := by
  unfold State.portLeft
  split
  · exact hs
  · exact State.epochal_verifyMiss (State.epochal_lutSkip hs _) _

theorem State.epochal_noteTable (hs : s.epochal) (k) : (s.noteTable k).epochal := State.epochal_modLut hs _

theorem State.epochal_flagScene (hs : s.epochal) (t : TileId) (f : ResultFlags → ResultFlags) :
    (s.modScene fun r => if Mask.has r.participants t then { r with flags := f r.flags } else r).epochal := by
  refine State.epochal_modScene_beside hs fun r => ?_
  split <;> exact ⟨rfl, rfl, rfl, rfl, rfl, rfl⟩

theorem State.epochal_noteResent (hs : s.epochal) (p k) : (s.noteResent p k).epochal := by
  have hcheck {u : State} (hu : u.epochal) : ((u.noteTable k).noteCheck k).epochal := by
    refine State.epochal_modVerify (State.epochal_noteTable hu k) fun r => ?_
    split <;> rfl
  unfold State.noteResent
  refine hcheck ?_
  split
  · exact hs
  · exact State.epochal_flagScene hs _ ResultFlags.retry

theorem State.epochal_noteDownshift (hs : s.epochal) (p) : (s.noteDownshift p).epochal := by
  unfold State.noteDownshift
  split
  · exact hs
  · refine State.epochal_modVerify (State.epochal_modLut (State.epochal_flagScene hs _ ResultFlags.downshift) _) fun r => ?_
    split <;> rfl

theorem State.epochal_noteRetrain (hs : s.epochal) (p) : (s.noteRetrain p).epochal := by
  unfold State.noteRetrain
  split
  · split
    · exact hs
    · refine State.epochal_modVerify hs fun r => ?_
      split <;> rfl
  · exact hs

end

/-! ## Ports -/

/-- A change of a port beside its queue, window and buffers. -/
theorem Port.sheds_of_same {f : Port → Port}
    (h : ∀ x : Port, (f x).queue = x.queue ∧ (f x).window = x.window ∧ (f x).bufA = x.bufA ∧ (f x).bufB = x.bufB) : Port.Sheds f :=
  fun _ _ x hx => by
    obtain ⟨hqueue, hwindow, hbufA, hbufB⟩ := h x
    exact Port.within_congr hx hqueue hwindow hbufA hbufB

/-- A change of a port that empties its queue and its window. -/
theorem Port.sheds_of_emptied {f : Port → Port}
    (h : ∀ x : Port, (f x).queue = [] ∧ (f x).window = [] ∧ (f x).bufA = x.bufA ∧ (f x).bufB = x.bufB) : Port.Sheds f :=
  fun n bar x hx => by
    obtain ⟨hqueue, hwindow, hbufA, hbufB⟩ := h x
    have hempty : ({ x with queue := [], window := [] } : Port).within n bar := ⟨nofun, nofun, hx.bufs⟩
    exact Port.within_congr hempty hqueue hwindow hbufA hbufB

theorem Reliable.allowed_requeued {n : Epoch} {bar : Option Epoch} {k : Reliable} (h : k.allowed n bar) :
    k.requeued.allowed n bar := by
  cases k with
  | flip e f fresh => exact h
  | stripe b => exact h
  | discard e => exact h
  | table l m again => exact Reliable.allowed_table n bar _ _ _
  | check e m again => exact Reliable.allowed_check n bar _ _ _

/-- The packets that go back to the queue at an exit from UP were in the window (R107). -/
theorem Port.within_clearStream {n : Epoch} {bar : Option Epoch} {x : Port} (h : x.within n bar) : x.clearStream.within n bar := by
  refine ⟨fun k hk => ?_, nofun, h.bufs⟩
  rcases List.mem_append.mp hk with hk | hk
  · obtain ⟨k', hk', rfl⟩ := List.mem_map.mp hk
    obtain ⟨o, ho, rfl⟩ := List.mem_map.mp (List.mem_filter.mp hk').1
    exact Reliable.allowed_requeued (h.window o ho)
  · exact h.queue k hk

section
variable {s : State}

theorem State.epochal_port (hs : s.epochal) (p) {f : Port → Port}
    (h : ∀ x : Port, (f x).queue = x.queue ∧ (f x).window = x.window ∧ (f x).bufA = x.bufA ∧ (f x).bufB = x.bufB) :
    (s.modPort p f).epochal := State.epochal_modPort hs (Port.sheds_of_same h)

/-! ## Links -/

theorem State.epochal_endTestWith (hs : s.epochal) (p o d) : (s.endTestWith p o d).epochal := by
  unfold State.endTestWith
  split
  · exact hs
  · have htest : (s.modPort p fun x => { x with test := none }).epochal := State.epochal_port hs p fun _ => ⟨rfl, rfl, rfl, rfl⟩
    exact State.epochal_of_parts htest rfl

theorem State.epochal_exitUp (hs : s.epochal) (p) : (s.exitUp p).epochal := by
  unfold State.exitUp
  simp only
  refine State.epochal_endTestWith (State.epochal_flushPort
    (foldl_invariant (P := State.epochal) _ (fun _ k hu => State.epochal_noteTable hu k) _ _ ?_) p) p _ _
  have hraised : s.raiseTile.epochal := State.epochal_of_parts hs rfl
  refine State.epochal_modPort hraised fun n bar x hx => ?_
  exact Port.within_congr (Port.within_clearStream hx) rfl rfl rfl rfl

theorem State.epochal_enterListen (hs : s.epochal) (p) : (s.enterListen p).epochal := by
  refine State.epochal_portLeft ?_ p
  exact State.epochal_port hs p fun _ => ⟨rfl, rfl, rfl, rfl⟩

theorem State.epochal_enterOffer (hs : s.epochal) (p) : (s.enterOffer p).epochal := by
  refine State.epochal_portLeft ?_ p
  exact State.epochal_port hs p fun _ => ⟨rfl, rfl, rfl, rfl⟩

theorem State.epochal_beginAttempt (hs : s.epochal) (p g) : (s.beginAttempt p g).epochal :=
  State.epochal_port hs p fun _ => ⟨rfl, rfl, rfl, rfl⟩

theorem State.epochal_enterUp (hs : s.epochal) (p n) : (s.enterUp p n).epochal := by
  have hport : (s.modPort p fun x => { x.stopTimers.clearDue with
    link := .up, nextSeq := n, silenceTimer := some s.policy.silence, stability := 0 }).epochal :=
    State.epochal_port hs p fun _ => ⟨rfl, rfl, rfl, rfl⟩
  exact State.epochal_of_parts hport rfl

theorem State.epochal_enterLost (hs : s.epochal) (p c) : (s.enterLost p c).epochal := by
  have hraised : s.raiseTile.epochal := State.epochal_of_parts hs rfl
  have hleft := State.epochal_portLeft (State.epochal_flushPort (State.epochal_modPort (p := p) hraised
    (Port.sheds_of_emptied (f := fun x => { x.stopTimers.clearDue with
      link := .lost, lostCause := some c, offer := none, lockCount := 0, locked := false, window := [], queue := [] })
      fun _ => ⟨rfl, rfl, rfl, rfl⟩)) p) p
  unfold State.enterLost
  simp only
  split
  · exact hleft
  · exact State.epochal_lostTile hleft _

theorem State.epochal_goOff (hs : s.epochal) (p) : (s.goOff p).epochal := by
  refine State.epochal_portLeft (State.epochal_flushPort ?_ p) p
  exact State.epochal_modPort hs (Port.sheds_of_emptied fun _ => ⟨rfl, rfl, rfl, rfl⟩)

theorem State.epochal_countFailure (hs : s.epochal) (p) : (s.countFailure p).epochal := by
  have hcounted (n) : (s.modPort p fun x => { x with attempts := n }).epochal := State.epochal_port hs p fun _ => ⟨rfl, rfl, rfl, rfl⟩
  unfold State.countFailure
  simp only
  split
  · exact State.epochal_beginAttempt (hcounted _) p _
  · split
    · exact State.epochal_enterLost (hcounted _) p _
    · refine State.epochal_beginAttempt (State.epochal_noteDownshift ?_ p) p _
      exact State.epochal_port (hcounted _) p fun _ => ⟨rfl, rfl, rfl, rfl⟩

theorem State.epochal_exhaust (hs : s.epochal) (p) : (s.exhaust p).epochal := by
  refine State.epochal_noteRetrain (State.epochal_countFailure (State.epochal_exitUp ?_ p) p) p
  exact State.epochal_port hs p fun _ => ⟨rfl, rfl, rfl, rfl⟩

theorem State.epochal_restartOffer (hs : s.epochal) (p) : (s.restartOffer p).epochal := by
  refine State.epochal_enterListen ?_ p
  exact State.epochal_port hs p fun _ => ⟨rfl, rfl, rfl, rfl⟩

theorem Tile.within_tableReport {m n : Epoch} {x : Tile} (h : x.within m n) (a f) : (x.tableReport a f).within m n := by
  unfold Tile.tableReport
  repeat' split
  all_goals exact h

theorem State.epochal_takeReports (hs : s.epochal) (p o) : (s.takeReports p o).epochal := by
  unfold State.takeReports
  split
  · exact hs
  · next t _ =>
    have hstored := State.epochal_storeReport hs t o.front o.back o.count.toNat
    exact State.epochal_modTile hstored (Tile.within_tableReport (hstored.tiles t) _ _)

theorem State.epochal_endExchange (hs : s.epochal) (p o) : (s.endExchange p o).epochal := by
  unfold State.endExchange
  split
  · refine State.epochal_beginAttempt (State.epochal_takeReports ?_ p o) p _
    refine State.epochal_modPort hs fun n bar x hx => ?_
    exact Port.within_congr (Port.within_dropQueued hx Reliable.isDiscard) rfl rfl rfl rfl
  · exact State.epochal_enterLost hs p _
  · exact State.epochal_enterLost hs p _

theorem State.epochal_checkExchange (hs : s.epochal) (p) : (s.checkExchange p).epochal := by
  unfold State.checkExchange
  split
  · exact hs
  · split
    · exact State.epochal_endExchange hs p _
    · exact hs

theorem State.epochal_takeOffer (hs : s.epochal) (p o) : (s.takeOffer p o).epochal := by
  unfold State.takeOffer
  split
  · exact State.epochal_restartOffer hs p
  · have hlooked (c : Prop) [Decidable c] {u v : State} (hu : u.epochal) (hv : v.epochal) : (if c then u else v).epochal := by
      split
      · exact hu
      · exact hv
    refine hlooked _ (State.epochal_restartOffer hs p) (State.epochal_checkExchange ?_ p)
    exact State.epochal_port hs p fun _ => ⟨rfl, rfl, rfl, rfl⟩

theorem State.epochal_leaveForRequest (hs : s.epochal) (p) : (s.leaveForRequest p).epochal := by
  unfold State.leaveForRequest
  split
  · exact State.epochal_exitUp hs p
  · exact State.epochal_of_parts hs rfl
  all_goals exact hs

theorem State.epochal_restartPort (hs : s.epochal) (p) : (s.restartPort p).epochal := by
  have hoff (f : Port → Port)
      (h : ∀ x : Port, (f x).queue = x.queue ∧ (f x).window = x.window ∧ (f x).bufA = x.bufA ∧ (f x).bufB = x.bufB) :
      (((s.leaveForRequest p).goOff p).modPort p f).epochal :=
    State.epochal_port (State.epochal_goOff (State.epochal_leaveForRequest hs p) p) p h
  unfold State.restartPort
  simp only
  split
  · refine State.epochal_enterListen ?_ p
    exact hoff _ fun _ => ⟨rfl, rfl, rfl, rfl⟩
  · exact hoff _ fun _ => ⟨rfl, rfl, rfl, rfl⟩

theorem State.epochal_recoverPort (hs : s.epochal) (p) : (s.recoverPort p).epochal := by
  have hcleared : ((s.leaveForRequest p).modPort p fun x => { x.clearStream with
      tally := 0, attempts := 0, stability := 0, grade := (s.leaveForRequest p).policy.ceiling }).epochal := by
    refine State.epochal_modPort (State.epochal_leaveForRequest hs p) fun n bar x hx => ?_
    exact Port.within_congr (Port.within_clearStream hx) rfl rfl rfl rfl
  unfold State.recoverPort
  simp only
  split
  · exact State.epochal_goOff hcleared p
  · exact State.epochal_enterListen (State.epochal_flushPort hcleared p) p

theorem State.epochal_applyCeiling (hs : s.epochal) (p) : (s.applyCeiling p).epochal := by
  unfold State.applyCeiling
  simp only
  split
  · exact hs
  · split
    · refine State.epochal_beginAttempt ?_ p _
      exact State.epochal_port hs p fun _ => ⟨rfl, rfl, rfl, rfl⟩
    · refine State.epochal_noteRetrain (State.epochal_beginAttempt (State.epochal_exitUp ?_ p) p _) p
      exact State.epochal_port hs p fun _ => ⟨rfl, rfl, rfl, rfl⟩
    all_goals exact hs

theorem State.epochal_fallSilent (hs : s.epochal) (p) : (s.fallSilent p).epochal := by
  have hlost : (s.modPort p fun x => { x with ind := { x.ind with syncLost := true } }).epochal :=
    State.epochal_port hs p fun _ => ⟨rfl, rfl, rfl, rfl⟩
  have hlisten := State.epochal_enterListen (State.epochal_exitUp hlost p) p
  unfold State.fallSilent
  simp only
  split
  · exact hlisten
  · exact State.epochal_blankFront hlisten _

end

end Sys2Proof.Machine

/-! SUPPORT. O58: the epoch order kept by the stream, by what ends picture work, and by what follows a command. -/
namespace Sys2Proof.Machine

/-! ## Acknowledgements -/

theorem BackStore.wholeBelow_afterAck {n : Epoch} {b : BackStore} (hb : b.wholeBelow n) {e : Epoch} (he : e ≤ n) (i k : Nat) :
    (b.afterAck e i k).wholeBelow n := by
  unfold BackStore.afterAck
  split
  · split
    · split
      · exact trivial
      · split
        · exact he
        · exact hb
    · exact hb
  all_goals exact hb

theorem BackStore.wholeBelow_afterDiscard {n : Epoch} {b : BackStore} (hb : b.wholeBelow n) (e : Epoch) :
    (b.afterDiscard e).wholeBelow n := by
  unfold BackStore.afterDiscard
  split
  · exact trivial
  · exact hb

theorem BackStore.wholeBelow_afterFirstSend {n : Epoch} {b : BackStore} (hb : b.wholeBelow n) (e : Epoch) :
    (b.afterFirstSend e).wholeBelow n := by
  cases b with
  | empty => exact trivial
  | loading e' k => exact trivial
  | armed e' => exact hb
  | scheduled e' f => exact hb

theorem BackStore.wholeBelow_afterFlip {n : Epoch} {b : BackStore} (hb : b.wholeBelow n) {e : Epoch} (he : e ≤ n) (f : Word) :
    (b.afterFlip e f).wholeBelow n := by
  unfold BackStore.afterFlip
  split
  · exact he
  · exact hb

section
variable {s : State}

theorem State.epochal_freeBuf (hs : s.epochal) (p b) : (s.modPort p fun x => x.freeBuf b).epochal :=
  State.epochal_modPort hs fun _ _ _ hx => Port.within_freeBuf hx b

theorem State.epochal_ackStripe (hs : s.epochal) (p b) : (s.ackStripe p b).epochal := by
  have hbufs := (hs.ports p).bufs b
  unfold State.ackStripe
  simp only
  split
  · next st hb =>
    rw [hb] at hbufs
    have hacked := State.epochal_back (State.epochal_freeBuf hs p b) st.id.tile
      (BackStore.wholeBelow_afterAck (hs.tiles st.id.tile).2 hbufs st.id.number (s.stripesOf st.id.tile))
    split
    · exact State.epochal_armingRule hacked
    · exact hacked
  all_goals exact hs

theorem State.epochal_ackOwner (hs : s.epochal) (p k) : (s.ackOwner p k).epochal := by
  unfold State.ackOwner
  split
  · exact State.epochal_ackStripe hs p _
  · exact hs
  · split
    · exact hs
    · next x _ t _ =>
      exact State.epochal_modTile (f := fun r => { r with back := r.back.afterDiscard x }) hs
        ⟨(hs.tiles t).1, BackStore.wholeBelow_afterDiscard (hs.tiles t).2 x⟩
  · split
    · exact hs
    · exact State.epochal_ackTable hs _ _ _
  · exact hs

theorem State.epochal_ackOldest (hs : s.epochal) (p) (k : Nat) : (s.ackOldest p k).epochal := by
  induction k generalizing s with
  | zero => exact hs
  | succ k ih =>
    unfold State.ackOldest
    split
    · exact hs
    · refine ih (State.epochal_ackOwner (State.epochal_modPort hs fun n bar x hx => ?_) p _)
      exact ⟨hx.queue, fun o ho => hx.window o (List.mem_of_mem_tail ho), hx.bufs⟩

theorem State.epochal_acknowledge (hs : s.epochal) (p k) : (s.acknowledge p k).epochal := by
  unfold State.acknowledge
  split
  · exact hs
  · exact State.epochal_port (State.epochal_ackOldest hs p k) p fun _ => ⟨rfl, rfl, rfl, rfl⟩

theorem State.epochal_takeAck (hs : s.epochal) (p n) : (s.takeAck p n).epochal := by
  unfold State.takeAck
  split
  · exact hs
  · exact State.epochal_acknowledge hs p _

/-! ## Resend runs and holds -/

theorem State.epochal_beginRun (hs : s.epochal) (p i) : (s.beginRun p i).epochal := by
  unfold State.beginRun
  simp only
  split
  · exact State.epochal_exhaust hs p
  · exact State.epochal_port hs p fun _ => ⟨rfl, rfl, rfl, rfl⟩

theorem State.epochal_runFromOldest (hs : s.epochal) (p) : (s.runFromOldest p).epochal := by
  unfold State.runFromOldest
  split
  · exact hs
  · refine State.epochal_beginRun ?_ p 0
    exact State.epochal_port hs p fun _ => ⟨rfl, rfl, rfl, rfl⟩

theorem State.epochal_takeNak (hs : s.epochal) (p e) : (s.takeNak p e).epochal := by
  have hcounted : (s.modPort p fun x => { x with ctr := { x.ctr with naks := satInc x.ctr.naks } }).epochal :=
    State.epochal_port hs p fun _ => ⟨rfl, rfl, rfl, rfl⟩
  unfold State.takeNak
  simp only
  split
  · exact State.epochal_acknowledge hcounted p _
  · split
    · exact hcounted
    · split
      · exact hcounted
      · have hanswered (i) : (((s.modPort p fun x => { x with ctr := { x.ctr with naks := satInc x.ctr.naks } }).acknowledge p i).modPort p
            fun x => { x with answered := some e }).epochal :=
          State.epochal_port (State.epochal_acknowledge hcounted p i) p fun _ => ⟨rfl, rfl, rfl, rfl⟩
        split
        · exact State.epochal_port (hanswered _) p fun _ => ⟨rfl, rfl, rfl, rfl⟩
        · exact State.epochal_beginRun (hanswered _) p 0

theorem State.epochal_ackExpired (hs : s.epochal) (p) : (s.ackExpired p).epochal := by
  refine State.epochal_runFromOldest ?_ p
  exact State.epochal_port hs p fun _ => ⟨rfl, rfl, rfl, rfl⟩

theorem State.epochal_endHold (hs : s.epochal) (p) : (s.endHold p).epochal := by
  have hended : (s.modPort p fun x => { x with holdTimer := none, recorded := false }).epochal :=
    State.epochal_port hs p fun _ => ⟨rfl, rfl, rfl, rfl⟩
  unfold State.endHold
  simp only
  split
  · exact State.epochal_runFromOldest hended p
  · exact hended

theorem State.epochal_takeHold (hs : s.epochal) (p q) : (s.takeHold p q).epochal := by
  have hseen : (s.modPort p fun x => { x with ind := { x.ind with holdSeen := true } }).epochal :=
    State.epochal_port hs p fun _ => ⟨rfl, rfl, rfl, rfl⟩
  unfold State.takeHold
  simp only
  split
  · split
    · exact State.epochal_endHold hseen p
    · exact hseen
  · exact State.epochal_port hseen p fun _ => ⟨rfl, rfl, rfl, rfl⟩

/-! ## What ends picture work -/

theorem State.epochal_composer (hs : s.epochal) {c : Composer} (hactive : c.active = s.composer.active)
    (hshown : c.shown = s.composer.shown) : ({ s with composer := c } : State).epochal :=
  ⟨hs.presented, hs.tiles, hs.ports, hs.run, hactive ▸ hs.active, hshown ▸ hs.shown⟩

theorem State.epochal_jobs (hs : s.epochal) (js) : ({ s with jobs := js } : State).epochal :=
  ⟨hs.presented, hs.tiles, hs.ports, hs.run, hs.active, hs.shown⟩

theorem State.epochal_dropQueuedAll (hs : s.epochal) (f) : (s.dropQueuedAll f).epochal :=
  State.forEach_invariant (P := State.epochal) _ (fun p _ hu => State.epochal_dropQueued hu p f) _ _ hs

theorem State.epochal_stopVerify (hs : s.epochal) (f) : (s.stopVerify f).epochal := by
  have hdropped := State.epochal_dropQueuedAll hs f
  unfold State.stopVerify
  simp only
  split
  · next p b _ =>
    exact State.epochal_composer (State.epochal_freeBuf hdropped p b) rfl rfl
  all_goals exact hdropped

theorem State.epochal_abortFrameJob (hs : s.epochal) : s.abortFrameJob.epochal := by
  unfold State.abortFrameJob
  split
  · exact hs
  · exact State.epochal_completeFrame hs _
  · exact State.epochal_completeFrame hs _
  · exact State.epochal_completeFrame hs _
  · exact State.epochal_endSceneEarly hs _
  · exact State.epochal_completeFrame hs _
  · exact State.epochal_completeFrame (State.epochal_dropQueuedAll hs _) _
  · exact State.epochal_completeFrame (State.epochal_stopVerify hs _) _
  · exact State.epochal_completeFrame (State.epochal_stopVerify hs _) _

theorem State.epochal_stopComposer (hs : s.epochal) : s.stopComposer.epochal := by
  unfold State.stopComposer
  refine State.epochal_composer ?_ rfl rfl
  exact State.forEach_invariant (P := State.epochal) _
    (fun p _ hu => State.epochal_modPort hu fun _ _ _ => Port.within_freeUnsent) _ _ hs

theorem State.epochal_stopWork (hs : s.epochal) (o) : (s.stopWork o).epochal :=
  State.epochal_stopComposer (State.epochal_jobs (State.epochal_abortFrameJob hs) _)

theorem State.epochal_halt (hs : s.epochal) (c) : (s.halt c).epochal := by
  unfold State.halt
  split
  · exact State.epochal_of_parts hs rfl
  · refine State.epochal_stopWork ?_ _
    exact State.epochal_of_parts hs rfl

/-! ## Transmissions -/

/-- The head of the queue joins the window (R101). -/
theorem Port.within_sendFirst {n : Epoch} {bar : Option Epoch} {x : Port} (h : x.within n bar) (timeout) {kept : Reliable}
    (hkept : kept.allowed n bar) (k) : (x.sendFirst timeout kept k).within n bar := by
  have hframe : (x.sendFirst timeout kept k).queue = x.queue.tail ∧
      (x.sendFirst timeout kept k).window = x.window ++ [{ number := x.nextSeq, packet := kept, retries := 0 }] ∧
      (x.sendFirst timeout kept k).bufA = x.bufA ∧ (x.sendFirst timeout kept k).bufB = x.bufB := by
    unfold Port.sendFirst Port.armAckTimer
    split <;> exact ⟨rfl, rfl, rfl, rfl⟩
  obtain ⟨hqueue, hwindow, hbufA, hbufB⟩ := hframe
  have hsent : ({ x with
      queue := x.queue.tail, window := x.window ++ [{ number := x.nextSeq, packet := kept, retries := 0 }] } : Port).within n bar := by
    refine ⟨fun j hj => h.queue j (List.mem_of_mem_tail hj), fun o ho => ?_, h.bufs⟩
    rcases List.mem_append.mp ho with ho | ho
    · exact h.window o ho
    · obtain rfl := List.mem_singleton.mp ho
      exact hkept
  exact Port.within_congr hsent hqueue hwindow hbufA hbufB

theorem Port.within_tailQueue {n : Epoch} {bar : Option Epoch} {x : Port} (h : x.within n bar) :
    ({ x with queue := x.queue.tail } : Port).within n bar :=
  ⟨fun j hj => h.queue j (List.mem_of_mem_tail hj), h.window, h.bufs⟩

theorem State.epochal_sendFirst (hs : s.epochal) (p timeout) {kept : Reliable} (k : Port → Packet)
    (h : kept.allowed s.epochCounter s.frameRun.barred) : (s.modPort p fun x => x.sendFirst timeout kept (k x)).epochal :=
  State.epochal_setPort hs (Port.within_sendFirst (hs.ports p) timeout h _)

theorem State.epochal_sendStripe (hs : s.epochal) (p b r) : (s.sendStripe p b r).epochal := by
  have hbufs := (hs.ports p).bufs b
  unfold State.sendStripe
  simp only
  split
  · next st hb =>
    rw [hb] at hbufs
    split
    · have hsent (k) : (s.setPort p (((s.port p).setBuf b (.sent st)).sendFirst s.policy.ack (.stripe b) k)).epochal :=
        State.epochal_setPort hs (Port.within_sendFirst (Port.within_setBuf (hs.ports p) b (v := .sent st) hbufs) _ (Reliable.allowed_stripe _ _ b) k)
      refine State.epochal_modTile (hsent _) ⟨(hs.tiles _).1, BackStore.wholeBelow_afterFirstSend (hs.tiles _).2 _⟩
    · exact State.epochal_halt hs _
  all_goals exact State.epochal_setPort hs (Port.within_tailQueue (hs.ports p))

/-- The flip set before ARMED is empty, so that a FLIP that goes out changes no scene there (R59). -/
theorem SceneRec.not_delivering_of_flipSet {n : Epoch} {r : SceneRec} (h : r.within n) {t : TileId}
    (ht : Mask.has r.flipSet t = true) : r.stage.delivering? = false := by
  cases hd : r.stage.delivering? with
  | false => rfl
  | true =>
    obtain ⟨hset, -⟩ := h.2 hd
    simp [hset, Mask.has] at ht

theorem State.epochal_sendFlip (hs : s.epochal) (p) {e f fresh} (h : (Reliable.flip e f fresh).allowed s.epochCounter s.frameRun.barred) :
    (s.sendFlip p e f fresh).epochal := by
  unfold State.sendFlip
  split
  · exact State.epochal_setPort hs (Port.within_tailQueue (hs.ports p))
  · next t _ =>
    simp only
    refine State.epochal_settleScene (State.epochal_modScene (State.epochal_modTile (State.epochal_sendFirst hs p s.policy.ack
      (kept := .flip e _ false) (fun x => .flip x.nextSeq e _) h) ?_) fun r _ hr => ?_)
    · exact ⟨(hs.tiles t).1, BackStore.wholeBelow_afterFlip (hs.tiles t).2 h.1 _⟩
    · split
      · next hset =>
        have hd := SceneRec.not_delivering_of_flipSet hr hset.2
        exact ⟨rfl, ⟨hr.1, fun k => absurd (hd.symm.trans k) (by decide)⟩, id⟩
      · exact ⟨rfl, hr, id⟩

theorem State.epochal_sendHead (hs : s.epochal) (p) {k : Reliable} (hk : k.allowed s.epochCounter s.frameRun.barred) (r) :
    (s.sendHead p k r).epochal := by
  unfold State.sendHead
  split
  · exact State.epochal_sendStripe hs p _ r
  · exact State.epochal_sendFlip hs p hk
  · exact State.epochal_sendFirst hs p _ (fun x => .discard x.nextSeq _) hk
  · exact State.epochal_sendFirst hs p _ (fun x => .table x.nextSeq _) hk
  · exact State.epochal_sendFirst hs p _ (fun x => .check x.nextSeq _) hk

theorem Port.sheds_countResend (n : Byte) : Port.Sheds fun x => x.countResend n := fun m bar x hx => by
  refine ⟨hx.queue, fun o ho => ?_, hx.bufs⟩
  obtain ⟨o', ho', rfl⟩ := List.mem_map.mp ho
  split <;> exact hx.window o' ho'

theorem State.epochal_begin (hs : s.epochal) (p k) : (s.modPort p fun x => x.begin k).epochal :=
  State.epochal_port hs p fun _ => ⟨rfl, rfl, rfl, rfl⟩

theorem State.epochal_sendResend (hs : s.epochal) (p n rest r) : (s.sendResend p n rest r).epochal := by
  have hrun : (s.modPort p fun x => { x with run := rest }).epochal := State.epochal_port hs p fun _ => ⟨rfl, rfl, rfl, rfl⟩
  unfold State.sendResend
  simp only
  split
  · exact hrun
  · split
    · exact State.epochal_halt hrun _
    · have hcounted (k) := State.epochal_noteResent (State.epochal_modPort (p := p) hrun (Port.sheds_countResend n)) p k
      split
      · exact State.epochal_enterLost (State.epochal_exitUp (hcounted _) p) p _
      · split
        · exact hcounted _
        · exact State.epochal_begin (hcounted _) p _

theorem State.epochal_transmitUp (hs : s.epochal) (p r) : (s.transmitUp p r).epochal := by
  unfold State.transmitUp
  simp only
  split
  · exact State.epochal_goOff (State.epochal_exitUp (State.epochal_begin hs p _) p) p
  · split
    · exact State.epochal_port hs p fun _ => ⟨rfl, rfl, rfl, rfl⟩
    · exact State.epochal_sendResend hs p _ _ r
    · split
      · next hqueue _ => exact State.epochal_sendHead hs p ((hs.ports p).queue _ (hqueue ▸ List.mem_cons_self)) r
      · split
        · exact State.epochal_port hs p fun _ => ⟨rfl, rfl, rfl, rfl⟩
        · exact hs
      · exact hs

theorem State.epochal_transmit (hs : s.epochal) (p r) : (s.transmit p r).epochal := by
  unfold State.transmit
  simp only
  split
  · exact hs
  · exact hs
  · exact hs
  · split
    · exact State.epochal_port hs p fun _ => ⟨rfl, rfl, rfl, rfl⟩
    · exact hs
  · split
    · exact hs
    · refine State.epochal_checkExchange ?_ p
      exact State.epochal_port hs p fun _ => ⟨rfl, rfl, rfl, rfl⟩
  · exact State.epochal_begin hs p _
  · exact State.epochal_transmitUp hs p r

/-! ## TESTs -/

theorem State.epochal_countEcho (hs : s.epochal) (p k) : (s.countEcho p k).epochal := by
  have hcounted (k : LinkTest) : (s.modPort p fun x => { x with test := some k }).epochal :=
    State.epochal_port hs p fun _ => ⟨rfl, rfl, rfl, rfl⟩
  unfold State.countEcho
  simp only
  split
  · exact hcounted _
  · exact State.epochal_endTestWith (hcounted _) p _ _

theorem State.epochal_takeEcho (hs : s.epochal) (p n f d) : (s.takeEcho p n f d).epochal := by
  unfold State.takeEcho
  split
  · exact hs
  · split
    · split
      · exact State.epochal_countEcho hs p _
      · split <;> exact State.epochal_countEcho hs p _
    · exact hs

theorem State.epochal_echoExpired (hs : s.epochal) (p) : (s.echoExpired p).epochal := by
  unfold State.echoExpired
  split
  · exact hs
  · split
    · exact State.epochal_countEcho hs p _
    · exact hs

theorem State.epochal_takeResult (hs : s.epochal) (p g b) : (s.takeResult p g b).epochal := by
  unfold State.takeResult
  split
  · exact hs
  · split
    · exact State.epochal_endTestWith hs p _ _
    · exact hs

theorem State.epochal_resultExpired (hs : s.epochal) (p) : (s.resultExpired p).epochal := by
  unfold State.resultExpired
  split
  · exact hs
  · split
    · exact State.epochal_endTestWith hs p _ _
    · exact hs

/-! ## Grants -/

theorem State.epochal_composing (hs : s.epochal) (p b) {id : StripeId} (h : id.epoch ≤ s.epochCounter) :
    (s.modPort p fun x => x.setBuf b (.composing id)).epochal :=
  State.epochal_setPort hs (Port.within_setBuf (hs.ports p) b h)

/-- A scene that begins to deliver was before ARMED already. -/
theorem State.epochal_startDelivering (hs : s.epochal) {r : SceneRec} (h : ∀ r', s.frameRun = .scene r' → r'.stage = r.stage) :
    (s.startDelivering r).epochal := by
  unfold State.startDelivering
  split
  · next hstage =>
    refine State.epochal_writeProgress (State.epochal_modScene hs fun r' hr' hwithin => ?_) _
    have hd : r'.stage.delivering? = true := by rw [h r' hr', hstage]; rfl
    exact ⟨rfl, ⟨hwithin.1, fun _ => hwithin.2 hd⟩, fun _ => hd⟩
  · exact hs

theorem State.epochal_grant (hs : s.epochal) {r : SceneRec} (hr : s.frameRun = .scene r) (i t p b) : (s.grant r i t p b).epochal := by
  have hepoch : r.epoch ≤ s.epochCounter := by
    have hrun := hs.run
    rw [hr] at hrun
    exact hrun.1
  have hset := State.epochal_setCursor (State.epochal_composing (id := s.stripeId t r.epoch (r.cursor t)) hs p b hepoch) t (r.cursor t + 1)
  unfold State.grant
  simp only
  refine State.epochal_startDelivering ?_ fun r' hr' => ?_
  · exact State.epochal_composer hset rfl rfl
  · dsimp only at hr'
    unfold State.setCursor State.modScene at hr'
    have hport (f) : (s.modPort p f).frameRun = .scene r := hr
    rw [hport] at hr'
    exact FrameRun.scene.inj hr' ▸ rfl

theorem State.epochal_grantVerify (hs : s.epochal) {r : VerifyRec} (hr : s.frameRun = .verify r) : (s.grantVerify r).epochal := by
  have hepoch : r.epoch ≤ s.epochCounter := by
    have hrun := hs.run
    rw [hr] at hrun
    unfold VerifyRec.epoch
    split
    · next tab htab => exact hrun tab htab
    · exact Nat.zero_le _
  unfold State.grantVerify
  split
  · exact hs
  · split
    · exact hs
    · split
      · exact hs
      · next rep _ _ _ p _ _ b _ =>
        have hset := State.epochal_composing (id := s.stripeId rep.tile r.epoch r.stripe) hs p b hepoch
        exact State.epochal_composer hset rfl rfl

theorem State.epochal_arbitrate (hs : s.epochal) : s.arbitrate.epochal := by
  unfold State.arbitrate
  split
  · split
    · next r hr =>
      split
      · exact hs
      · exact State.epochal_grant hs hr _ _ _ _
    · next r hr => exact State.epochal_grantVerify hs hr
    all_goals exact hs
  · exact hs

/-! ## What follows a command -/

@[simp] theorem State.epochParts_hand (s : State) (a r) : (s.hand a r).epochParts = s.epochParts := rfl

@[simp] theorem State.epochParts_completeControl (s : State) (r) : (s.completeControl r).epochParts = s.epochParts := by
  unfold State.completeControl
  split <;> rfl

@[simp] theorem State.epochParts_completePower (s : State) (b a) : (s.completePower b a).epochParts = s.epochParts := by
  unfold State.completePower
  split
  · exact s.epochParts_completeControl _
  all_goals rfl

theorem State.epochal_sleepPorts (hs : s.epochal) : s.sleepPorts.epochal := by
  unfold State.sleepPorts
  split
  · refine State.forEach_invariant (P := State.epochal) _ (fun p u hu => ?_) _ _ hs
    unfold State.sleepPort
    split
    · exact State.epochal_goOff hu p
    · exact State.epochal_goOff hu p
    · exact State.epochal_goOff hu p
    all_goals exact hu
  · exact hs

theorem State.epochal_pump (hs : s.epochal) : s.pump.epochal :=
  State.forEach_invariant (P := State.epochal) _ (fun p _ hu => State.epochal_transmit hu p none) _ _ hs

theorem State.epochal_settleSleep (hs : s.epochal) : s.settleSleep.epochal := by
  unfold State.settleSleep
  split
  · refine State.epochal_of_parts ?_ (State.epochParts_completePower _ _ _)
    exact State.epochal_of_parts hs rfl
  · exact hs

theorem State.epochal_settle (hs : s.epochal) : s.settle.epochal :=
  State.epochal_settleSleep (State.epochal_arbitrate (State.epochal_sleepPorts
    (State.epochal_pump (State.epochal_pump (State.epochal_sleepPorts hs)))))

end

theorem leads_epochal_settled {t : State} (h : t.epochal) : Leads State.epochal t.settled := Leads.next (State.epochal_settle h)

end Sys2Proof.Machine

/-! SUPPORT. O58: the epoch order kept by every command and by the passing of time. -/
namespace Sys2Proof.Machine

/-! ## The intake and the Job List -/

section
variable {s : State}

theorem State.epochal_lookFrame (hs : s.epochal) : s.lookFrame.epochal := by
  unfold State.lookFrame
  split
  · exact hs
  · split
    next js started _ =>
    refine State.epochal_frameRun (State.epochal_jobs hs js) ?_ ?_
    · split
      · exact trivial
      · exact hs.run
    · split
      · exact Or.inl rfl
      · exact Or.inr rfl

theorem State.epochParts_lookControl (s : State) : s.lookControl.epochParts = s.epochParts := by
  unfold State.lookControl
  split <;> rfl

theorem State.epochal_lookControl (hs : s.epochal) : s.lookControl.epochal :=
  State.epochal_of_parts hs s.epochParts_lookControl

theorem State.epochal_look (hs : s.epochal) (l) : (s.look l).epochal := by
  unfold State.look
  split
  · exact hs
  · exact State.epochal_lookFrame hs
  · exact State.epochal_lookControl hs

end

@[simp] theorem State.epochParts_passStep (s : State) : s.passStep.epochParts = s.epochParts := by
  unfold State.passStep
  repeat' split
  all_goals rfl
@[simp] theorem State.epochParts_beginPass (s : State) : s.beginPass.epochParts = s.epochParts := State.epochParts_passStep _
@[simp] theorem State.epochParts_endPass (s : State) : s.endPass.epochParts = s.epochParts := by
  unfold State.endPass
  repeat' split
  · rfl
  · simp
  · rfl
@[simp] theorem State.epochParts_followLink (s : State) (own a) : (s.followLink own a).epochParts = s.epochParts := by
  unfold State.followLink State.examine
  repeat' split
  · simp
  all_goals rfl
@[simp] theorem State.epochParts_passVoid (s : State) (a) : (s.passVoid a).epochParts = s.epochParts := by
  rw [State.passVoid_eq]
  split
  · rfl
  · exact State.epochParts_passStep _
@[simp] theorem State.epochParts_takeAttention (s : State) : s.takeAttention.epochParts = s.epochParts := by
  unfold State.takeAttention
  split
  · rfl
  · simp
  · rfl
  · rfl
  · split
    · simp
    · rfl
@[simp] theorem State.epochParts_leftList (s : State) (n) : (s.leftList n).epochParts = s.epochParts := by
  unfold State.leftList
  split
  · simp
  · rfl
@[simp] theorem State.epochParts_makeWrite (s : State) (a w) : (s.makeWrite a w).epochParts = s.epochParts := by cases w <;> rfl
@[simp] theorem State.epochParts_writeResult (s : State) (j r ws) : (s.writeResult j r ws).epochParts = s.epochParts := by
  unfold State.writeResult
  simp only
  have hblock (u : State) (w : CompletionWrite) :
      (u.blockWrite j.addr (j.completionBytes r w).1 (j.completionBytes r w).2).epochParts = u.epochParts := rfl
  rw [foldl_keeps State.epochParts _ hblock, foldl_keeps State.epochParts _ (fun s w => s.epochParts_makeWrite _ _)]

@[simp] theorem State.epochParts_writeControl (s : State) (e x) : (s.writeControl e x).epochParts = s.epochParts := by
  have hstart (u : State) : u.startUp.epochParts = u.epochParts := by
    unfold State.startUp
    simp only
    repeat' split
    all_goals rfl
  have henable (u : State) : u.enable.epochParts = u.epochParts := by
    unfold State.enable
    simp only
    split
    · rw [State.epochParts_beginPass, hstart]
      rfl
    all_goals
      rw [hstart]
      rfl
  have hdisable (u : State) : u.disable.epochParts = u.epochParts := by
    unfold State.disable
    simp only
    split <;> rfl
  unfold State.writeControl
  simp only
  split
  · rw [henable]
    rfl
  · split
    · rw [hdisable]
      rfl
    · rfl

@[simp] theorem State.epochParts_writeScanPeriod (s : State) (w) : (s.writeScanPeriod w).epochParts = s.epochParts := by
  unfold State.writeScanPeriod
  simp only
  split <;> rfl

@[simp] theorem State.epochParts_scanExpired (s : State) : s.scanExpired.epochParts = s.epochParts := by
  unfold State.scanExpired
  split
  · simp
  · rfl

@[simp] theorem State.epochParts_writeChainBase (s : State) (w) : (s.writeChainBase w).epochParts = s.epochParts := by
  unfold State.writeChainBase
  split <;> rfl

section
variable {s : State}

theorem State.epochal_passBusError (hs : s.epochal) : s.passBusError.epochal := by
  have hhalt := State.epochal_halt hs .busFault
  unfold State.passBusError
  simp only
  split <;> exact State.epochal_of_parts hhalt rfl

theorem State.epochal_leaveList (hs : s.epochal) (j) : (s.leaveList j).epochal := by
  unfold State.leaveList
  exact State.epochal_look (State.epochal_of_parts (State.epochal_jobs hs _) (State.epochParts_leftList _ _)) _

theorem State.epochal_linkRead (hs : s.epochal) (link) : (s.linkRead link).epochal := by
  unfold State.linkRead
  repeat' split
  · exact State.epochal_of_parts hs (State.epochParts_followLink _ _ _)
  · exact State.epochal_passBusError hs
  · exact State.epochal_of_parts hs (State.epochParts_followLink _ _ _)
  all_goals exact hs

theorem State.epochal_exchanged (hs : s.epochal) (w) : (s.exchanged w).epochal := by
  unfold State.exchanged
  split
  · exact hs
  · exact hs
  · exact hs
  · split
    · exact State.epochal_passBusError hs
    · simp only
      repeat' split
      · exact State.epochal_of_parts hs rfl
      · exact State.epochal_of_parts hs (State.epochParts_passVoid _ _)
      · exact State.epochal_of_parts hs rfl

theorem State.epochal_takeBlock (hs : s.epochal) (data) : (s.takeBlock data).epochal := by
  unfold State.takeBlock
  split
  · exact hs
  · exact hs
  · exact hs
  · split
    · exact State.epochal_passBusError hs
    · refine State.epochal_of_parts (State.epochal_look (State.epochal_jobs ?_ _) _) (State.epochParts_passStep _)
      exact State.epochal_of_parts hs rfl

theorem State.epochal_progressEnds (hs : s.epochal) (a ok) : (s.progressEnds a ok).epochal := by
  have hwritten (f) : (s.modJob a f).epochal := State.epochal_of_parts hs rfl
  unfold State.progressEnds
  split
  · exact hs
  · split
    · exact hs
    · simp only
      split
      · exact State.epochal_of_parts (hwritten _) (State.epochParts_makeWrite _ _ _)
      · exact State.epochal_halt (hwritten _) _

theorem State.epochal_complete (hs : s.epochal) (a) : (s.complete a).epochal := by
  have hwritten (j r ws) : (s.writeResult j r ws).epochal := State.epochal_of_parts hs (State.epochParts_writeResult _ _ _ _)
  unfold State.complete
  split
  · exact hs
  · split
    · exact hs
    · simp only
      refine State.epochal_leaveList ?_ _
      split
      · exact State.epochal_of_parts (hwritten _ _ _) rfl
      · exact hwritten _ _ _

theorem State.epochal_completionFails (hs : s.epochal) (a w) : (s.completionFails a w).epochal := by
  unfold State.completionFails
  split
  · exact hs
  · split
    · exact hs
    · exact State.epochal_leaveList (State.epochal_halt (State.epochal_of_parts hs (State.epochParts_writeResult _ _ _ _)) _) _

end

/-! ## LAYERS_READ: a new epoch -/

theorem Reliable.allowed_new {n : Epoch} {bar : Option Epoch} {k : Reliable} (h : k.allowed n bar) {m : Epoch} (hm : n < m) :
    k.allowed m (some m) := by
  cases k with
  | flip e f fresh =>
    have he : e ≤ n := h.1
    refine ⟨BitVec.le_trans he (BitVec.le_of_lt hm), fun x hx => ?_⟩
    obtain rfl := Option.some.inj hx
    have hne : e ≠ m := by
      rintro rfl
      exact absurd hm (BitVec.not_lt.mpr he)
    simp [Reliable.isFlipOf, hne]
  | _ => exact ⟨trivial, fun _ _ => rfl⟩

theorem Buffer.below_mono {n m : Epoch} {b : Buffer} (h : b.below n) (hm : n ≤ m) : b.below m := by
  cases b with
  | free => exact trivial
  | _ => exact BitVec.le_trans h hm

theorem BackStore.wholeBelow_mono {n m : Epoch} {b : BackStore} (h : b.wholeBelow n) (hm : n ≤ m) : b.wholeBelow m := by
  cases b with
  | armed e => exact BitVec.le_trans h hm
  | scheduled e f => exact BitVec.le_trans h hm
  | _ => exact trivial

section
variable {s : State}

/-- The scene of a new epoch, before anything of it is delivered (R22, R23). -/
theorem State.epochal_newEpoch (hs : s.epochal) {m : Epoch} (hm : s.epochCounter < m) {c : Composer} (hactive : tableBelow m c.active)
    (hshown : c.shown = s.composer.shown) (j participants) :
    ({ s with epochCounter := m, composer := c, frameRun := .scene (newScene j m participants) } : State).epochal := by
  have hle := BitVec.le_of_lt hm
  refine ⟨BitVec.le_trans hs.presented hle, fun t => ?_, fun p => ?_, ?_, hactive, fun tab htab => ?_⟩
  · exact ⟨(hs.tiles t).1, BackStore.wholeBelow_mono (hs.tiles t).2 hle⟩
  · have hp := hs.ports p
    exact ⟨fun k hk => Reliable.allowed_new (hp.queue k hk) hm, fun o ho => Reliable.allowed_new (hp.window o ho) hm,
      fun b => Buffer.below_mono (hp.bufs b) hle⟩
  · exact ⟨BitVec.le_refl _, fun _ => ⟨rfl, rfl, rfl, rfl⟩⟩
  · exact BitVec.le_trans (hs.shown tab (hshown ▸ htab)) hle

theorem Epoch.lt_succ {e : Epoch} (h : e ≠ BitVec.allOnes 64) : e < e + 1 := by
  have hne : e.toNat ≠ 2 ^ 64 - 1 := fun k => h (BitVec.eq_of_toNat_eq (by rw [k]; decide +kernel))
  bv_omega

theorem State.epochal_layersRead (hs : s.epochal) (h : s.epochCounter ≠ BitVec.allOnes 64) (j ls m) :
    (s.layersRead j ls m).epochal := by
  unfold State.layersRead
  simp only
  refine State.epochal_dropTiles (State.forEach_invariant (P := State.epochal) _ (fun t u hu => ?_) _ _
    (State.epochal_writeProgress (State.epochal_newEpoch hs (Epoch.lt_succ h) ?_ ?_ j m) _)) _ _
  · unfold State.discardOld
    split
    · exact hu
    · exact State.epochal_queueDiscard hu t _
  · intro tab htab
    exact Option.some.inj htab ▸ BitVec.le_refl _
  · rfl

theorem State.epochal_fixParticipants (hs : s.epochal) (j ls) : (s.fixParticipants j ls).epochal := by
  unfold State.fixParticipants
  simp only
  split
  · exact State.epochal_completeFrame hs _
  · split
    · exact State.epochal_completeFrame hs _
    · next h => exact State.epochal_layersRead hs h j ls _

/-! ## Frame jobs -/

theorem leads_epochal_completeFrame (hs : s.epochal) (r) : Leads State.epochal (s.completeFrame r).settled :=
  leads_epochal_settled (State.epochal_completeFrame hs r)

theorem leads_epochal_scene (hs : s.epochal) : Leads State.epochal (execScene s) := by
  unfold execScene
  split
  · exact Leads.next hs
  · split
    · exact leads_epochal_completeFrame hs _
    · split
      · exact leads_epochal_settled (State.epochal_fixParticipants hs _ _)
      · exact Leads.next (State.epochal_run hs (f := .layers []) trivial)

theorem leads_epochal_layerRecordRead (hs : s.epochal) (data) : Leads State.epochal (execLayerRecordRead data s) := by
  unfold execLayerRecordRead
  split
  · split
    · exact leads_epochal_completeFrame hs _
    · simp only
      split
      · exact Leads.next (State.epochal_run hs (f := .layers _) trivial)
      · unfold State.checkLayers
        split
        · exact leads_epochal_completeFrame hs _
        · exact leads_epochal_settled (State.epochal_fixParticipants hs _ _)
  · exact Leads.next hs

theorem leads_epochal_tileMap (hs : s.epochal) : Leads State.epochal (execTileMap s) := by
  unfold execTileMap
  split
  · exact Leads.next hs
  · split
    · exact leads_epochal_completeFrame hs _
    · exact Leads.next (State.epochal_run hs (f := .entries _) trivial)

theorem State.epochal_replaceMap (hs : s.epochal) (es) : (s.replaceMap es).epochal := by
  unfold State.replaceMap
  simp only
  refine State.epochal_completeFrame (State.forEach_invariant (P := State.epochal) _ (fun p u hu => ?_) _ _ ?_) _
  · exact State.epochal_restartPort hu p
  · refine State.epochal_composer ?_ rfl rfl
    refine State.forEach_invariant (P := State.epochal) _ (fun t u hu => ?_) _ _ hs
    split
    · exact State.epochal_modTile (f := fun _ => changedTile (mapGeometry es t)) hu ⟨Or.inl rfl, trivial⟩
    · exact hu

theorem leads_epochal_tileMapEntryRead (hs : s.epochal) (data) : Leads State.epochal (execTileMapEntryRead data s) := by
  unfold execTileMapEntryRead
  split
  · split
    · exact leads_epochal_completeFrame hs _
    · simp only
      split
      · exact Leads.next (State.epochal_run hs (f := .entries _) trivial)
      · unfold State.checkEntries
        split
        · exact leads_epochal_completeFrame hs _
        · exact leads_epochal_settled (State.epochal_replaceMap hs _)
  · exact Leads.next hs

theorem leads_epochal_lutLoad (hs : s.epochal) : Leads State.epochal (execLutLoad s) := by
  unfold execLutLoad
  split
  · exact Leads.next hs
  · simp only
    split
    · exact leads_epochal_completeFrame hs _
    · have hserial : ({ s with serial := s.serial + 1 } : State).epochal := State.epochal_of_parts hs rfl
      exact Leads.next (State.epochal_run hserial (f := .values _) trivial)

theorem leads_epochal_valuesWordRead (hs : s.epochal) (ws) : Leads State.epochal (execValuesWordRead ws s) := by
  unfold execValuesWordRead
  split
  · split
    · exact leads_epochal_completeFrame hs _
    · simp only
      split
      · exact Leads.next (State.epochal_run hs (f := .values _) trivial)
      · exact leads_epochal_settled (State.epochal_queueTables hs _)
  all_goals exact Leads.next hs

theorem leads_epochal_verify (hs : s.epochal) : Leads State.epochal (execVerify s) := by
  unfold execVerify
  split
  · exact Leads.next hs
  · simp only
    split
    · exact leads_epochal_completeFrame hs _
    · exact leads_epochal_settled (State.epochal_queueChecks hs _ _)

theorem VerifyRec.table_compare (r : VerifyRec) (crc) : (r.compare crc).table = r.table := by
  unfold VerifyRec.compare
  split
  · rfl
  · simp only
    split <;> rfl

theorem leads_epochal_verifyRecomposition (hs : s.epochal) (image) : Leads State.epochal (execVerifyRecomposition image s) := by
  unfold execVerifyRecomposition
  split
  · next p b r _ hr =>
    split
    · exact Leads.next hs
    · have hrun := hs.run
      rw [State.verify_eq_some.mp hr] at hrun
      refine leads_epochal_settled (State.epochal_settleVerify ?_)
      have hfreed : ({ s.modPort p (fun x => x.freeBuf b) with
          compositions := s.compositions + 1, composer := { s.composer with engine := .free } } : State).epochal :=
        State.epochal_composer (s := { s.modPort p (fun x => x.freeBuf b) with compositions := s.compositions + 1 })
          (State.epochal_of_parts (State.epochal_freeBuf hs p b) rfl) rfl rfl
      refine State.epochal_frameRun hfreed (f := .verify (r.compare _)) ?_ (Or.inl rfl)
      show tableBelow s.epochCounter (r.compare _).table
      rw [VerifyRec.table_compare]
      exact hrun
  · exact Leads.next hs

theorem leads_epochal_verifySurfaceBusError (hs : s.epochal) (layer) : Leads State.epochal (execVerifySurfaceBusError layer s) := by
  unfold execVerifySurfaceBusError
  split
  · split
    · exact Leads.next hs
    · split
      · exact leads_epochal_completeFrame (State.epochal_stopVerify hs _) _
      · exact Leads.next hs
  · exact Leads.next hs

theorem leads_epochal_mismatchListWrite (hs : s.epochal) (ok) : Leads State.epochal (execMismatchListWrite ok s) := by
  have hbus (a bytes) : (s.busWrite a bytes).epochal := State.epochal_of_parts hs rfl
  unfold execMismatchListWrite
  split
  · split
    · split
      · exact leads_epochal_completeFrame hs _
      · simp only
        split
        · exact Leads.next (State.epochal_run (hbus _ _) (f := .listing _ _) trivial)
        · exact leads_epochal_completeFrame (hbus _ _) _
    · exact leads_epochal_completeFrame hs _
  all_goals exact Leads.next hs

/-- A composed stripe names the epoch of the stripe it was composed for (R39). -/
theorem State.epochal_storeStripe (hs : s.epochal) (t p b) {st : Stripe} (h : st.id.epoch ≤ s.epochCounter) :
    (s.storeStripe t p b st).epochal := by
  unfold State.storeStripe
  simp only
  refine State.epochal_composer ?_ rfl rfl
  refine State.epochal_modScene_beside (State.epochal_setPort hs ?_) fun _ => ⟨rfl, rfl, rfl, rfl, rfl, rfl⟩
  exact Port.within_enqueue (Port.within_setBuf (hs.ports p) b (v := .ready st) h) (Reliable.allowed_stripe _ _ b)

theorem leads_epochal_compositionEnd (hs : s.epochal) (image stored) : Leads State.epochal (execCompositionEnd image stored s) := by
  unfold execCompositionEnd
  split
  · next t p b tab _ _ =>
    have hbufs := (hs.ports p).bufs b
    split
    · next id hb =>
      rw [hb] at hbufs
      have hcounted : ({ s with compositions := s.compositions + 1 } : State).epochal := State.epochal_of_parts hs rfl
      exact leads_epochal_settled (State.epochal_storeStripe hcounted t p b hbufs)
    all_goals exact Leads.next hs
  · exact Leads.next hs

theorem leads_epochal_surfaceBusError (hs : s.epochal) (layer) : Leads State.epochal (execSurfaceBusError layer s) := by
  unfold execSurfaceBusError
  split
  · split
    · split
      · exact leads_epochal_settled (State.epochal_endSceneWith hs _ _)
      · exact Leads.next hs
    all_goals exact Leads.next hs
  · exact Leads.next hs

/-! ## Frame starts -/

theorem State.epochal_ref (hs : s.epochal) (r) : ({ s with ref := r } : State).epochal := State.epochal_of_parts hs rfl

theorem State.epochal_issueFrame (hs : s.epochal) : s.issueFrame.epochal := by
  have hcount {u : State} (hu : u.epochal) : u.countDeadline.epochal := by
    unfold State.countDeadline
    split
    · exact hu
    · split
      · split
        · exact State.epochal_expireDeadline hu
        · exact State.epochal_modScene_beside hu fun _ => ⟨rfl, rfl, rfl, rfl, rfl, rfl⟩
      · exact hu
  unfold State.issueFrame
  simp only
  refine State.epochal_checkLimits (hcount (State.forEach_invariant (P := State.epochal) _ (fun p u hu => ?_) _ _
    (State.epochal_ref hs _)))
  refine State.epochal_port hu p fun x => ?_
  unfold Port.takeFrame
  split <;> exact ⟨rfl, rfl, rfl, rfl⟩

theorem State.epochParts_endSwitch (s : State) (o) : (s.endSwitch o).epochParts = s.epochParts := by
  have hlock (c : Prop) [Decidable c] (u : State) (r : Reference) (a x) :
      ((if c then { u with ref := r } else u).hand a x).epochParts = u.epochParts := by
    split <;> rfl
  unfold State.endSwitch
  simp only
  split
  · rfl
  · split
    · rfl
    · exact hlock _ _ _ _ _

theorem State.epochal_endSwitch (hs : s.epochal) (o) : (s.endSwitch o).epochal := State.epochal_of_parts hs (s.epochParts_endSwitch o)

theorem State.epochal_raiseReference (hs : s.epochal) : s.raiseReference.epochal := State.epochal_of_parts hs rfl

theorem State.epochal_lockPulse (hs : s.epochal) : s.lockPulse.epochal :=
  State.epochal_endSwitch (State.epochal_ref (State.epochal_issueFrame (State.epochal_ref hs _)) _) _

theorem State.epochal_enterInternal (hs : s.epochal) : s.enterInternal.epochal := State.epochal_ref hs _

theorem State.epochal_takePulse (hs : s.epochal) : s.takePulse.epochal := by
  have hissued := State.epochal_issueFrame hs
  unfold State.takePulse
  split
  · exact hs
  · split
    · unfold State.switchPulse
      simp only
      split
      · exact State.epochal_lockPulse hs
      · exact State.epochal_ref hs _
    · exact hs
  · split
    · simp only
      split
      · exact State.epochal_endSwitch (State.epochal_enterInternal hissued) _
      · exact State.epochal_ref hissued _
    · exact hs
  · exact State.epochal_raiseReference (State.epochal_ref hissued _)

theorem State.epochal_fallBack (hs : s.epochal) : s.fallBack.epochal :=
  State.epochal_raiseReference (State.epochal_enterInternal (State.epochal_issueFrame hs))

theorem State.epochal_failSafeEnabled (hs : s.epochal) : s.failSafeEnabled.epochal := by
  unfold State.failSafeEnabled
  split
  · exact State.epochal_fallBack hs
  · exact hs

theorem State.epochal_declareLoss (hs : s.epochal) : s.declareLoss.epochal := by
  have hended := State.epochal_endSwitch (State.epochal_enterInternal (State.epochal_issueFrame hs)) .ok
  unfold State.declareLoss
  split
  · split
    · simp only
      split
      · exact State.epochal_raiseReference hended
      · exact hended
    · split
      · exact State.epochal_fallBack hs
      · exact State.epochal_raiseReference (State.epochal_ref hs _)
  · exact hs

theorem State.epochal_beginInternal (hs : s.epochal) (a) : (s.beginInternal a).epochal := by
  have hbegun := State.epochal_ref hs { s.ref with switch := some { target := .intern, job := some a } }
  unfold State.beginInternal
  simp only
  split
  · exact State.epochal_endSwitch (State.epochal_raiseReference (State.epochal_enterInternal (State.epochal_issueFrame hbegun))) _
  · exact hbegun

/-! ## Control jobs -/

theorem State.epochal_completeControl (hs : s.epochal) (r) : (s.completeControl r).epochal :=
  State.epochal_of_parts hs (s.epochParts_completeControl r)

theorem State.epochal_controlRun (hs : s.epochal) (c) : ({ s with controlRun := c } : State).epochal :=
  ⟨hs.presented, hs.tiles, hs.ports, hs.run, hs.active, hs.shown⟩

theorem State.epochal_completePower (hs : s.epochal) (b a) : (s.completePower b a).epochal :=
  State.epochal_of_parts hs (s.epochParts_completePower b a)

theorem leads_epochal_completeControl (hs : s.epochal) (r) : Leads State.epochal (s.completeControl r).settled :=
  leads_epochal_settled (State.epochal_completeControl hs r)

theorem leads_epochal_policy (hs : s.epochal) : Leads State.epochal (execPolicy s) := by
  unfold execPolicy
  split
  · exact Leads.next hs
  · split
    · exact leads_epochal_completeControl hs _
    · unfold State.writePolicy
      refine leads_epochal_completeControl (State.epochal_failSafeEnabled ?_) _
      refine State.forEach_invariant (P := State.epochal) _ (fun p _ hu => State.epochal_applyCeiling hu p) _ _ ?_
      exact State.epochal_of_parts hs rfl

theorem leads_epochal_sense (hs : s.epochal) : Leads State.epochal (execSense s) := by
  unfold execSense
  split
  · exact Leads.next hs
  · next j _ =>
    split
    · exact leads_epochal_completeControl hs _
    · have hclear : (s.senseClears (j.bit 20 0) (j.bit 20 1)).epochal :=
        State.forEach_invariant (P := State.epochal) _
          (fun p u hu => State.epochal_port (f := fun x => x.senseClear _ _) hu p fun _ => ⟨rfl, rfl, rfl, rfl⟩) _ _ hs
      exact Leads.next (State.epochal_controlRun hclear _)

theorem leads_epochal_senseRecordWrite (hs : s.epochal) (ok) : Leads State.epochal (execSenseRecordWrite ok s) := by
  have hbus (a bytes) : (s.busWrite a bytes).epochal := State.epochal_of_parts hs rfl
  unfold execSenseRecordWrite
  split
  · split
    · exact Leads.next hs
    · split
      · simp only
        split
        · exact leads_epochal_completeControl (hbus _ _) _
        · exact Leads.next (State.epochal_controlRun (hbus _ _) _)
      · exact leads_epochal_completeControl hs _
  · exact Leads.next hs

theorem leads_epochal_recover (hs : s.epochal) : Leads State.epochal (execRecover s) := by
  unfold execRecover
  split
  · exact Leads.next hs
  · simp only
    split
    · exact leads_epochal_completeControl hs _
    · refine leads_epochal_completeControl (State.forEach_invariant (P := State.epochal) _ (fun t u hu => ?_) _ _ hs) _
      unfold State.recoverTile
      split
      · exact hu
      · exact State.epochal_recoverPort hu _

theorem State.epochal_takeFlight (hs : s.epochal) (j) : (s.takeFlight j).epochal := State.epochal_of_parts hs rfl

theorem leads_epochal_linkTest (hs : s.epochal) : Leads State.epochal (execLinkTest s) := by
  unfold execLinkTest
  split
  · exact Leads.next hs
  · split
    · exact leads_epochal_completeControl hs _
    · repeat' split
      · exact leads_epochal_completeControl hs _
      · exact leads_epochal_completeControl hs _
      · exact leads_epochal_completeControl hs _
      · refine leads_epochal_settled (State.epochal_lookControl ?_)
        exact State.epochal_port (State.epochal_takeFlight hs _) _ fun _ => ⟨rfl, rfl, rfl, rfl⟩

theorem State.epochal_withdrawTarget (hs : s.epochal) (j) : (s.withdrawTarget j).1.epochal := by
  unfold State.withdrawTarget
  split
  · exact hs
  · exact hs
  · exact State.epochal_of_parts hs rfl
  · split
    · split
      · exact hs
      · exact State.epochal_endSceneEarly hs _
    all_goals exact State.epochal_completeFrame hs _
  · exact hs
  · exact State.epochal_endSwitch hs _
  · dsimp only
    refine State.forEach_invariant (P := State.epochal) _ (fun p u hu => ?_) _ _ hs
    split
    · exact hu
    · split
      · exact State.epochal_endTestWith hu p _ _
      · exact hu

theorem leads_epochal_withdraw (hs : s.epochal) : Leads State.epochal (execWithdraw s) := by
  unfold execWithdraw
  split
  · exact Leads.next hs
  · simp only
    split
    · exact leads_epochal_completeControl hs _
    · split
      · exact leads_epochal_completeControl hs _
      · split
        · exact leads_epochal_completeControl hs _
        · exact leads_epochal_completeControl (State.epochal_withdrawTarget hs _) _

theorem State.epochal_completeReference (hs : s.epochal) (o n l) : (s.completeReference o n l).epochal := by
  unfold State.completeReference
  simp only
  split
  · exact State.epochal_completeControl (State.epochal_ref hs _) _
  · exact State.epochal_completeControl hs _

theorem State.epochal_requestSource (hs : s.epochal) (j src) : (s.requestSource j src).epochal := by
  have hended := State.epochal_endSwitch hs .superseded
  unfold State.requestSource
  simp only
  split
  · exact State.epochal_completeReference hended _ _ _
  · split
    · exact State.epochal_lookControl (State.epochal_ref (State.epochal_takeFlight hended j) _)
    · exact State.epochal_lookControl (State.epochal_beginInternal (State.epochal_takeFlight hended j) _)

theorem leads_epochal_reference (hs : s.epochal) : Leads State.epochal (execReference s) := by
  have hperiod (n : Nat) : (s.applyPeriod n).epochal := by
    unfold State.applyPeriod
    split
    · exact hs
    · exact State.epochal_ref hs _
  unfold execReference
  split
  · exact Leads.next hs
  · simp only
    split
    · exact leads_epochal_completeControl hs _
    · split
      · exact leads_epochal_completeControl hs _
      · split
        · exact leads_epochal_completeControl hs _
        · split
          · exact leads_epochal_completeControl hs _
          · split
            · exact leads_epochal_settled (State.epochal_completeReference (hperiod _) _ _ _)
            · exact leads_epochal_settled (State.epochal_requestSource (hperiod _) _ _)

theorem State.epochal_stopReference (hs : s.epochal) : s.stopReference.epochal := by
  have hraised : (if s.ref.state = .stalled then s.raiseReference else s).epochal := by
    split
    · exact State.epochal_raiseReference hs
    · exact hs
  exact State.epochal_ref (State.epochal_endSwitch (State.epochal_ref hraised _) .aborted) _

theorem State.epochal_power (hs : s.epochal) (p) : ({ s with power := p } : State).epochal := State.epochal_of_parts hs rfl

theorem State.epochal_enterSleep (hs : s.epochal) : s.enterSleep.epochal := by
  unfold State.enterSleep
  simp only
  refine State.epochal_stopReference (State.epochal_sleepPorts (State.forEach_invariant (P := State.epochal) _ (fun p u hu => ?_) _ _
    (State.epochal_power (State.epochal_stopWork hs _) _)))
  refine State.epochal_port (State.epochal_endTestWith hu p _ _) p fun x => ?_
  unfold Port.dueNotice
  split <;> exact ⟨rfl, rfl, rfl, rfl⟩

theorem State.epochal_changePower (hs : s.epochal) (target) : (s.changePower target).epochal := by
  unfold State.changePower
  split
  · exact hs
  · exact State.epochal_completePower (State.epochal_power (State.epochal_stopWork hs _) _) _ _
  · exact State.epochal_enterSleep hs
  · exact State.epochal_lookFrame (State.epochal_completePower (State.epochal_power hs _) _ _)
  · exact hs
  · exact State.epochal_enterSleep hs
  · exact State.epochal_power hs _
  · exact State.epochal_power hs _
  · exact hs

theorem leads_epochal_power (hs : s.epochal) : Leads State.epochal (execPower s) := by
  unfold execPower
  split
  · exact Leads.next hs
  · split
    · exact leads_epochal_completeControl hs _
    · split
      · exact leads_epochal_completeControl hs _
      · refine leads_epochal_settled (State.epochal_changePower ?_ _)
        exact State.epochal_of_parts hs rfl

theorem State.epochal_endSettle (hs : s.epochal) : s.endSettle.epochal := by
  unfold State.endSettle
  split
  · exact hs
  · exact hs
  · refine State.epochal_lookControl (State.epochal_completePower ?_ _ _)
    refine State.forEach_invariant (P := State.epochal) _ (fun p u hu => ?_) _ _ (State.epochal_of_parts hs rfl)
    split
    · exact State.epochal_enterListen hu p
    · exact hu

/-! ## Soft reset and time -/

theorem State.epochal_clearAll (hs : s.epochal) : s.clearAll.epochal := by
  have htile (t : TileId) : s.clearAll.tile t = { s.tile t with back := .empty } := by simp [State.clearAll, State.tile]
  refine ⟨hs.presented, fun t => ?_, fun p => ?_, trivial, nofun, nofun⟩
  · rw [htile]
    exact ⟨(hs.tiles t).1, trivial⟩
  · rw [State.port_clearAll]
    exact ⟨nofun, nofun, fun b => by cases b <;> exact trivial⟩

theorem State.epochal_softReset (hs : s.epochal) : s.softReset.epochal := by
  have hpower {u : State} (hu : u.epochal) : u.resetPower.epochal := by
    unfold State.resetPower
    split
    · exact State.epochal_power hu _
    · split
      · exact State.epochal_of_parts hu rfl
      · exact State.epochal_power hu _
  refine State.epochal_failSafeEnabled ?_
  unfold State.listenMapped
  have hreset := hpower (State.epochal_clearAll hs)
  split
  · exact hreset
  · refine State.forEach_invariant (P := State.epochal) _ (fun p u hu => ?_) _ _ hreset
    split
    · exact State.epochal_enterListen hu p
    · exact hu

theorem State.epochal_tick (hs : s.epochal) : s.tick.epochal := by
  refine ⟨hs.presented, hs.tiles, fun p => ?_, hs.run, hs.active, hs.shown⟩
  have hport : s.tick.port p = (s.port p).tick := s.port_map Port.tick p
  rw [hport]
  exact Port.within_congr (hs.ports p) rfl rfl rfl rfl

/-! ## Links -/

theorem leads_epochal_takeInUp (hs : s.epochal) (p : PortId) (f : State → State) (h : ∀ u : State, u.epochal → (f u).epochal) :
    Leads State.epochal (s.takeInUp p f) := by
  unfold State.takeInUp
  split
  · refine leads_epochal_settled (h _ ?_)
    exact State.epochal_port hs p fun _ => ⟨rfl, rfl, rfl, rfl⟩
  all_goals exact Leads.next hs

theorem State.epochal_atTileOf (hs : s.epochal) (p) (f : TileId → State → State) (h : ∀ t (u : State), u.epochal → (f t u).epochal) :
    (s.atTileOf p f).epochal := by
  unfold State.atTileOf
  split
  · exact hs
  · exact h _ _ hs

theorem leads_epochal_receiveCheckFailure (hs : s.epochal) (p why) : Leads State.epochal (execReceiveCheckFailure p why s) := by
  unfold execReceiveCheckFailure
  split
  · exact Leads.next hs
  · exact Leads.next hs
  all_goals exact Leads.next (State.epochal_port hs p fun _ => ⟨rfl, rfl, rfl, rfl⟩)

theorem leads_epochal_beaconReceived (hs : s.epochal) (p) : Leads State.epochal (execBeaconReceived p s) := by
  unfold execBeaconReceived
  split
  · exact leads_epochal_settled (State.epochal_enterOffer hs p)
  · exact leads_epochal_settled (State.epochal_enterOffer hs p)
  all_goals exact Leads.next hs

theorem leads_epochal_offerReceived (hs : s.epochal) (p o) : Leads State.epochal (execOfferReceived p o s) := by
  unfold execOfferReceived
  split
  · exact leads_epochal_settled (State.epochal_takeOffer (State.epochal_enterOffer hs p) p o)
  · exact leads_epochal_settled (State.epochal_takeOffer (State.epochal_enterOffer hs p) p o)
  · exact leads_epochal_settled (State.epochal_takeOffer hs p o)
  all_goals exact Leads.next hs

theorem State.epochal_takeTrain (hs : s.epochal) (p g l n) : (s.takeTrain p g l n).epochal := by
  have hcounted (x : Port) (hq : x.queue = (s.port p).queue) (hw : x.window = (s.port p).window) (ha : x.bufA = (s.port p).bufA)
      (hb : x.bufB = (s.port p).bufB) : (s.setPort p x).epochal :=
    State.epochal_setPort hs (Port.within_congr (hs.ports p) hq hw ha hb)
  unfold State.takeTrain
  simp only
  split
  · refine State.epochal_enterUp ?_ p n
    exact hcounted _ rfl rfl rfl rfl
  · exact hcounted _ rfl rfl rfl rfl

theorem leads_epochal_trainReceived (hs : s.epochal) (p g l n) : Leads State.epochal (execTrainReceived p g l n s) := by
  unfold execTrainReceived
  split
  · exact leads_epochal_settled (State.epochal_takeTrain hs p g l n)
  all_goals exact Leads.next hs

theorem leads_epochal_transmitterFree (hs : s.epochal) (p r) : Leads State.epochal (execTransmitterFree p r s) := by
  unfold execTransmitterFree
  split
  · exact Leads.next hs
  · refine leads_epochal_settled (State.epochal_transmit ?_ p r)
    exact State.epochal_port hs p fun _ => ⟨rfl, rfl, rfl, rfl⟩

theorem leads_epochal_tallySaturation (hs : s.epochal) (p) : Leads State.epochal (execTallySaturation p s) := by
  unfold execTallySaturation
  simp only
  split
  · exact Leads.next hs
  · split
    · exact leads_epochal_settled (State.epochal_sendResend hs p _ _ _)
    · exact Leads.next hs

/-- A command with one effect, under a condition. -/
theorem leads_epochal_ite {t : State} (hs : s.epochal) {c : Prop} [Decidable c] (h : t.epochal) :
    Leads State.epochal (if c then t.settled else .next s) := by
  split
  · exact leads_epochal_settled h
  · exact Leads.next hs

theorem State.epochal_powerOn (s : State) : s.powerOn.epochal := by
  have hreset : State.reset.epochal :=
    (State.epochal_iff _).mp ⟨resetMeetsTheInvariants.2.2.2.2.2.1, resetMeetsTheInvariants.2.2.2.2.2.2.1⟩
  exact State.epochal_of_parts hreset rfl

theorem State.pastArming_of_limitNext (hs : s.epochal) {t : TileId} (h : s.limitNext t = true) : s.pastArming := by
  unfold State.limitNext at h
  split at h
  · exact nomatch h
  · next r hr =>
    simp only [Bool.and_eq_true] at h
    obtain ⟨⟨-, hawaits⟩, -⟩ := h
    exact State.pastArming_of_awaits hs hr hawaits

end

/-! ## Every command -/

theorem exec_epochal (c : Instr) (s : State) (hs : s.epochal) : Leads State.epochal (exec c s) := by
  have hparts {t : State} (h : t.epochParts = s.epochParts) : Leads State.epochal (.next t) :=
    Leads.next (State.epochal_of_parts hs h)
  cases c with
  | powerOnReset => exact Leads.next s.epochal_powerOn
  | softReset => exact leads_epochal_settled (State.epochal_softReset hs)
  | enableSet external => exact hparts (s.epochParts_writeControl true external)
  | enableClear external => exact hparts (s.epochParts_writeControl false external)
  | startExternalWrite external => exact hparts rfl
  | attention => exact hparts s.epochParts_takeAttention
  | causeRead => exact hparts rfl
  | causeEnableWrite w => exact hparts rfl
  | scanPeriodWrite w => exact hparts (s.epochParts_writeScanPeriod w)
  | registerWrite r w =>
    simp only [exec, execRegisterWrite]
    split
    · exact hparts (s.epochParts_writeChainBase w)
    · exact hparts rfl
    · exact hparts rfl
    · exact hparts rfl
    · split
      · exact leads_epochal_settled (State.epochal_softReset hs)
      · exact hparts (s.epochParts_writeControl _ _)
    · exact hparts s.epochParts_takeAttention
    · exact hparts rfl
    · exact hparts (s.epochParts_writeScanPeriod w)
  | scanTimerExpiry => exact hparts s.epochParts_scanExpired
  | linkRead link => exact leads_epochal_settled (State.epochal_linkRead hs link)
  | lockedExchange w => exact leads_epochal_settled (State.epochal_exchanged hs w)
  | takingRead data => exact leads_epochal_settled (State.epochal_takeBlock hs data)
  | voidLimit =>
    simp only [exec, execVoidLimit]
    split
    · split
      · exact hparts (s.epochParts_passVoid _)
      · exact Leads.next hs
    all_goals exact Leads.next hs
  | progressWrite a ok => exact leads_epochal_settled (State.epochal_progressEnds hs a ok)
  | jobCompletion a => exact leads_epochal_settled (State.epochal_complete hs a)
  | completionBusError a w => exact leads_epochal_settled (State.epochal_completionFails hs a w)
  | scene => exact leads_epochal_scene hs
  | layerRecordRead data => exact leads_epochal_layerRecordRead hs data
  | tileMap => exact leads_epochal_tileMap hs
  | tileMapEntryRead data => exact leads_epochal_tileMapEntryRead hs data
  | lutLoad => exact leads_epochal_lutLoad hs
  | valuesWordRead ws => exact leads_epochal_valuesWordRead hs ws
  | verify => exact leads_epochal_verify hs
  | verifyRecomposition image => exact leads_epochal_verifyRecomposition hs image
  | mismatchListWrite ok => exact leads_epochal_mismatchListWrite hs ok
  | policy => exact leads_epochal_policy hs
  | sense => exact leads_epochal_sense hs
  | senseRecordWrite ok => exact leads_epochal_senseRecordWrite hs ok
  | recover => exact leads_epochal_recover hs
  | linkTest => exact leads_epochal_linkTest hs
  | withdraw => exact leads_epochal_withdraw hs
  | reference => exact leads_epochal_reference hs
  | power => exact leads_epochal_power hs
  | wakeSettleEnd => exact leads_epochal_settled (State.epochal_endSettle hs)
  | compositionEnd image stored => exact leads_epochal_compositionEnd hs image stored
  | surfaceBusError layer => exact leads_epochal_surfaceBusError hs layer
  | transmitterFree p r => exact leads_epochal_transmitterFree hs p r
  | receiveCheckFailure p why => exact leads_epochal_receiveCheckFailure hs p why
  | beaconReceived p => exact leads_epochal_beaconReceived hs p
  | offerReceived p o => exact leads_epochal_offerReceived hs p o
  | trainReceived p g l e => exact leads_epochal_trainReceived hs p g l e
  | ackReceived p n =>
    simp only [exec, execAckReceived]
    exact leads_epochal_takeInUp hs p _ fun u hu => State.epochal_takeAck hu p n
  | nakReceived p n =>
    simp only [exec, execNakReceived]
    exact leads_epochal_takeInUp hs p _ fun u hu => State.epochal_takeNak hu p n
  | holdReceived p q =>
    simp only [exec, execHoldReceived]
    exact leads_epochal_takeInUp hs p _ fun u hu => State.epochal_takeHold hu p q
  | statusReceived p st =>
    simp only [exec, execStatusReceived]
    exact leads_epochal_takeInUp hs p _ fun u hu => State.epochal_atTileOf hu p _ fun t u hu => State.epochal_flipReport hu t _ _
  | flippedReceived p e n =>
    simp only [exec, execFlippedReceived]
    exact leads_epochal_takeInUp hs p _ fun u hu => State.epochal_atTileOf hu p _ fun t u hu => State.epochal_flipReport hu t _ _
  | testEchoReceived p n f d =>
    simp only [exec, execTestEchoReceived]
    exact leads_epochal_takeInUp hs p _ fun u hu => State.epochal_takeEcho hu p n f d
  | testResultReceived p g b =>
    simp only [exec, execTestResultReceived]
    exact leads_epochal_takeInUp hs p _ fun u hu => State.epochal_takeResult hu p g b
  | checkReportReceived p e l =>
    simp only [exec, execCheckReportReceived]
    exact leads_epochal_takeInUp hs p _ fun u hu => State.epochal_atTileOf hu p _ fun t u hu => State.epochal_takeReport hu t _ _
  | beaconTimer p =>
    simp only [exec, execBeaconTimer]
    exact leads_epochal_ite hs (State.epochal_port hs p fun _ => ⟨rfl, rfl, rfl, rfl⟩)
  | offerRepeatTimer p =>
    simp only [exec, execOfferRepeatTimer]
    exact leads_epochal_ite hs (State.epochal_port hs p fun _ => ⟨rfl, rfl, rfl, rfl⟩)
  | offerTimeout p =>
    simp only [exec, execOfferTimeout]
    exact leads_epochal_ite hs (State.epochal_restartOffer hs p)
  | trainTimeout p =>
    simp only [exec, execTrainTimeout]
    exact leads_epochal_ite hs (State.epochal_countFailure hs p)
  | silence p =>
    simp only [exec, execSilence]
    exact leads_epochal_ite hs (State.epochal_fallSilent hs p)
  | ackTimeout p =>
    simp only [exec, execAckTimeout]
    exact leads_epochal_ite hs (State.epochal_ackExpired hs p)
  | retryExhaustion p =>
    simp only [exec, execRetryExhaustion]
    exact leads_epochal_ite hs (State.epochal_exhaust hs p)
  | tallySaturation p => exact leads_epochal_tallySaturation hs p
  | holdExpiry p =>
    simp only [exec, execHoldExpiry]
    exact leads_epochal_ite hs (State.epochal_endHold hs p)
  | echoTimeout p => exact leads_epochal_settled (State.epochal_echoExpired hs p)
  | resultTimeout p => exact leads_epochal_settled (State.epochal_resultExpired hs p)
  | stabilityReached p =>
    simp only [exec, execStabilityReached]
    split
    · exact Leads.next (State.epochal_port hs p fun _ => ⟨rfl, rfl, rfl, rfl⟩)
    · exact Leads.next hs
  | frameStart =>
    refine leads_epochal_settled ?_
    unfold State.timedFrame
    split
    · exact State.epochal_ref (State.epochal_issueFrame hs) _
    · exact hs
  | syncInPulse => exact leads_epochal_settled (State.epochal_takePulse hs)
  | lossDeclared => exact leads_epochal_settled (State.epochal_declareLoss hs)
  | lockPulse =>
    simp only [exec, execLockPulse]
    exact leads_epochal_ite hs (State.epochal_lockPulse hs)
  | lockTimerExpiry =>
    refine leads_epochal_settled ?_
    unfold State.lockExpired
    split
    · exact State.epochal_endSwitch hs _
    · exact hs
  | deadlineExpiry =>
    simp only [exec, execDeadlineExpiry]
    exact leads_epochal_ite hs (State.epochal_expireDeadline hs)
  | confirmationLimit i =>
    simp only [exec, execConfirmationLimit]
    split
    · exact Leads.next hs
    · split
      · next h => exact leads_epochal_settled (State.epochal_settleScene (State.epochal_passLimit hs (State.pastArming_of_limitNext hs h) _ i))
      · exact Leads.next hs
  | verifySurfaceBusError layer => exact leads_epochal_verifySurfaceBusError hs layer

/-- Settles O58: the parts that name epochs stay in order, and before ARMED nothing of a scene is flipped, under every command and
a tick. -/
theorem epochOrderIsKept : Obligations.EpochOrderIsKept := by
  have hkept : Kept State.epochal := kept_of_exec (fun _ _ hs => State.epochal_of_parts hs rfl) exec_epochal fun _ => State.epochal_tick
  exact fun s t hs hstep => (State.epochal_iff t).mpr (hkept s t ((State.epochal_iff s).mp hs) hstep)

end Sys2Proof.Machine

/-! SUPPORT. O6: a loop over the ports that changes each by itself, frame starts without a scene, and the soft reset. -/
namespace Sys2Proof.Machine

/-! ## Every port changed by itself -/

/-- Every port `p` changed by `g p`. -/
def State.mapPorts (s : State) (g : PortId → Port → Port) : State := { s with ports := Vector.ofFn fun p => g p (s.port p) }

@[simp] theorem State.port_mapPorts (s : State) (g) (p : PortId) : (s.mapPorts g).port p = g p (s.port p) := by
  simp [State.mapPorts, State.port]

/-- The state with these ports. -/
def State.withPorts (ps : Vector Port 12) (s : State) : State := { s with ports := ps }

theorem State.ext_ports {s t : State} (hports : ∀ p : PortId, s.port p = t.port p) (hrest : s.withPorts t.ports = t) :
    s = t := by
  have heq : s.ports = t.ports := Vector.ext fun i hi => hports ⟨i, hi⟩
  rw [← hrest, ← heq]
  rfl

theorem mem_allIds (i : Fin 12) : i ∈ allIds := by
  revert i
  decide

theorem nodup_allIds : allIds.Nodup := by decide

/-- A loop over the ports, of which each round changes its own port (R99, R129). -/
theorem State.forEach_modPort (s : State) (g : PortId → Port → Port) :
    s.forEach allIds (fun p u => u.modPort p (g p)) = s.mapPorts g := by
  have hport (ids : List PortId) (hnodup : ids.Nodup) (u : State) (q : PortId) :
      (u.forEach ids fun p v => v.modPort p (g p)).port q = if q ∈ ids then g q (u.port q) else u.port q := by
    induction ids generalizing u with
    | nil => simp [State.forEach]
    | cons p ids ih =>
      obtain ⟨hp, hids⟩ := List.nodup_cons.mp hnodup
      show ((u.modPort p (g p)).forEach ids fun p v => v.modPort p (g p)).port q = _
      rw [ih hids, State.port_modPort]
      by_cases hq : q = p
      · subst hq
        simp [hp]
      · simp [hq, Ne.symm hq]
  refine State.ext_ports (fun q => ?_) ?_
  · rw [hport allIds nodup_allIds, if_pos (mem_allIds q), State.port_mapPorts]
  · exact (State.forEach_keeps (State.withPorts (s.mapPorts g).ports) (fun p u => u.modPort p (g p)) (fun _ _ => rfl) allIds s)

/-- The same where a round is such a change under what the loop keeps. -/
theorem State.forEach_eq_mapPorts {P : State → Prop} {f : PortId → State → State} {g : PortId → Port → Port} {s : State}
    (hround : ∀ p u, P u → f p u = u.modPort p (g p)) (hkept : ∀ p u, P u → P (u.modPort p (g p))) (hs : P s) :
    s.forEach allIds f = s.mapPorts g := by
  have hsame (ids : List PortId) (u : State) (hu : P u) : u.forEach ids f = u.forEach ids fun p v => v.modPort p (g p) := by
    induction ids generalizing u with
    | nil => rfl
    | cons p ids ih =>
      show (f p u).forEach ids f = (u.modPort p (g p)).forEach ids _
      rw [hround p u hu]
      exact ih _ (hkept p u hu)
  rw [hsame allIds s hs, State.forEach_modPort]

/-! ## Ports and frame starts while no frame job runs -/

theorem State.portLeft_of_idle {s : State} (h : s.frameRun = .idle) (p : PortId) : s.portLeft p = s := by
  unfold State.portLeft
  split
  · rfl
  · simp [State.leaveTargets, State.lutSkip, State.verifyMiss, State.lut, State.verify, h]

theorem State.enterListen_of_idle {s : State} (h : s.frameRun = .idle) (p : PortId) :
    s.enterListen p = s.modPort p Port.listening := by
  unfold State.enterListen
  rw [State.portLeft_of_idle]
  · rfl
  · exact h

theorem State.countDeadline_of_no_scene {s : State} (h : s.scene = none) : s.countDeadline = s := by
  simp [State.countDeadline, h]

theorem State.checkLimits_of_no_scene {s : State} (h : s.scene = none) : s.checkLimits = s := by
  simp [State.checkLimits, h]

/-- A frame start without a scene: the frame number, and what the ports take (R129). -/
theorem State.issueFrame_of_no_scene {s : State} (h : s.scene = none) :
    s.issueFrame = ({ s with ref := { s.ref with frameNumber := s.ref.frameNumber + 1, frameLength := s.ref.period } } : State).mapPorts
      fun _ x => x.takeFrame (s.ref.frameNumber + 1) := by
  unfold State.issueFrame
  simp only
  rw [State.forEach_modPort, State.countDeadline_of_no_scene, State.checkLimits_of_no_scene] <;> exact h

theorem Port.takeFrame_of_ne {x : Port} (h : x.link ≠ .up) (n) : x.takeFrame n = x := if_neg h

/-! ## Soft reset -/

/-- Where a soft reset leaves a port that the new map names (`listens`) or not (R96). -/
def Port.afterReset (x : Port) (listens : Bool) : Port := if listens then x.softReset.listening else x.softReset

theorem Port.link_afterReset (x : Port) (listens) : (x.afterReset listens).link = if listens then .listen else .off := by
  cases listens <;> rfl

theorem State.port_of_ports {s t : State} (h : s.ports = t.ports) (p : PortId) : s.port p = t.port p :=
  congrArg (fun ps => ps[p.val]) h

theorem State.tile_clearAll (s : State) (t : TileId) : s.clearAll.tile t = { s.tile t with back := .empty } := by
  simp [State.clearAll, State.tile]

@[simp] theorem State.ports_resetPower (s : State) : s.resetPower.ports = s.ports := by
  unfold State.resetPower
  repeat' split
  all_goals rfl

theorem State.modPort_id (s : State) (p : PortId) : (s.modPort p fun x => x) = s := by
  refine State.ext_ports (fun q => ?_) rfl
  rw [State.port_modPort]
  split
  all_goals rfl

theorem State.portMapped_congr {s t : State} (h : ∀ i : TileId, (s.tile i).geom = (t.tile i).geom) (p : PortId) :
    s.portMapped p = t.portMapped p := by
  have htile : s.tileOfPort p = t.tileOfPort p := by
    unfold State.tileOfPort
    simp only [h]
  unfold State.portMapped State.isMapped
  rw [htile]
  split
  · rfl
  · rw [h]

/-- Outside SLEEP every port of a MAPPED tile goes to LISTEN (R96). -/
theorem State.listenMapped_of_awake {s : State} (hidle : s.frameRun = .idle) (hawake : s.asleep = false) :
    s.listenMapped = s.mapPorts fun p x => if s.portMapped p then x.listening else x := by
  unfold State.listenMapped
  rw [hawake]
  refine State.forEach_eq_mapPorts (P := fun u => u.frameRun = .idle ∧ ∀ p, u.portMapped p = s.portMapped p)
    (fun p u hu => ?_) (fun p u hu => ⟨hu.1, fun q => ?_⟩) ⟨hidle, fun _ => rfl⟩
  · rw [hu.2 p]
    split
    · exact State.enterListen_of_idle hu.1 p
    · next hunmapped => simp only [State.modPort_id]
  · rw [← hu.2 q]
    exact State.portMapped_congr (fun i => by rw [State.tile_modPort]) q

theorem State.portMapped_clearAll (s : State) (p : PortId) : s.clearAll.portMapped p = s.portMapped p :=
  State.portMapped_congr (fun i => by rw [State.tile_clearAll]) p

/-- A stalled reference falls back, and without a scene nothing but the reference, the ports and the cause is concerned (R131). -/
theorem State.fallBack_of_no_scene {s : State} (h : s.scene = none) :
    s.fallBack = { s.mapPorts (fun _ x => x.takeFrame (s.ref.frameNumber + 1)) with
      ref := { s.ref with frameNumber := s.ref.frameNumber + 1, frameLength := s.ref.period, state := .intern, source := .intern,
                          frameTimer := some 0, lossTimer := none }
      causes := { s.causes with reference := true } } := by
  unfold State.fallBack
  rw [State.issueFrame_of_no_scene h]
  rfl

/-- Where no port is UP, a frame start changes no port. -/
theorem State.mapPorts_takeFrame {s : State} (h : ∀ p : PortId, (s.port p).link ≠ .up) (n) :
    s.mapPorts (fun _ x => x.takeFrame n) = s :=
  State.ext_ports (fun p => by rw [State.port_mapPorts, Port.takeFrame_of_ne (h p)]) rfl

theorem State.failSafeEnabled_of_ne {s : State} (h : s.ref.state ≠ .stalled) : s.failSafeEnabled = s :=
  if_neg fun k => h k.1

theorem State.failSafeEnabled_of_stalled {s : State} (hstate : s.ref.state = .stalled) (hsafe : s.policy.failSafe = true)
    (hscene : s.scene = none) (hports : ∀ p : PortId, (s.port p).link ≠ .up) :
    s.failSafeEnabled = { s with
      ref := { s.ref with frameNumber := s.ref.frameNumber + 1, frameLength := s.ref.period, state := .intern, source := .intern,
                          frameTimer := some 0, lossTimer := none }
      causes := { s.causes with reference := true } } := by
  unfold State.failSafeEnabled
  rw [if_pos ⟨hstate, hsafe⟩, State.fallBack_of_no_scene hscene, State.mapPorts_takeFrame hports]

/-- The state after a soft reset outside SLEEP, before a stalled reference falls back. -/
def State.afterReset (s : State) : State :=
  ({ s.clearAll with power := { state := .run, phase := .steady, before := .run, settleTimer := none } } : State).mapPorts
    fun p x => if s.portMapped p then x.listening else x

theorem State.softReset_of_awake {s : State} (hstate : s.power.state ≠ .sleep) (hphase : s.power.phase = .steady) :
    s.softReset = s.afterReset.failSafeEnabled := by
  have hpower : s.clearAll.resetPower =
      { s.clearAll with power := { state := .run, phase := .steady, before := .run, settleTimer := none } } := by
    have hkept : s.clearAll.power = s.power := rfl
    unfold State.resetPower State.settling State.asleep
    simp only [hkept, hphase, beq_iff_eq, hstate, reduceCtorEq, or_self, Bool.false_eq_true, if_false]
  unfold State.softReset
  rw [hpower, State.listenMapped_of_awake rfl rfl]
  refine congrArg (fun g => State.failSafeEnabled (State.mapPorts _ g)) (funext fun p => ?_)
  exact congrArg (fun b : Bool => fun x : Port => if b then x.listening else x) (s.portMapped_clearAll p)

theorem State.port_afterReset (s : State) (p : PortId) : s.afterReset.port p = (s.port p).afterReset (s.portMapped p) := by
  unfold State.afterReset
  rw [State.port_mapPorts]
  have hport : ({ s.clearAll with power := { state := .run, phase := .steady, before := .run, settleTimer := none } } : State).port p =
    (s.port p).softReset := s.port_clearAll p
  rw [hport]
  rfl

/-- In SLEEP a soft reset begins no link: it begins a settle or lets one run on (R143). -/
theorem State.softReset_of_asleep {s u : State} (hpower : s.clearAll.resetPower = u) (hasleep : u.asleep = true) :
    s.softReset = u.failSafeEnabled := by
  unfold State.softReset State.listenMapped
  rw [hpower, if_pos hasleep]

/-- What a stalled reference's fallback leaves after a soft reset: all but the reference and the causes. -/
theorem State.failSafeEnabled_of_reset {s : State} (hpolicy : s.policy = .default) (hscene : s.scene = none)
    (hports : ∀ p : PortId, (s.port p).link ≠ .up) :
    s.failSafeEnabled = s ∨ ∃ r c, s.failSafeEnabled = { s with ref := r, causes := c } := by
  by_cases h : s.ref.state = .stalled
  · exact Or.inr ⟨_, _, State.failSafeEnabled_of_stalled h (by rw [hpolicy]; rfl) hscene hports⟩
  · exact Or.inl (State.failSafeEnabled_of_ne h)

/-- The state after a soft reset in SLEEP, or while SLEEP is entered, and no settle runs (R143). -/
def State.settleAfterReset (s : State) : State :=
  { s.clearAll with
    power := { state := .sleep, phase := .settling .run, before := s.power.before, settleTimer := some Config.settleTime }
    ref := { s.clearAll.ref with state := .stopped, frameTimer := none, lossTimer := none } }

theorem State.resetPower_of_settling {s : State} (h : s.settling = true) :
    s.resetPower = { s with power := { s.power with phase := .settling .run } } := if_pos h

theorem State.resetPower_of_sleep {s : State} (hsettling : s.settling = false) (h : s.asleep = true ∨ s.power.phase = .enteringSleep) :
    s.resetPower = { s with
      power := { state := .sleep, phase := .settling .run, before := s.power.before, settleTimer := some Config.settleTime }
      ref := { s.ref with state := .stopped, frameTimer := none, lossTimer := none } } := by
  unfold State.resetPower
  rw [hsettling]
  exact if_pos h

/-- Settles O6: the soft reset is written out in the three power situations; a stalled reference's fallback then concerns the
reference and its cause alone, since no scene runs and no port is UP. -/
theorem softResetClearsAndKeeps : Obligations.SoftResetClearsAndKeeps := by
  refine ⟨fun s hstate hphase => ⟨s.softReset, rfl, ?awake⟩, fun s hsleep => ⟨s.softReset, rfl, ?asleep⟩⟩
  case awake =>
    have hlink (p : PortId) : (s.afterReset.port p).link ≠ .up := by
      rw [State.port_afterReset, Port.link_afterReset]
      split <;> nofun
    have hports (p : PortId) : (s.afterReset.port p).link = (if s.portMapped p then .listen else .off) ∧
        (s.afterReset.port p).lostCause = none ∧ (s.afterReset.port p).grade = .l4 ∧ (s.afterReset.port p).attempts = 0 ∧
        (s.afterReset.port p).stability = 0 ∧ (s.afterReset.port p).tally = 0 ∧ (s.afterReset.port p).ind = .clear ∧
        (s.afterReset.port p).window = [] ∧ (s.afterReset.port p).queue = [] ∧ (s.afterReset.port p).bufA = .free ∧
        (s.afterReset.port p).bufB = .free ∧ (s.afterReset.port p).ctr = (s.port p).ctr ∧
        (s.afterReset.port p).identity = (s.port p).identity := by
      rw [State.port_afterReset]
      refine ⟨Port.link_afterReset _ _, ?_⟩
      cases s.portMapped p <;> exact ⟨rfl, rfl, rfl, rfl, rfl, rfl, rfl, rfl, rfl, rfl, rfl, rfl⟩
    have htile (i : TileId) : s.afterReset.tile i = { s.tile i with back := .empty } := s.tile_clearAll i
    rw [State.softReset_of_awake hstate hphase]
    by_cases hstalled : s.ref.state = .stalled
    · rw [State.failSafeEnabled_of_stalled (s := s.afterReset) hstalled rfl rfl hlink]
      refine ⟨rfl, rfl, rfl, rfl, rfl, ?_, rfl, rfl, rfl, rfl, htile, hports, rfl, rfl, rfl, rfl, rfl, rfl,
        fun h => absurd hstalled h, fun _ => ⟨rfl, rfl, rfl⟩⟩
      rw [decide_eq_true hstalled]
      rfl
    · rw [State.failSafeEnabled_of_ne (s := s.afterReset) hstalled]
      refine ⟨rfl, rfl, rfl, rfl, rfl, ?_, rfl, rfl, rfl, rfl, htile, hports, rfl, rfl, rfl, rfl, rfl, rfl,
        fun _ => ⟨rfl, rfl⟩, fun h => absurd h hstalled⟩
      rw [decide_eq_false hstalled]
      rfl
  case asleep =>
    have hoff (p : PortId) : (s.clearAll.port p).link = .off := by
      rw [State.port_clearAll]
      rfl
    cases hsettling : s.settling with
    | false =>
      have hpower : s.clearAll.resetPower = s.settleAfterReset :=
        State.resetPower_of_sleep hsettling (hsleep.imp (fun h => beq_iff_eq.mpr h) id)
      rw [State.softReset_of_asleep hpower rfl, State.failSafeEnabled_of_ne (s := s.settleAfterReset) (show RefState.stopped ≠ .stalled from nofun)]
      exact ⟨rfl, rfl, fun _ => ⟨rfl, rfl, rfl, rfl, rfl⟩, nofun, fun _ => hoff⟩
    | true =>
      have hstate : s.power.state = .sleep := by
        refine hsleep.resolve_right fun h => ?_
        simp [State.settling, h] at hsettling
      rw [State.softReset_of_asleep (State.resetPower_of_settling (s := s.clearAll) hsettling) (beq_iff_eq.mpr hstate)]
      rcases State.failSafeEnabled_of_reset (s := { s.clearAll with power := { s.clearAll.power with phase := .settling .run } })
        rfl rfl (fun p h => absurd ((hoff p).symm.trans h) (by decide)) with h | ⟨r, c, h⟩
      · rw [h]
        exact ⟨rfl, rfl, nofun, fun _ => ⟨rfl, rfl⟩, fun _ => hoff⟩
      · rw [h]
        exact ⟨rfl, rfl, nofun, fun _ => ⟨rfl, rfl⟩, fun _ => hoff⟩

end Sys2Proof.Machine

/-! SUPPORT. O15: a taken block is filed and its lane is looked at (R154, R157, R158). -/
namespace Sys2Proof.Machine

/-! ## A look with the new entry last -/

/-- A look at a longer list: behind a job that starts, nothing is looked at. -/
theorem startOldest_append (l : Lane) (inPlace : Job → Option Result) (js ks : List Job) :
    startOldest l inPlace (js ++ ks) =
      if (startOldest l inPlace js).2 then ((startOldest l inPlace js).1 ++ ks, true)
      else ((startOldest l inPlace js).1 ++ (startOldest l inPlace ks).1, (startOldest l inPlace ks).2) := by
  induction js with
  | nil => rfl
  | cons j js ih =>
    simp only [List.cons_append, startOldest]
    split
    · split
      · rw [ih]
        split <;> simp_all
      · rfl
    · rw [ih]
      split <;> simp_all

/-- What a look can make of one entry: nothing, its result in place, or RUNNING. -/
def Job.LookedAt (j k : Job) : Prop := k = j ∨ (j.result = none ∧ ((∃ r, k = { j with result := some r }) ∨ k = { j with status := .running }))

theorem startOldest_singleton (l : Lane) (inPlace : Job → Option Result) (x : Job) :
    ∃ y, (startOldest l inPlace [x]).1 = [y] ∧ x.LookedAt y := by
  unfold startOldest
  split
  · next h =>
    split
    · exact ⟨_, rfl, Or.inr ⟨h.2.2, Or.inl ⟨_, rfl⟩⟩⟩
    · exact ⟨_, rfl, Or.inr ⟨h.2.2, Or.inr rfl⟩⟩
  · exact ⟨x, rfl, Or.inl rfl⟩

theorem startOldest_concat (l : Lane) (inPlace : Job → Option Result) (js : List Job) (x : Job) :
    ∃ ks y, (startOldest l inPlace (js ++ [x])).1 = ks ++ [y] ∧ ks.map Job.addr = js.map Job.addr ∧ x.LookedAt y := by
  rw [startOldest_append]
  split
  · exact ⟨_, x, rfl, startOldest_addr _ _ _, Or.inl rfl⟩
  · obtain ⟨y, hy, hlooked⟩ := startOldest_singleton l inPlace x
    exact ⟨_, y, by rw [hy], startOldest_addr _ _ _, hlooked⟩

/-- A look at a list with `x` last leaves what it makes of `x` last, and the addresses. -/
theorem State.jobs_look_concat {s : State} {js : List Job} {x : Job} (h : s.jobs = js ++ [x]) (l : Option Lane) :
    ∃ ks y, (s.look l).jobs = ks ++ [y] ∧ ks.map Job.addr = js.map Job.addr ∧ x.LookedAt y := by
  have hsame : ∃ ks y, s.jobs = ks ++ [y] ∧ ks.map Job.addr = js.map Job.addr ∧ x.LookedAt y := ⟨js, x, h, rfl, Or.inl rfl⟩
  unfold State.look State.lookFrame State.lookControl
  split
  · exact hsame
  all_goals
    split
    · exact hsame
    · rw [h]
      exact startOldest_concat _ _ js x

theorem Job.LookedAt.kept {j k : Job} (h : j.LookedAt k) :
    k.addr = j.addr ∧ k.kind = j.kind ∧ k.flags = j.flags ∧ k.tag = j.tag ∧ k.params = j.params ∧ k.writes = j.writes ∧
      k.lane = j.lane := by
  rcases h with rfl | ⟨-, ⟨r, rfl⟩ | rfl⟩ <;> exact ⟨rfl, rfl, rfl, rfl, rfl, rfl, rfl⟩

theorem Job.LookedAt.eq_of_result {j k : Job} (h : j.LookedAt k) (hresult : j.result ≠ none) : k = j :=
  h.resolve_right fun hnone => hresult hnone.1

/-- The entry for the block of the last one, if no other entry is for it. -/
theorem State.findJob_concat {s : State} {js : List Job} {x : Job} (h : s.jobs = js ++ [x]) (hfresh : x.addr ∉ js.map Job.addr) :
    s.findJob x.addr = some x := by
  unfold State.findJob
  rw [h, List.find?_append, List.find?_eq_none.mpr, Option.none_or]
  · simp
  · intro j hj
    simp only [beq_iff_eq]
    exact fun heq => hfresh (heq ▸ List.mem_map_of_mem hj)

theorem State.findJob_eq_none_iff (s : State) (a : Word) : s.findJob a = none ↔ a ∉ s.jobs.map Job.addr := by
  simp [State.findJob, List.find?_eq_none]

/-! ## The entry of a taken block (R157) -/

section
variable {s : State} {a w tag : Word} {params : Vector Byte 32}

/-- KIND and FLAGS of word 0 as latched at taking (R148). -/
theorem State.newJob_latched (s : State) (a w tag params) : (s.newJob a w tag params).kind = (w >>> 8).setWidth 8 ∧
    (s.newJob a w tag params).flags = (w >>> 16).setWidth 8 ∧ (s.newJob a w tag params).tag = tag ∧
    (s.newJob a w tag params).params = params := by
  unfold State.newJob
  simp only
  split
  · exact ⟨rfl, rfl, rfl, rfl⟩
  · split <;> exact ⟨rfl, rfl, rfl, rfl⟩

theorem State.newJob_of_unknown (h : kindOf ((w >>> 8).setWidth 8) = none) :
    (s.newJob a w tag params).lane = none ∧ (s.newJob a w tag params).writes = [] ∧
      (s.newJob a w tag params).result = some (invalidResult .badKind none none) := by
  unfold State.newJob
  simp only
  rw [h]
  exact ⟨rfl, rfl, rfl⟩

theorem State.newJob_of_rejected {k : Kind} (h : kindOf ((w >>> 8).setWidth 8) = some k) (hhalted : s.halted.isSome = true)
    (hk : k ≠ .sense) : (s.newJob a w tag params).lane = some k.lane ∧ (s.newJob a w tag params).writes = [] ∧
      (s.newJob a w tag params).result = some (plainResult .rejected detailZero) := by
  have hturned : (s.halted.isSome && k != .sense) = true := by simp [hhalted, hk]
  unfold State.newJob
  simp only
  rw [h]
  simp only
  rw [if_pos hturned]
  exact ⟨rfl, rfl, rfl⟩

/-- Whether a WAITING or RUNNING job of lane `l` is listed. -/
def State.behind (s : State) (l : Lane) : Bool :=
  s.jobs.any fun j => j.lane == some l && (j.status == .waiting || j.status == .running)

theorem State.newJob_of_known {k : Kind} (h : kindOf ((w >>> 8).setWidth 8) = some k) (hopen : s.halted = none ∨ k = .sense) :
    (s.newJob a w tag params).lane = some k.lane ∧ (s.newJob a w tag params).result = none ∧
      (s.newJob a w tag params).writes = if s.behind k.lane then [.filing, .progress .waiting] else [.filing] := by
  have hturned : (s.halted.isSome && k != .sense) = false := by
    rcases hopen with hnone | rfl
    · simp [hnone]
    · simp
  unfold State.newJob State.behind
  simp only
  rw [h]
  simp only
  rw [if_neg (by rw [hturned]; exact Bool.false_ne_true)]
  exact ⟨rfl, rfl, rfl⟩

theorem State.behind_iff (s : State) (l : Lane) :
    s.behind l = true ↔ ∃ j ∈ s.jobs, j.lane = some l ∧ (j.status = .waiting ∨ j.status = .running) := by
  simp [State.behind, List.any_eq_true]

/-! ## Filing -/

/-- The state with the block of a pass taken and listed, before its lane is looked at. -/
def State.filed (s : State) (a w tag : Word) (params : Vector Byte 32) : State :=
  { s with intake := { s.intake with anchor := some a, voidRun := 0, pass := .none }, jobs := s.jobs ++ [s.newJob a w tag params] }

/-- The state once the lane of the taken block has been looked at. -/
def State.fileLooked (s : State) (a w tag : Word) (params : Vector Byte 32) : State :=
  (s.filed a w tag params).look (s.newJob a w tag params).lane

theorem exec_takingRead (h : s.intake.pass = .taking a w) :
    exec (.takingRead (some (tag, params))) s = .next (s.fileLooked a w tag params).passStep.settle := by
  simp only [exec, execTakingRead, State.takeBlock, h, State.settled]
  rfl

theorem State.passStep_keeps (s : State) : ∃ i, s.passStep = { s with intake := i } := by
  unfold State.passStep
  repeat' split
  all_goals exact ⟨_, rfl⟩

theorem State.jobs_passStep (s : State) : s.passStep.jobs = s.jobs := by
  obtain ⟨i, h⟩ := s.passStep_keeps
  rw [h]
theorem State.frameRun_passStep (s : State) : s.passStep.frameRun = s.frameRun := by
  obtain ⟨i, h⟩ := s.passStep_keeps
  rw [h]
theorem State.controlRun_passStep (s : State) : s.passStep.controlRun = s.controlRun := by
  obtain ⟨i, h⟩ := s.passStep_keeps
  rw [h]

theorem State.intake_fileLooked (s : State) (a w tag params) : (s.fileLooked a w tag params).intake =
    { s.intake with anchor := some a, voidRun := 0, pass := .none } := State.intake_look _ _

/-- The list after filing: the addresses as before, and the new entry last, as the look left it. -/
theorem State.jobs_fileLooked (s : State) (a w tag params) : ∃ ks y, (s.fileLooked a w tag params).jobs = ks ++ [y] ∧
    ks.map Job.addr = s.jobs.map Job.addr ∧ (s.newJob a w tag params).LookedAt y :=
  State.jobs_look_concat (s := s.filed a w tag params) rfl _

theorem State.length_fileLooked (s : State) (a w tag params) : (s.fileLooked a w tag params).jobs.length = s.jobs.length + 1 := by
  obtain ⟨ks, y, hjobs, haddr, -⟩ := s.jobs_fileLooked a w tag params
  have hlength := congrArg List.length haddr
  simp only [List.length_map] at hlength
  simp [hjobs, hlength]

/-- The entry found for a block that was not listed before. -/
theorem State.findJob_fileLooked (hfresh : s.findJob a = none) :
    ∃ y, (s.fileLooked a w tag params).passStep.findJob a = some y ∧ (s.newJob a w tag params).LookedAt y := by
  obtain ⟨ks, y, hjobs, haddr, hlooked⟩ := s.jobs_fileLooked a w tag params
  have hy : y.addr = a := by rw [hlooked.kept.1, State.newJob_addr]
  refine ⟨y, ?_, hlooked⟩
  have hfind := State.findJob_concat (s := (s.fileLooked a w tag params).passStep) (x := y) ((State.jobs_passStep _).trans hjobs)
    (by rw [haddr, hy]; exact (State.findJob_eq_none_iff s a).mp hfresh)
  rwa [hy] at hfind

/-- The look at the lane of the taken block (R158). -/
theorem looked_fileLooked {l : Lane} (h : (s.newJob a w tag params).lane = some l) :
    Looked l { s with jobs := s.jobs ++ [s.newJob a w tag params] } (s.fileLooked a w tag params).passStep := by
  have hlook := looked_look (s.filed a w tag params) l
  rw [← h] at hlook
  exact looked_congr hlook rfl rfl rfl rfl rfl (State.jobs_passStep _) (State.frameRun_passStep _) (State.controlRun_passStep _)

end

/-! ## What becomes of the taken job -/

section
variable {s : State} {a w tag : Word} {params : Vector Byte 32} {k : Kind}

/-- A lane that is open: no job of it runs, and neither HALTED nor a settle closes it (R158). -/
theorem State.not_closed {l : Lane} {js : List Job} (hrunning : ∀ j ∈ js, j.lane = some l → j.status ≠ .running)
    (hframe : l = .frame → s.halted = none) (hcontrol : l = .control → s.settling = false) :
    ¬((∃ j ∈ js, j.lane = some l ∧ j.status = .running) ∨ (l = .frame ∧ s.halted.isSome = true) ∨
      (l = .control ∧ s.settling = true)) := by
  rintro (⟨j, hj, hlane, hstatus⟩ | ⟨hl, hhalted⟩ | ⟨hl, hsettling⟩)
  · exact hrunning j hj hlane hstatus
  · rw [hframe hl] at hhalted
    exact nomatch hhalted
  · exact nomatch (hcontrol hl).symm.trans hsettling

theorem Kind.frame_of_open (hopen : s.halted = none ∨ k = .sense) (hl : k.lane = .frame) : s.halted = none := by
  rcases hopen with h | rfl
  · exact h
  · exact nomatch hl

/-- A job whose lane holds only jobs IN_FLIGHT starts at once (R158). -/
theorem State.fileLooked_starts (hk : kindOf ((w >>> 8).setWidth 8) = some k) (hopen : s.halted = none ∨ k = .sense)
    (hcontrol : k.lane = .control → s.settling = false) (hframe : k.lane = .frame → s.pictureWorkStopped = false)
    (hflight : ∀ j ∈ s.jobs, j.lane = some k.lane → j.status = .inFlight) :
    (s.fileLooked a w tag params).passStep.jobs = s.jobs ++ [{ s.newJob a w tag params with status := .running }] ∧
      (match k.lane with
        | .frame => (s.fileLooked a w tag params).passStep.frameRun = .started
        | .control => (s.fileLooked a w tag params).passStep.controlRun = .started) := by
  obtain ⟨hlane, hresult, -⟩ := State.newJob_of_known (s := s) (a := a) (tag := tag) (params := params) hk hopen
  have hstatus := s.newJob_status a w tag params
  obtain ⟨hkind, -⟩ := s.newJob_latched a w tag params
  obtain ⟨-, -, hstart⟩ := looked_fileLooked hlane
  have hnone (j : Job) (hj : j ∈ s.jobs) (hl : j.lane = some k.lane) (hs : j.status = .waiting) : False :=
    nomatch (hflight j hj hl).symm.trans hs
  have hclosed := State.not_closed (s := s) (l := k.lane) (js := s.jobs ++ [s.newJob a w tag params]) (fun j hj hl hs => by
    rcases List.mem_append.mp hj with hj | hj
    · exact nomatch (hflight j hj hl).symm.trans hs
    · rw [List.mem_singleton.mp hj, hstatus] at hs
      exact nomatch hs) (Kind.frame_of_open hopen) hcontrol
  obtain ⟨hjobs, hrunFrame, hrunControl⟩ := hstart hclosed s.jobs (s.newJob a w tag params) [] rfl
    (fun j hj hl hs => (hnone j hj hl hs).elim) (fun hpassed => by
      have hturned := hpassed hlane hstatus hresult
      have hkindOf : kindOf (s.newJob a w tag params).kind = some k := by rw [hkind, hk]
      cases hl : k.lane with
      | frame =>
        have hwork : ({ s with jobs := s.jobs ++ [s.newJob a w tag params] } : State).pictureWorkStopped = false := hframe hl
        simp [hl, hwork] at hturned
      | control =>
        rcases hopen with h | rfl
        · simp [hl, h] at hturned
        · simp [hl, hkindOf] at hturned)
  refine ⟨hjobs.trans (congrArg (· ++ _) ?_), ?_⟩
  · exact (List.map_congr_left (g := id) fun j hj => if_neg fun h => hnone j hj h.1 h.2.1).trans (List.map_id _)
  · cases hl : k.lane with
    | frame => exact hrunFrame.trans (if_pos hl)
    | control => exact hrunControl.trans (if_pos hl)

/-- Behind a RUNNING job of its lane a taken job waits, and nothing is looked at (R158). -/
theorem State.fileLooked_waits (hk : kindOf ((w >>> 8).setWidth 8) = some k) (hopen : s.halted = none ∨ k = .sense)
    (hbusy : ∃ j ∈ s.jobs, j.lane = some k.lane ∧ j.status = .running) :
    (s.fileLooked a w tag params).passStep.jobs = s.jobs ++ [s.newJob a w tag params] := by
  obtain ⟨hlane, -⟩ := State.newJob_of_known (s := s) (a := a) (tag := tag) (params := params) hk hopen
  obtain ⟨hclosed, -⟩ := looked_fileLooked hlane
  obtain ⟨j, hj, hjlane, hrunning⟩ := hbusy
  exact (hclosed (Or.inl ⟨j, List.mem_append_left _ hj, hjlane, hrunning⟩)).1

/-- Out of RUN a frame job behind no other is turned away NOT_RUNNING (R141, R142). -/
theorem State.fileLooked_turnedAway (hk : kindOf ((w >>> 8).setWidth 8) = some k) (hopen : s.halted = none ∨ k = .sense)
    (hframe : k.lane = .frame) (hpower : s.power.state ≠ .run) (halone : ∀ j ∈ s.jobs, j.lane ≠ some .frame) :
    (s.fileLooked a w tag params).passStep.jobs =
        s.jobs ++ [{ s.newJob a w tag params with result := some (plainResult .notRunning detailZero) }] ∧
      (s.fileLooked a w tag params).passStep.frameRun = s.frameRun := by
  obtain ⟨hlane, hresult, -⟩ := State.newJob_of_known (s := s) (a := a) (tag := tag) (params := params) hk hopen
  rw [hframe] at hlane
  have hstatus := s.newJob_status a w tag params
  obtain ⟨-, hturned, -⟩ := looked_fileLooked hlane
  have hwork : ({ s with jobs := s.jobs ++ [s.newJob a w tag params] } : State).pictureWorkStopped = true := by
    simp [State.pictureWorkStopped, hpower]
  have hclosed := State.not_closed (s := s) (l := .frame) (js := s.jobs ++ [s.newJob a w tag params]) (fun j hj hl hs => by
    rcases List.mem_append.mp hj with hj | hj
    · exact halone j hj hl
    · rw [List.mem_singleton.mp hj, hstatus] at hs
      exact nomatch hs) (fun _ => Kind.frame_of_open hopen hframe) nofun
  obtain ⟨hjobs, hrun, -⟩ := hturned hclosed fun j _ _ _ _ => by rw [if_pos hwork]; rfl
  refine ⟨hjobs.trans ?_, hrun⟩
  rw [List.map_append]
  refine congr (congrArg _ ?_) ?_
  · exact (List.map_congr_left (g := id) fun j hj => if_neg fun h => halone j hj h.1).trans (List.map_id _)
  · simp only [List.map_cons, List.map_nil]
    rw [if_pos ⟨hlane, hstatus, hresult⟩, if_pos hwork]
    rfl

theorem State.outcomeOf_eq {s : State} {a : Word} {y : Job} (h : s.findJob a = some y) :
    s.outcomeOf a = y.result.map Result.outcome := by
  simp [State.outcomeOf, h]

/-- Settles O15: the list after filing is the old one with the new entry last, and what the look makes of that entry is read off
the state of its lane. -/
theorem takingReadFilesTheJob : Obligations.TakingReadFilesTheJob := by
  intro s a w tag params hpass
  have hintake := s.intake_fileLooked a w tag params
  have henable : (s.fileLooked a w tag params).intake.enable = s.intake.enable := by rw [hintake]
  have hlength := s.length_fileLooked a w tag params
  have hxaddr := s.newJob_addr a w tag params
  have hstatus := s.newJob_status a w tag params
  obtain ⟨ks, y, hjobs, haddrs, hlooked⟩ := s.jobs_fileLooked a w tag params
  have hyaddr : y.addr = a := by rw [hlooked.kept.1, hxaddr]
  have hpassJobs := State.jobs_passStep (s.fileLooked a w tag params)
  have hpassIntake : (s.fileLooked a w tag params).passStep.intake.anchor = some a ∧
      (s.fileLooked a w tag params).passStep.intake.voidRun = 0 := by
    unfold State.passStep
    repeat' split
    all_goals exact ⟨congrArg Intake.anchor hintake, congrArg Intake.voidRun hintake⟩
  have hfound {t : State} {x : Job} (h : t.jobs = s.jobs ++ [x]) (hx : x.addr = a) (hfresh : s.findJob a = none) :
      t.findJob a = some x := by
    have hfind := State.findJob_concat h (by rw [hx]; exact (State.findJob_eq_none_iff s a).mp hfresh)
    rwa [hx] at hfind
  refine ⟨(s.fileLooked a w tag params).passStep, exec_takingRead hpass, hpassIntake.1, hpassIntake.2, ?addrs, ?entry, ?disabled, ?room,
    ?full, fun hfresh hk => ?unknown, fun k hk => ?lane, fun hfresh k hk hsense hhalted => ?rejected,
    fun hfresh k hk hopen => ⟨fun hcontrol hframe hflight => ?starts, fun hbusy => ?waits, fun hwaiting => ?behind,
      fun hframe hpower halone => ?turnedAway⟩⟩
  case addrs => rw [hpassJobs, hjobs, List.map_append, haddrs, List.map_singleton, hyaddr]
  case entry =>
    obtain ⟨hkind, hflags, htag, hparams⟩ := s.newJob_latched a w tag params
    obtain ⟨-, hykind, hyflags, hytag, hyparams, -⟩ := hlooked.kept
    exact ⟨y, by rw [hpassJobs, hjobs]; simp, hyaddr, hykind.trans hkind, hyflags.trans hflags, hytag.trans htag,
      hyparams.trans hparams⟩
  case disabled =>
    intro h
    rw [State.passStep_disabled (henable.trans h)]
    exact ⟨rfl, rfl⟩
  case room =>
    intro h hroom
    rw [State.passStep_link (henable.trans h) (by omega)]
    exact ⟨by rw [hintake], rfl⟩
  case full =>
    intro h hfull
    rw [State.passStep_full (henable.trans h) (by omega)]
    exact ⟨rfl, rfl, rfl⟩
  case unknown =>
    obtain ⟨-, hwrites, hresult⟩ := State.newJob_of_unknown (s := s) (a := a) (tag := tag) (params := params) hk
    obtain ⟨z, hfind, hz⟩ := State.findJob_fileLooked (w := w) (tag := tag) (params := params) hfresh
    rw [hfind, hz.eq_of_result (by rw [hresult]; nofun)]
    exact ⟨hresult, congrArg some hwrites⟩
  case lane =>
    by_cases hopen : s.halted = none ∨ k = .sense
    · obtain ⟨hlane, hresult, -⟩ := State.newJob_of_known (s := s) (a := a) (tag := tag) (params := params) hk hopen
      exact ⟨_, hxaddr, hlane, hstatus, ⟨fun _ => hopen, fun _ => hresult⟩, looked_fileLooked hlane⟩
    · obtain ⟨hhalted, hsense⟩ := not_or.mp hopen
      obtain ⟨hlane, -, hresult⟩ := State.newJob_of_rejected (s := s) (a := a) (tag := tag) (params := params) hk
        (Option.isSome_iff_ne_none.mpr hhalted) hsense
      exact ⟨_, hxaddr, hlane, hstatus, ⟨fun h => (nomatch hresult.symm.trans h), fun h => (hopen h).elim⟩, looked_fileLooked hlane⟩
  case rejected =>
    obtain ⟨-, hwrites, hresult⟩ := State.newJob_of_rejected (s := s) (a := a) (tag := tag) (params := params) hk hhalted hsense
    obtain ⟨z, hfind, hz⟩ := State.findJob_fileLooked (w := w) (tag := tag) (params := params) hfresh
    rw [State.outcomeOf_eq hfind, hfind, hz.eq_of_result (by rw [hresult]; nofun), hresult]
    exact ⟨rfl, congrArg some hwrites⟩
  case starts =>
    obtain ⟨hstarted, hrun⟩ := State.fileLooked_starts (tag := tag) (params := params) (a := a) hk hopen hcontrol hframe hflight
    obtain ⟨hlane, hresult, hwrites⟩ := State.newJob_of_known (s := s) (a := a) (tag := tag) (params := params) hk hopen
    have hbehind : s.behind k.lane = false := by
      refine Bool.eq_false_iff.mpr fun h => ?_
      obtain ⟨j, hj, hl, hs⟩ := (s.behind_iff k.lane).mp h
      rw [hflight j hj hl] at hs
      exact hs.elim nofun nofun
    refine ⟨?_, ?_, hrun⟩
    · unfold State.running
      rw [hstarted, List.find?_append, List.find?_eq_none.mpr, Option.none_or]
      · simp [hlane, hresult, hxaddr]
      · intro j hj hrunning
        simp only [Bool.and_eq_true, beq_iff_eq] at hrunning
        exact nomatch (hflight j hj hrunning.1.1).symm.trans hrunning.1.2
    · rw [hfound hstarted hxaddr hfresh]
      refine congrArg some (hwrites.trans ?_)
      rw [hbehind]
      rfl
  case waits =>
    obtain ⟨-, hresult, hwrites⟩ := State.newJob_of_known (s := s) (a := a) (tag := tag) (params := params) hk hopen
    have hbehind : s.behind k.lane = true := by
      obtain ⟨j, hj, hl, hs⟩ := hbusy
      exact (s.behind_iff k.lane).mpr ⟨j, hj, hl, Or.inr hs⟩
    rw [hfound (State.fileLooked_waits hk hopen hbusy) hxaddr hfresh]
    refine ⟨congrArg some (hwrites.trans (if_pos hbehind)), congrArg some hstatus, hresult⟩
  case behind =>
    obtain ⟨-, -, hwrites⟩ := State.newJob_of_known (s := s) (a := a) (tag := tag) (params := params) hk hopen
    have hbehind : s.behind k.lane = true := by
      obtain ⟨j, hj, hl, hs⟩ := hwaiting
      exact (s.behind_iff k.lane).mpr ⟨j, hj, hl, Or.inl hs⟩
    obtain ⟨z, hfind, hz⟩ := State.findJob_fileLooked (w := w) (tag := tag) (params := params) hfresh
    obtain ⟨-, -, -, -, -, hzwrites, -⟩ := hz.kept
    rw [hfind]
    exact congrArg some (hzwrites.trans (hwrites.trans (if_pos hbehind)))
  case turnedAway =>
    obtain ⟨hturned, hrun⟩ := State.fileLooked_turnedAway (tag := tag) (params := params) (a := a) hk hopen hframe hpower halone
    obtain ⟨-, -, hwrites⟩ := State.newJob_of_known (s := s) (a := a) (tag := tag) (params := params) hk hopen
    have hbehind : s.behind k.lane = false := by
      refine Bool.eq_false_iff.mpr fun h => ?_
      obtain ⟨j, hj, hl, -⟩ := (s.behind_iff k.lane).mp h
      exact halone j hj (hframe ▸ hl)
    have hfind := hfound hturned hxaddr hfresh
    rw [State.outcomeOf_eq hfind, hfind]
    refine ⟨rfl, congrArg some (hwrites.trans ?_), hrun⟩
    rw [hbehind]
    rfl

end

end Sys2Proof.Machine

/-! SUPPORT. O16, O17: what a halt and a completion do to the Job List (R148, R159–R162). -/
namespace Sys2Proof.Machine

/-! ## What leaves the Job List alone -/

section
variable (s : State)

@[simp] theorem State.jobs_modScene (f) : (s.modScene f).jobs = s.jobs := by
  unfold State.modScene
  split <;> rfl
@[simp] theorem State.jobs_modLut (f) : (s.modLut f).jobs = s.jobs := by
  unfold State.modLut
  split <;> rfl
@[simp] theorem State.jobs_modVerify (f) : (s.modVerify f).jobs = s.jobs := by
  unfold State.modVerify
  split <;> rfl
@[simp] theorem State.jobs_queueDiscard (t e) : (s.queueDiscard t e).jobs = s.jobs := by
  unfold State.queueDiscard
  split <;> rfl
@[simp] theorem State.jobs_releaseEngine (p) : (s.releaseEngine p).jobs = s.jobs := by
  unfold State.releaseEngine
  repeat' split
  all_goals rfl
@[simp] theorem State.jobs_freeTile (t) : (s.freeTile t).jobs = s.jobs := by
  unfold State.freeTile
  split
  · rfl
  · exact State.jobs_releaseEngine _ _
@[simp] theorem State.jobs_stopDelivery (e t) : (s.stopDelivery e t).jobs = s.jobs := by
  unfold State.stopDelivery
  simp only
  split <;> simp
@[simp] theorem State.jobs_endAtTile (e t) : (s.endAtTile e t).jobs = s.jobs := by
  unfold State.endAtTile
  refine ite_keeps State.jobs ?_ ?_
  all_goals
    try rw [State.jobs_queueDiscard]
    split
    · exact s.jobs_freeTile t
    · split <;> exact s.jobs_freeTile t
@[simp] theorem State.jobs_dropQueuedAll (f) : (s.dropQueuedAll f).jobs = s.jobs :=
  State.forEach_keeps State.jobs (fun p u => u.modPort p fun x => x.dropQueued f) (fun _ _ => rfl) allIds s
@[simp] theorem State.jobs_stopVerify (f) : (s.stopVerify f).jobs = s.jobs := by
  have hdropped := s.jobs_dropQueuedAll f
  unfold State.stopVerify
  generalize s.dropQueuedAll f = u at hdropped
  dsimp only
  split <;> exact hdropped
@[simp] theorem State.jobs_stopComposer : s.stopComposer.jobs = s.jobs := by
  have hfreed : (s.forEach allIds fun p u => u.modPort p Port.freeUnsent).jobs = s.jobs :=
    State.forEach_keeps State.jobs (fun p u => u.modPort p Port.freeUnsent) (fun p u => u.modPort_jobs p _) allIds s
  unfold State.stopComposer
  generalize (s.forEach allIds fun p u => u.modPort p Port.freeUnsent) = u at hfreed
  exact hfreed

end

/-! ## What completing the running frame job does to the list -/

/-- The list after the RUNNING job of lane `l`, if there is one, has been handed a result (R160). -/
def handRunning (l : Lane) (r : Result) (js : List Job) : List Job :=
  match js.find? (fun j => j.lane == some l && j.status == .running && j.result.isNone) with
  | none => js
  | some j => js.map (fun k => if k.addr = j.addr then k.hand r else k)

theorem State.jobs_completeFrame (s : State) (r) : (s.completeFrame r).jobs = handRunning .frame r s.jobs := by
  have hfind : s.jobs.find? (fun j => j.lane == some .frame && j.status == .running && j.result.isNone) = s.running .frame := rfl
  unfold State.completeFrame handRunning
  rw [hfind]
  cases s.running .frame <;> rfl

theorem State.jobs_completeScene (s : State) (r) : (s.completeScene r).jobs = handRunning .frame r s.jobs := s.jobs_completeFrame r

theorem State.jobs_endSceneWith (s : State) (r x) : (s.endSceneWith r x).jobs = handRunning .frame x s.jobs := by
  unfold State.endSceneWith
  rw [State.jobs_completeScene, foldl_keeps State.jobs _ fun s t => s.jobs_endAtTile r.epoch t]

/-- An aborted frame job, if one runs, is handed ABORTED, and the list is otherwise as it was (R24, R71, R124, R183). -/
theorem State.jobs_abortFrameJob (s : State) (h : s.frameRun ≠ .idle) :
    ∃ r : Result, r.outcome = .aborted ∧ s.abortFrameJob.jobs = handRunning .frame r s.jobs := by
  unfold State.abortFrameJob
  split
  · next hidle => exact absurd hidle h
  · exact ⟨_, rfl, s.jobs_completeFrame _⟩
  · exact ⟨_, rfl, s.jobs_completeFrame _⟩
  · exact ⟨_, rfl, s.jobs_completeFrame _⟩
  · next r hr =>
    unfold State.endSceneEarly
    rw [State.scene_eq_some.mpr hr]
    exact ⟨_, rfl, s.jobs_endSceneWith r _⟩
  · exact ⟨_, rfl, s.jobs_completeFrame _⟩
  · exact ⟨_, rfl, (State.jobs_completeFrame _ _).trans (congrArg _ (s.jobs_dropQueuedAll _))⟩
  · exact ⟨_, rfl, (State.jobs_completeFrame _ _).trans (congrArg _ (s.jobs_stopVerify _))⟩
  · exact ⟨_, rfl, (State.jobs_completeFrame _ _).trans (congrArg _ (s.jobs_stopVerify _))⟩

theorem State.abortFrameJob_of_idle {s : State} (h : s.frameRun = .idle) : s.abortFrameJob = s := by
  unfold State.abortFrameJob
  rw [h]

theorem State.frameRun_abortFrameJob (s : State) : s.abortFrameJob.frameRun = .idle := by
  unfold State.abortFrameJob
  split
  · assumption
  · exact State.completeFrame_frameRun _ _
  · exact State.completeFrame_frameRun _ _
  · exact State.completeFrame_frameRun _ _
  · next r hr =>
    unfold State.endSceneEarly
    rw [State.scene_eq_some.mpr hr]
    exact State.completeFrame_frameRun _ _
  all_goals exact State.completeFrame_frameRun _ _

/-- The list after every WAITING frame job has been handed outcome `o` (R141, R142, R162). -/
def endWaiting (o : JobOutcome) (js : List Job) : List Job :=
  js.map fun j => if j.lane = some .frame ∧ j.status = .waiting then j.hand (plainResult o detailZero) else j

theorem State.jobs_stopWork (s : State) (o) : (s.stopWork o).jobs = endWaiting o s.abortFrameJob.jobs := State.jobs_stopComposer _

theorem State.frameRun_stopComposer (s : State) : s.stopComposer.frameRun = s.frameRun := by
  have hfreed : (s.forEach allIds fun p u => u.modPort p Port.freeUnsent).frameRun = s.frameRun :=
    State.forEach_keeps State.frameRun (fun p u => u.modPort p Port.freeUnsent) (fun p u => u.modPort_frameRun p _) allIds s
  unfold State.stopComposer
  generalize (s.forEach allIds fun p u => u.modPort p Port.freeUnsent) = u at hfreed
  exact hfreed

theorem State.frameRun_stopWork (s : State) (o) : (s.stopWork o).frameRun = .idle :=
  (State.frameRun_stopComposer _).trans s.frameRun_abortFrameJob

theorem State.halt_of_running {s : State} (h : s.halted = none) (c) :
    s.halt c = (State.raiseHalt { s with halted := some c }).stopWork .rejected := by
  unfold State.halt
  rw [h]

theorem State.halt_of_halted {s : State} {h : HaltCause} (hh : s.halted = some h) (c) : s.halt c = s.raiseHalt := by
  unfold State.halt
  rw [hh]

/-! ## Entries of the list -/

theorem mem_handRunning {l : Lane} {r : Result} {js : List Job} {k : Job} (hk : k ∈ js)
    (h : ∀ j ∈ js, j.lane = some l → j.status = .running → j.result = none → k.addr ≠ j.addr) : k ∈ handRunning l r js := by
  unfold handRunning
  split
  · exact hk
  · next j hj =>
    have hprops := List.find?_some hj
    simp only [Bool.and_eq_true, beq_iff_eq, Option.isNone_iff_eq_none] at hprops
    exact List.mem_map.mpr ⟨k, hk, if_neg (h j (List.mem_of_find?_eq_some hj) hprops.1.1 hprops.1.2 hprops.2)⟩

theorem addrs_handRunning (l : Lane) (r : Result) (js : List Job) : (handRunning l r js).map Job.addr = js.map Job.addr := by
  unfold handRunning
  split
  · rfl
  · rw [List.map_map]
    refine List.map_congr_left fun k _ => ?_
    simp only [Function.comp]
    split
    · exact Job.hand_addr k r
    · rfl

theorem addrs_endWaiting (o : JobOutcome) (js : List Job) : (endWaiting o js).map Job.addr = js.map Job.addr := by
  unfold endWaiting
  rw [List.map_map]
  refine List.map_congr_left fun k _ => ?_
  simp only [Function.comp]
  split
  · exact Job.hand_addr k _
  · rfl

theorem Job.hand_isSome (j : Job) (r : Result) : (j.hand r).result.isSome = true := by
  unfold Job.hand
  split
  · rfl
  · next h => simp [h]

theorem Job.hand_lane (j : Job) (r : Result) : (j.hand r).lane = j.lane ∧ (j.hand r).status = j.status := by
  unfold Job.hand
  split <;> exact ⟨rfl, rfl⟩

theorem Job.hand_of_none {j : Job} (h : j.result = none) (r : Result) : j.hand r = { j with result := some r } := by
  unfold Job.hand
  rw [h]

/-- The first entry for a block is the only one, where no two entries are for one block (R156). -/
theorem State.findJob_of_mem {s : State} (hnodup : (s.jobs.map Job.addr).Nodup) {k : Job} (hk : k ∈ s.jobs) :
    s.findJob k.addr = some k := by
  unfold State.findJob
  obtain ⟨j, hj⟩ := Option.isSome_iff_exists.mp
    (List.find?_isSome (p := fun j : Job => j.addr == k.addr) |>.mpr ⟨k, hk, beq_self_eq_true k.addr⟩)
  have hmatch := List.find?_some hj
  have haddr : j.addr = k.addr := beq_iff_eq.mp hmatch
  rw [hj, List.inj_on_of_nodup_map hnodup (List.mem_of_find?_eq_some hj) hk haddr]

theorem mem_handRunning_of_running {l : Lane} {r : Result} {js : List Job} {k : Job}
    (hk : js.find? (fun j => j.lane == some l && j.status == .running && j.result.isNone) = some k) :
    k.hand r ∈ handRunning l r js := by
  unfold handRunning
  rw [hk]
  exact List.mem_map.mpr ⟨k, List.mem_of_find?_eq_some hk, if_pos rfl⟩

theorem mem_endWaiting_of_waiting {o : JobOutcome} {js : List Job} {k : Job} (hk : k ∈ js) (hlane : k.lane = some .frame)
    (hstatus : k.status = .waiting) : k.hand (plainResult o detailZero) ∈ endWaiting o js :=
  List.mem_map.mpr ⟨k, hk, if_pos ⟨hlane, hstatus⟩⟩

theorem mem_endWaiting {o : JobOutcome} {js : List Job} {k : Job} (hk : k ∈ js)
    (h : ¬(k.lane = some .frame ∧ k.status = .waiting)) : k ∈ endWaiting o js := List.mem_map.mpr ⟨k, hk, if_neg h⟩

/-- No WAITING frame job is left without a result (R162). -/
theorem isSome_of_mem_endWaiting {o : JobOutcome} {js : List Job} {k : Job} (hk : k ∈ endWaiting o js) (hlane : k.lane = some .frame)
    (hstatus : k.status = .waiting) : k.result.isSome = true := by
  obtain ⟨j, -, rfl⟩ := List.mem_map.mp hk
  by_cases hj : j.lane = some .frame ∧ j.status = .waiting
  · rw [if_pos hj]
    exact Job.hand_isSome _ _
  · rw [if_neg hj] at hlane hstatus
    exact absurd ⟨hlane, hstatus⟩ hj

/-! ## A halt -/

section
variable {s : State}

theorem State.bus_halt (s : State) (c) : (s.halt c).bus = s.bus := by
  have hbus := congrArg State.bus (s.quiet_halt c)
  exact hbus

theorem State.addrs_of_entries {s t : State} (h : t.entries = s.entries) : t.jobs.map Job.addr = s.jobs.map Job.addr := by
  have haddr (js : List Job) : (js.map Job.entry).map Job.addr = js.map Job.addr := by
    rw [List.map_map]
    rfl
  rw [← haddr t.jobs, ← haddr s.jobs]
  exact congrArg (List.map Job.addr) h

theorem State.addrs_halt (s : State) (c) : (s.halt c).jobs.map Job.addr = s.jobs.map Job.addr :=
  State.addrs_of_entries (s.entries_halt c)

/-- The list after a halt (R162). -/
theorem State.jobs_halt (h : s.halted = none) (c) :
    (s.frameRun = .idle ∧ (s.halt c).jobs = endWaiting .rejected s.jobs) ∨
      ∃ r : Result, r.outcome = .aborted ∧ (s.halt c).jobs = endWaiting .rejected (handRunning .frame r s.jobs) := by
  rw [State.halt_of_running h, State.jobs_stopWork]
  by_cases hidle : s.frameRun = .idle
  · left
    rw [State.abortFrameJob_of_idle (s := State.raiseHalt { s with halted := some c }) hidle]
    exact ⟨hidle, rfl⟩
  · right
    obtain ⟨r, hr, hjobs⟩ := State.jobs_abortFrameJob (State.raiseHalt { s with halted := some c }) hidle
    exact ⟨r, hr, congrArg _ hjobs⟩

/-- A job that is neither the RUNNING frame job nor handed a result as a WAITING one stays in the list of the aborted job. -/
theorem mem_handRunning_of_nodup {l : Lane} {r : Result} {js : List Job} (hnodup : (js.map Job.addr).Nodup) {k : Job} (hk : k ∈ js)
    (h : ¬(k.lane = some l ∧ k.status = .running)) : k ∈ handRunning l r js :=
  mem_handRunning hk fun _ hj hlane hstatus _ haddr => h (List.inj_on_of_nodup_map hnodup hk hj haddr ▸ ⟨hlane, hstatus⟩)

/-- A WAITING frame job without a result is handed REJECTED by a halt (R162). -/
theorem State.outcomeOf_halt (h : s.halted = none) (c) (hnodup : (s.jobs.map Job.addr).Nodup) {k : Job} (hk : k ∈ s.jobs)
    (hlane : k.lane = some .frame) (hstatus : k.status = .waiting) (hresult : k.result = none) :
    (s.halt c).outcomeOf k.addr = some .rejected := by
  have hmem : k.hand (plainResult .rejected detailZero) ∈ (s.halt c).jobs := by
    rcases s.jobs_halt h c with ⟨-, hjobs⟩ | ⟨r, -, hjobs⟩
    · rw [hjobs]
      exact mem_endWaiting_of_waiting hk hlane hstatus
    · rw [hjobs]
      refine mem_endWaiting_of_waiting (mem_handRunning_of_nodup hnodup hk fun k => ?_) hlane hstatus
      exact nomatch hstatus.symm.trans k.2
  rw [Job.hand_of_none hresult] at hmem
  have hfind := State.findJob_of_mem (by rw [State.addrs_halt]; exact hnodup) hmem
  rw [State.outcomeOf_eq hfind]
  rfl

/-- The RUNNING frame job is handed ABORTED by a halt (R162). -/
theorem State.aborted_halt (h : s.halted = none) (c) (hrun : s.frameRun ≠ .idle) {k : Job} (hk : s.running .frame = some k) :
    ∃ k' ∈ (s.halt c).jobs, k'.addr = k.addr ∧ k'.result.map Result.outcome = some .aborted := by
  rcases s.jobs_halt h c with ⟨hidle, -⟩ | ⟨r, hr, hjobs⟩
  · exact absurd hidle hrun
  · have hmatch := List.find?_some hk
    simp only [Bool.and_eq_true, beq_iff_eq, Option.isNone_iff_eq_none] at hmatch
    have hnone := hmatch.2
    have hrunning := hmatch.1.2
    refine ⟨k.hand r, ?_, Job.hand_addr k r, ?_⟩
    · rw [hjobs]
      refine mem_endWaiting (mem_handRunning_of_running hk) fun hw => ?_
      rw [(Job.hand_lane k r).2, hrunning] at hw
      exact nomatch hw.2
    · rw [Job.hand_of_none hnone]
      exact congrArg some hr

end

/-! ## The oldest write of a block (R159) -/

section
variable {s : State} {a : Word} {j : Job} {b : BlockWrite} {rest : List BlockWrite}

theorem State.progressEnds_eq (hfind : s.findJob a = some j) (hwrites : j.writes = b :: rest) (ok : Bool) :
    s.progressEnds a ok = if ok then (s.modJob a fun k => { k with writes := rest }).makeWrite a b
      else (s.modJob a fun k => { k with writes := rest }).halt .busFault := by
  unfold State.progressEnds
  rw [hfind]
  simp only
  rw [hwrites]

theorem State.makeWrite_eq (s : State) (a : Word) (b : BlockWrite) :
    s.makeWrite a b = { s with bus := { s.bus with log := s.bus.log ++ [b.made a] } } := by cases b <;> rfl

/-- The entry of a block whose writes are changed. -/
theorem State.running_modWrites (s : State) (a : Word) (ws : List BlockWrite) (l : Lane) :
    (s.modJob a fun k => { k with writes := ws }).running l =
      (s.running l).map fun k => if k.addr = a then { k with writes := ws } else k := by
  unfold State.running State.modJob
  rw [List.find?_map]
  refine congrArg (Option.map _) (congrArg (fun p => List.find? p s.jobs) (funext fun k => ?_))
  simp only [Function.comp]
  split <;> rfl

end

/-- Settles O16: the halt of R162 after the write has left its entry. -/
theorem progressWriteEndsOrHalts : Obligations.ProgressWriteEndsOrHalts := by
  intro s a j b rest hfind hwrites
  have hquiet := (s.modJob a fun k => { k with writes := rest }).quiet_halt .busFault
  have haddrs : (s.modJob a fun k => { k with writes := rest }).jobs.map Job.addr = s.jobs.map Job.addr := by
    unfold State.modJob
    rw [List.map_map]
    refine List.map_congr_left fun k _ => ?_
    simp only [Function.comp]
    split <;> rfl
  have hfield {α : Type} (f : State → α) := congrArg f hquiet
  refine ⟨?made, _, congrArg (fun t : State => Host.Outcome.next t.settle) (State.progressEnds_eq hfind hwrites false), ?_⟩
  case made =>
    refine congrArg (fun t : State => Host.Outcome.next t.settle) ((State.progressEnds_eq hfind hwrites true).trans ?_)
    exact State.makeWrite_eq _ a b
  rw [if_neg Bool.false_ne_true]
  refine ⟨congrArg Bus.log (State.bus_halt _ _), congrArg Causes.halt (hfield State.causes), (State.addrs_halt _ _).trans haddrs,
    fun p => Port.link_of_spine (State.spine_halt _ _ p), State.intake_halt _ _, hfield State.policy, hfield State.ref, hfield State.power,
    hfield State.controlRun, fun hnone => ⟨?cause, ?run, ?engine, ?settled, fun hnodup k hk hlane hstatus hresult => ?rejected,
      fun k hk hrun => ?aborted⟩, fun h hhalted => ?again⟩
  case cause =>
    refine (hfield State.halted).trans ?_
    exact congrArg (fun x : Option HaltCause => some (x.getD .busFault)) hnone
  case run =>
    rw [State.halt_of_running (s := s.modJob a _) hnone]
    exact State.frameRun_stopWork _ _
  case engine =>
    rw [State.halt_of_running (s := s.modJob a _) hnone]
    rfl
  case settled =>
    rw [State.halt_of_running (s := s.modJob a _) hnone, State.jobs_stopWork]
    exact fun k hk => isSome_of_mem_endWaiting hk
  case rejected =>
    have hmem : (if k.addr = a then { k with writes := rest } else k) ∈ (s.modJob a fun k => { k with writes := rest }).jobs :=
      List.mem_map.mpr ⟨k, hk, rfl⟩
    have hsame : (if k.addr = a then { k with writes := rest } else k).addr = k.addr ∧
        (if k.addr = a then { k with writes := rest } else k).lane = k.lane ∧
        (if k.addr = a then { k with writes := rest } else k).status = k.status ∧
        (if k.addr = a then { k with writes := rest } else k).result = k.result := by
      split <;> exact ⟨rfl, rfl, rfl, rfl⟩
    obtain ⟨haddr, hl, hs, hr⟩ := hsame
    have hnodup' : ((s.modJob a fun k => { k with writes := rest }).jobs.map Job.addr).Nodup := by
      rw [haddrs]
      exact hnodup
    rw [← haddr]
    exact State.outcomeOf_halt (s := s.modJob a fun k => { k with writes := rest }) hnone _ hnodup' hmem (hl.trans hlane) (hs.trans hstatus) (hr.trans hresult)
  case aborted =>
    obtain ⟨k', hk', haddr, hout⟩ := State.aborted_halt (s := s.modJob a fun k => { k with writes := rest }) hnone .busFault hrun
      (by rw [State.running_modWrites, hk]; rfl)
    refine ⟨k', hk', haddr.trans ?_, hout⟩
    dsimp only
    split <;> rfl
  case again =>
    rw [State.halt_of_halted (s := s.modJob a _) hhalted]
    exact ⟨hhalted, rfl, rfl, rfl⟩

/-! ## Completion (R160, R161) -/

section
variable {s : State}

/-- A completion write as the bus makes it (R160). -/
def Job.completionWrite (j : Job) (r : Result) (w : CompletionWrite) : BusWrite :=
  { addr := j.addr.toNat + (j.completionBytes r w).1, bytes := (j.completionBytes r w).2 }

/-- The bus after the waiting writes of a block and some writes of its completion (R159, R160). -/
theorem State.writeResult_eq (s : State) (j : Job) (r : Result) (ws : List CompletionWrite) :
    s.writeResult j r ws = { s with bus := { s.bus with log := (s.bus.log ++ j.writes.map (BlockWrite.made j.addr) ++
      ws.map (j.completionWrite r)) } } := by
  have hmade (bs : List BlockWrite) (u : State) : bs.foldl (fun s w => s.makeWrite j.addr w) u =
      { u with bus := { u.bus with log := u.bus.log ++ bs.map (BlockWrite.made j.addr) } } := by
    induction bs generalizing u with
    | nil => simp
    | cons b bs ih =>
      rw [List.foldl_cons, ih, State.makeWrite_eq]
      simp
  have hwritten (ws : List CompletionWrite) (u : State) :
      ws.foldl (fun s w => s.blockWrite j.addr (j.completionBytes r w).1 (j.completionBytes r w).2) u =
        { u with bus := { u.bus with log := u.bus.log ++ ws.map (j.completionWrite r) } } := by
    induction ws generalizing u with
    | nil => simp
    | cons w ws ih =>
      rw [List.foldl_cons, ih]
      simp [State.blockWrite, State.busWrite, Job.completionWrite]
  unfold State.writeResult
  simp only
  rw [hmade, hwritten]

/-- The list without the entry for a block. -/
def State.remaining (s : State) (a : Word) : List Job := s.jobs.filter (fun k => k.addr != a)

theorem State.leftList_keeps (s : State) (n : Nat) : ∃ i, s.leftList n = { s with intake := i } := by
  unfold State.leftList
  split
  · exact State.passStep_keeps _
  · exact ⟨_, rfl⟩

theorem looked_leaveList (s : State) (j : Job) {l : Lane} (h : j.lane = some l) :
    Looked l { s with jobs := s.remaining j.addr } (s.leaveList j) := by
  obtain ⟨i, hi⟩ := State.leftList_keeps { s with jobs := s.remaining j.addr } s.jobs.length
  have hleft : s.leaveList j = (({ s with jobs := s.remaining j.addr } : State).leftList s.jobs.length).look (some l) := by
    unfold State.leaveList
    rw [h]
    rfl
  rw [hleft, hi]
  exact looked_congr (looked_look { s with jobs := s.remaining j.addr, intake := i } l) rfl rfl rfl rfl rfl rfl rfl rfl

theorem State.leaveList_of_no_lane (s : State) {j : Job} (h : j.lane = none) :
    s.leaveList j = ({ s with jobs := s.remaining j.addr } : State).leftList s.jobs.length := by
  unfold State.leaveList
  rw [h]
  rfl

/-- Looking at a lane changes the jobs and what runs alone. -/
theorem State.look_keeps (s : State) (l : Option Lane) :
    ∃ js f c, s.look l = { s with jobs := js, frameRun := f, controlRun := c } ∧ js.map Job.addr = s.jobs.map Job.addr := by
  unfold State.look State.lookFrame State.lookControl
  split
  · exact ⟨_, _, _, rfl, rfl⟩
  all_goals
    split
    · exact ⟨_, _, _, rfl, rfl⟩
    · exact ⟨_, _, _, rfl, startOldest_addr _ _ _⟩

/-- An entry leaves: the list, the pass that a FULL list begins, and nothing else but the lane (R149, R160). -/
theorem State.leaveList_keeps (s : State) (j : Job) : ∃ js f c i, s.leaveList j = { s with jobs := js, frameRun := f, controlRun := c, intake := i } ∧
    js.map Job.addr = (s.remaining j.addr).map Job.addr ∧
    i = (({ s with jobs := s.remaining j.addr } : State).leftList s.jobs.length).intake := by
  obtain ⟨i, hi⟩ := State.leftList_keeps { s with jobs := s.remaining j.addr } s.jobs.length
  obtain ⟨js, f, c, hlook, haddr⟩ := State.look_keeps ({ s with jobs := s.remaining j.addr, intake := i }) j.lane
  refine ⟨js, f, c, i, ?_, haddr, by rw [hi]⟩
  unfold State.leaveList
  exact (congrArg (fun u : State => u.look j.lane) hi).trans hlook

/-- What the statement of completion says of a list that an entry leaves. -/
theorem State.leaves_leaveList (s : State) (j : Job) :
    (s.leaveList j).jobs.map Job.addr = (s.remaining j.addr).map Job.addr ∧
    (s.intake.state = .full → s.jobs.length = 8 → s.intake.enable = true → (s.leaveList j).intake.rescan = false ∧
      ((s.leaveList j).jobs.length < 8 → (s.leaveList j).intake.state = .scanning ∧ (s.leaveList j).intake.pass = .link)) ∧
    (s.intake.state ≠ .full → (s.leaveList j).intake = s.intake) := by
  obtain ⟨js, f, c, i, hleft, haddr, hi⟩ := s.leaveList_keeps j
  have hlength : js.length = (s.remaining j.addr).length := by
    have h := congrArg List.length haddr
    simpa only [List.length_map] using h
  rw [hleft]
  refine ⟨haddr, fun hfull hjobs henable => ?_, fun hstate => ?_⟩
  · have hbegun : i = s.intake.passBegun (s.remaining j.addr) := by
      rw [hi]
      unfold State.leftList
      rw [if_pos ⟨hjobs, hfull⟩]
      exact congrArg State.intake (State.beginPass_enabled (s := { s with jobs := s.remaining j.addr }) henable)
    rw [hbegun]
    unfold Intake.passBegun
    split
    · next hmany => exact ⟨rfl, fun hroom => absurd hmany (by rw [← hlength]; exact Nat.not_le.mpr hroom)⟩
    · exact ⟨rfl, fun _ => ⟨rfl, rfl⟩⟩
  · rw [hi]
    unfold State.leftList
    rw [if_neg fun h => hstate h.2]

theorem State.addrs_remaining (s : State) (a : Word) : (s.remaining a).map Job.addr = (s.jobs.map Job.addr).filter (· != a) := by
  unfold State.remaining
  rw [List.filter_map]
  rfl

/-- The five completion writes in their order (R160). -/
theorem completionOrder_map (j : Job) (r : Result) : completionOrder.map (j.completionWrite r) =
    [{ addr := j.addr.toNat + 49, bytes := [7] }, { addr := j.addr.toNat + 48, bytes := [r.outcome.code] },
     { addr := j.addr.toNat + 50, bytes := r.flags.bytes }, { addr := j.addr.toNat + 52, bytes := r.detail },
     { addr := j.addr.toNat + 0, bytes := [8, j.kind, j.flags &&& 1, 0] }] := rfl

/-- How many completion writes come before the failed one (R161). -/
def completionPlace : CompletionWrite → Nat
  | .finished => 0 | .outcome => 1 | .resultFlags => 2 | .detail => 3 | .done => 4

theorem writesBefore_eq (w : CompletionWrite) : writesBefore w = completionOrder.take (completionPlace w) := by
  cases w <;> rfl

theorem State.complete_eq {a : Word} {j : Job} {r : Result} (hfind : s.findJob a = some j) (hresult : j.result = some r) :
    s.complete a = (if j.notify then (s.writeResult j r completionOrder).raiseJob else s.writeResult j r completionOrder).leaveList j := by
  unfold State.complete
  rw [hfind]
  simp only
  rw [hresult]

theorem State.completionFails_eq {a : Word} {j : Job} {r : Result} (hfind : s.findJob a = some j) (hresult : j.result = some r)
    (w : CompletionWrite) : s.completionFails a w = ((s.writeResult j r (writesBefore w)).halt .busFault).leaveList j := by
  unfold State.completionFails
  rw [hfind]
  simp only
  rw [hresult]

theorem State.addr_of_findJob {a : Word} {j : Job} (h : s.findJob a = some j) : j.addr = a := by
  have hmatch := List.find?_some h
  exact beq_iff_eq.mp hmatch

end

/-- Settles O17: the bus log is that of the writes made, and the entry leaves as `leaveList` says, after a halt where one of them
fails. -/
theorem completionWritesTheBlock : Obligations.CompletionWritesTheBlock := by
  intro s a j r hfind hresult
  obtain rfl := State.addr_of_findJob hfind
  have hwritten (ws : List CompletionWrite) := s.writeResult_eq j r ws
  have hkept (ws : List CompletionWrite) : ∃ b, s.writeResult j r ws = { s with bus := b } := ⟨_, hwritten ws⟩
  refine ⟨⟨_, congrArg (fun t : State => Host.Outcome.next t.settle) (State.complete_eq hfind hresult), ?_⟩, fun failed => ⟨_,
    congrArg (fun t : State => Host.Outcome.next t.settle) (State.completionFails_eq hfind hresult failed), ?_⟩⟩
  · have hraised : (if j.notify then (s.writeResult j r completionOrder).raiseJob else s.writeResult j r completionOrder) =
        { s with bus := (s.writeResult j r completionOrder).bus, causes := { s.causes with job := s.causes.job || j.notify } } := by
      rw [hwritten]
      cases j.notify
      · rw [Bool.or_false]
        rfl
      · rw [Bool.or_true]
        rfl
    rw [hraised]
    generalize hu : ({ s with
      bus := (s.writeResult j r completionOrder).bus, causes := { s.causes with job := s.causes.job || j.notify } } : State) = u
    have hjobs : u.jobs = s.jobs := by rw [← hu]
    have hintake : u.intake = s.intake := by rw [← hu]
    have hlog : u.bus = (s.writeResult j r completionOrder).bus := by rw [← hu]
    have hcauses : u.causes = { s.causes with job := s.causes.job || j.notify } := by rw [← hu]
    have hruns : u.frameRun = s.frameRun ∧ u.controlRun = s.controlRun ∧ u.halted = s.halted ∧ u.power = s.power := by
      rw [← hu]
      exact ⟨rfl, rfl, rfl, rfl⟩
    obtain ⟨hframe, hcontrol, hhalted, hpower⟩ := hruns
    have hrest : u.remaining j.addr = s.remaining j.addr := congrArg (List.filter _) hjobs
    obtain ⟨haddrs, hfull, hother⟩ := u.leaves_leaveList j
    obtain ⟨js, f, c, i, hleft, -, -⟩ := u.leaveList_keeps j
    refine ⟨?log, ⟨by rw [haddrs, hrest]; rfl, ?_, ?_⟩, ?causes, fun l hl => ?looked, fun hlane => ?nolane⟩
    case log =>
      rw [hleft]
      show u.bus.log = _
      rw [hlog, hwritten, completionOrder_map]
    · rw [← hintake, ← hjobs]
      exact hfull
    · rw [← hintake]
      exact hother
    case causes =>
      rw [hleft]
      exact hcauses
    case looked =>
      exact looked_congr (looked_leaveList u j hl) hrest.symm hframe.symm hcontrol.symm hhalted.symm hpower.symm rfl rfl rfl
    case nolane =>
      rw [State.leaveList_of_no_lane u hlane]
      obtain ⟨i, hi⟩ := State.leftList_keeps { u with jobs := u.remaining j.addr } u.jobs.length
      rw [hi]
      exact ⟨hrest, hframe, hcontrol⟩
  · rw [hwritten]
    generalize hv : ({ s with bus := { s.bus with log := (s.bus.log ++ j.writes.map (BlockWrite.made j.addr) ++
      (writesBefore failed).map (j.completionWrite r)) } } : State) = v
    have hvlog : v.bus.log = s.bus.log ++ j.writes.map (BlockWrite.made j.addr) ++ (writesBefore failed).map (j.completionWrite r) := by
      rw [← hv]
    have hvjobs : v.jobs = s.jobs := by rw [← hv]
    have hvparts : v.intake = s.intake ∧ v.halted = s.halted ∧ v.causes = s.causes ∧ v.power = s.power ∧
        v.frameRun = s.frameRun ∧ v.controlRun = s.controlRun := by
      rw [← hv]
      exact ⟨rfl, rfl, rfl, rfl, rfl, rfl⟩
    obtain ⟨hvintake, hvhalted, hvcauses, hvpower, hvframe, hvcontrol⟩ := hvparts
    have hquiet := v.quiet_halt .busFault
    have hfield {α : Type} (f : State → α) := congrArg f hquiet
    have haddr : (v.halt .busFault).jobs.map Job.addr = s.jobs.map Job.addr := by rw [State.addrs_halt, hvjobs]
    have hlength : (v.halt .busFault).jobs.length = s.jobs.length := by
      have h := congrArg List.length haddr
      simpa only [List.length_map] using h
    have hrest : ((v.halt .busFault).remaining j.addr).map Job.addr = (s.remaining j.addr).map Job.addr := by
      rw [State.addrs_remaining, State.addrs_remaining, haddr]
    have hintake : (v.halt .busFault).intake = s.intake := (State.intake_halt _ _).trans hvintake
    obtain ⟨haddrs, hfull, hother⟩ := (v.halt .busFault).leaves_leaveList j
    obtain ⟨js, f, c, i, hleft, -, -⟩ := (v.halt .busFault).leaveList_keeps j
    have hbus : (v.halt .busFault).bus = v.bus := v.bus_halt .busFault
    have hcauses : (v.halt .busFault).causes = { s.causes with halt := true } := (hfield State.causes).trans (by rw [← hvcauses])
    have hhalted : (v.halt .busFault).halted = some (s.halted.getD .busFault) := (hfield State.halted).trans (by rw [← hvhalted])
    refine ⟨?log, ⟨haddrs.trans hrest, ?_, ?_⟩, ?halted, ?haltCause, ?jobCause, fun hh l hl => ?again, fun hnone hnodup l hl => ?stopped⟩
    case log =>
      rw [hleft]
      show (v.halt .busFault).bus.log = _
      rw [hbus, hvlog, writesBefore_eq, List.map_take, completionOrder_map]
      cases failed <;> rfl
    · rw [← hintake, ← hlength]
      exact hfull
    · rw [← hintake]
      exact hother
    case halted =>
      rw [hleft]
      exact hhalted
    case haltCause =>
      rw [hleft]
      show (v.halt .busFault).causes.halt = true
      rw [hcauses]
    case jobCause =>
      rw [hleft]
      show (v.halt .busFault).causes.job = s.causes.job
      rw [hcauses]
    case again =>
      obtain ⟨h, hh⟩ := Option.isSome_iff_exists.mp hh
      have hagain : v.halt .busFault = v.raiseHalt := State.halt_of_halted (hvhalted.trans hh) _
      rw [hagain]
      exact looked_congr (looked_leaveList v.raiseHalt j hl) (congrArg (List.filter _) hvjobs.symm) hvframe.symm hvcontrol.symm
        hvhalted.symm hvpower.symm rfl rfl rfl
    case stopped =>
      have hvnone : v.halted = none := hvhalted.trans hnone
      refine ⟨{ v.halt .busFault with jobs := (v.halt .busFault).remaining j.addr }, ?_, ?_, ?_, ?_, hrest, fun k hk hlane => ?_,
        looked_leaveList _ j hl⟩
      · exact (congrArg Option.isSome hhalted).trans rfl
      · exact (hfield State.power).trans hvpower
      · show (v.halt .busFault).frameRun = .idle
        rw [State.halt_of_running hvnone]
        exact State.frameRun_stopWork _ _
      · exact (hfield State.controlRun).trans hvcontrol
      · obtain ⟨hk, hne⟩ := List.mem_filter.mp hk
        refine List.mem_filter.mpr ⟨?_, hne⟩
        have hframe : k.lane ≠ some .frame := fun h => nomatch hlane.symm.trans h
        rw [← hvjobs] at hk hnodup
        rcases v.jobs_halt hvnone .busFault with ⟨-, hjobs⟩ | ⟨x, -, hjobs⟩
        · rw [hjobs]
          exact mem_endWaiting hk fun h => hframe h.1
        · rw [hjobs]
          exact mem_endWaiting (mem_handRunning_of_nodup hnodup hk fun h => hframe h.1) fun h => hframe h.1

end Sys2Proof.Machine

/-! SUPPORT. O19: the layer records of a SCENE as they are read and checked (R18, R20). -/
namespace Sys2Proof.Machine

/-! ## The checks of a record, in the order of R20 -/

/-- The first check of a list that fails, and its reason. -/
def firstFault (checks : List (Bool × Reason)) : Option Reason := (checks.find? Prod.fst).map Prod.snd

theorem firstFault_cons (b : Bool) (r : Reason) (checks : List (Bool × Reason)) :
    firstFault ((b, r) :: checks) = if b then some r else firstFault checks := by cases b <;> rfl

theorem firstFault_nil : firstFault [] = none := rfl

/-- The bytes per pixel of a format (R19), 0 without one. -/
theorem Layer.pixelBytes_eq (l : Layer) : l.pixelBytes =
    match l.format with | some .rgb565 => 2 | some .rgb888 => 3 | some .xrgb8888 => 4 | none => 0 := by
  unfold Layer.pixelBytes PixelFormat.bytes
  cases l.format with
  | none => rfl
  | some f => cases f <;> rfl

theorem not_dimOk_iff (m n : Nat) : (!(dimOk m && dimOk n)) = true ↔ m = 0 ∨ 4096 < m ∨ n = 0 ∨ 4096 < n := by
  simp only [dimOk, Bool.not_eq_true', Bool.and_eq_false_iff, decide_eq_false_iff_not]
  omega

/-- The checks of a SURFACE record (R20). -/
theorem Layer.surfaceFault_eq (l : Layer) : l.surfaceFault = firstFault
    [(l.format == none, .badLayer),
     (decide (l.width = 0 ∨ 4096 < l.width ∨ l.height = 0 ∨ 4096 < l.height), .badLayer),
     (decide (l.width < l.srcX + l.srcWidth ∨ l.height < l.srcY + l.srcHeight), .badLayer),
     (l.address == 0, .badLayer),
     (decide (l.address % 4 ≠ 0 ∨ l.stride % 4 ≠ 0), .badAlign),
     (decide (l.stride < l.width * l.pixelBytes), .badLayer),
     (decide (0xFFFFFFFF < l.address + l.stride * (l.height - 1) + l.width * l.pixelBytes - 1), .badLayer)] := by
  simp only [firstFault_cons, firstFault_nil]
  unfold Layer.surfaceFault
  refine if_congr (by simp) rfl (if_congr ?_ rfl (if_congr ?_ rfl (if_congr (by simp) rfl (if_congr ?_ rfl (if_congr ?_ rfl
    (if_congr ?_ rfl rfl))))))
  · rw [not_dimOk_iff, decide_eq_true_iff]
  · rw [Bool.or_eq_true, decide_eq_true_iff, decide_eq_true_iff, decide_eq_true_iff]
  · rw [Bool.or_eq_true, decide_eq_true_iff, decide_eq_true_iff, decide_eq_true_iff]
  · rw [decide_eq_true_iff]
  · rw [decide_eq_true_iff]

/-- The checks of a record of a known kind: the placed rectangle, then those of a SURFACE (R20). -/
theorem Layer.fault_eq {l : Layer} {k : LayerKind} (h : l.kind = some k) : l.fault =
    if l.scale ≠ 1 ∧ l.scale ≠ 2 then some .badLayer
    else if l.srcWidth = 0 ∨ 4096 < l.srcWidth ∨ l.srcHeight = 0 ∨ 4096 < l.srcHeight then some .badLayer
    else if 8192 < l.destX + l.srcWidth * l.scale then some .badLayer
    else if 8192 < l.destY + l.srcHeight * l.scale then some .badLayer
    else if k = .surface then l.surfaceFault else none := by
  unfold Layer.fault
  rw [h]
  refine if_congr Iff.rfl rfl (if_congr (not_dimOk_iff _ _) rfl (if_congr Iff.rfl rfl (if_congr Iff.rfl rfl ?_)))
  cases k <;> rfl

/-- The first failing record of a list (R20). -/
theorem layersFault_iff (n : Nat) (ls : List Layer) (i : Nat) (r : Reason) : layersFault n ls = some (i, r) ↔
    ∃ k, i = n + k ∧ ∃ l, ls[k]? = some l ∧ l.fault = some r ∧ ∀ k' < k, ∀ m, ls[k']? = some m → m.fault = none := by
  induction ls generalizing n with
  | nil => simp [layersFault]
  | cons l ls ih =>
    unfold layersFault
    cases hfault : l.fault with
    | some x =>
      simp only [Option.some.injEq, Prod.mk.injEq]
      constructor
      · rintro ⟨rfl, rfl⟩
        exact ⟨0, rfl, l, rfl, hfault, nofun⟩
      · rintro ⟨k, rfl, m, hm, hr, hbefore⟩
        cases k with
        | zero =>
          obtain rfl : l = m := Option.some.inj hm
          exact ⟨rfl, Option.some.inj (hfault.symm.trans hr)⟩
        | succ k => exact nomatch hfault.symm.trans (hbefore 0 (Nat.succ_pos k) l rfl)
    | none =>
      simp only
      rw [ih]
      constructor
      · rintro ⟨k, rfl, m, hm, hr, hbefore⟩
        refine ⟨k + 1, by omega, m, hm, hr, fun k' hk' m' hm' => ?_⟩
        cases k' with
        | zero =>
          obtain rfl : l = m' := Option.some.inj hm'
          exact hfault
        | succ k' => exact hbefore k' (Nat.lt_of_succ_lt_succ hk') m' hm'
      · rintro ⟨k, rfl, m, hm, hr, hbefore⟩
        cases k with
        | zero =>
          obtain rfl : l = m := Option.some.inj hm
          exact nomatch hfault.symm.trans hr
        | succ k => exact ⟨k, by omega, m, hm, hr, fun k' hk' m' hm' => hbefore (k' + 1) (Nat.succ_lt_succ hk') m' hm'⟩

/-! ## The read of a record -/

section
variable {s : State} {j : Job} {ls : List Layer} (hrun : s.frameRun = .layers ls) (hj : s.running .frame = some j)
include hrun hj

theorem exec_layerRecordRead_busError : exec (.layerRecordRead none) s =
    .next (s.completeFrame (plainResult .busError (detailBusError .layerList ls.length none 0 0))).settle := by
  simp only [exec, execLayerRecordRead, hrun, hj, State.settled]

theorem exec_layerRecordRead_more {bs : Vector Byte 32} (h : ls.length + 1 < j.byte 20) :
    exec (.layerRecordRead (some bs)) s = .next { s with frameRun := .layers (ls ++ [decodeLayer bs.toList]) } := by
  simp only [exec, execLayerRecordRead, hrun, hj, List.length_append, List.length_singleton, if_pos h]

theorem exec_layerRecordRead_last {bs : Vector Byte 32} (h : j.byte 20 ≤ ls.length + 1) :
    exec (.layerRecordRead (some bs)) s = .next (s.checkLayers j (ls ++ [decodeLayer bs.toList])).settle := by
  simp only [exec, execLayerRecordRead, hrun, hj, List.length_append, List.length_singleton, if_neg (Nat.not_lt.mpr h), State.settled]

theorem State.listRead_layers : s.listRead = some { address := (j.word 16).toNat + 32 * ls.length, length := 32 } := by
  simp only [State.listRead, hrun, hj, Job.layerRead]

end

/-- Settles O19: the equations of the read, the search for the first failing record, and the checks of a record in their order. -/
theorem layerRecordsAreRead : Obligations.LayerRecordsAreRead := by
  refine ⟨fun s j ls hrun hj => ⟨State.listRead_layers hrun hj, exec_layerRecordRead_busError hrun hj, fun bs =>
    ⟨exec_layerRecordRead_more hrun hj, fun hlast i r hfault => ?_, fun hlast hpass => ?_⟩⟩, fun ls i r => ?_, fun l => ?_⟩
  · rw [exec_layerRecordRead_last hrun hj hlast, State.checkLayers, hfault]
  · rw [exec_layerRecordRead_last hrun hj hlast, State.checkLayers, hpass]
  · rw [layersFault_iff]
    simp
  · show l.fault = firstFault _
    cases hkind : l.kind with
    | none =>
      unfold Layer.fault
      rw [hkind]
      rfl
    | some k =>
      rw [Layer.fault_eq hkind, Layer.surfaceFault_eq, Layer.pixelBytes_eq]
      simp only [firstFault_cons, firstFault_nil]
      refine Eq.trans ?_ (if_neg (by simp)).symm
      refine if_congr (by simp) rfl (if_congr (by simp) rfl (if_congr (by simp) rfl (if_congr (by simp) rfl ?_)))
      cases k with
      | fill => rfl
      | surface => rfl

end Sys2Proof.Machine

/-! SUPPORT. O20: masks, what delivery leaves alone outside the ports and the engine, and LAYERS_READ (R21–R23, R43, R54, R56). -/
namespace Sys2Proof.Machine

/-! ## Masks -/

theorem Mask.has_bitOf (i t : Fin 12) : Mask.has (bitOf i) t = decide (i = t) := by
  revert i t
  decide

theorem Mask.has_or (a b : Mask) (t : Fin 12) : Mask.has (a ||| b) t = (Mask.has a t || Mask.has b t) := BitVec.getLsbD_or
theorem Mask.has_and (a b : Mask) (t : Fin 12) : Mask.has (a &&& b) t = (Mask.has a t && Mask.has b t) := BitVec.getLsbD_and
theorem Mask.has_not (a : Mask) (t : Fin 12) : Mask.has (~~~a) t = !Mask.has a t := by
  rw [Mask.has, BitVec.getLsbD_not, decide_eq_true t.isLt, Bool.true_and]
  rfl
@[simp] theorem Mask.has_zero (t : Fin 12) : Mask.has 0 t = false := BitVec.getLsbD_zero

theorem Mask.ext {a b : Mask} (h : ∀ t, Mask.has a t = Mask.has b t) : a = b :=
  BitVec.eq_of_getLsbD_eq fun i hi => h ⟨i, hi⟩

theorem Mask.has_maskOf (f : Fin 12 → Bool) (t : Fin 12) : Mask.has (maskOf f) t = f t := by
  have hfold (ids : List (Fin 12)) (m : Mask) :
      Mask.has (ids.foldl (fun m i => if f i then m ||| bitOf i else m) m) t = (Mask.has m t || (decide (t ∈ ids) && f t)) := by
    induction ids generalizing m with
    | nil => simp
    | cons i ids ih =>
      rw [List.foldl_cons, ih]
      by_cases hi : i = t
      · subst hi
        cases f i <;> simp [Mask.has_or, Mask.has_bitOf]
      · cases f i <;> simp [Mask.has_or, Mask.has_bitOf, hi, Ne.symm hi]
  unfold maskOf
  rw [hfold, Mask.has_zero, decide_eq_true (mem_allIds t)]
  simp

theorem mem_idsOf {m : Mask} {t : Fin 12} : t ∈ idsOf m ↔ Mask.has m t = true := by
  simp [idsOf, mem_allIds]

theorem nodup_idsOf (m : Mask) : (idsOf m).Nodup := nodup_allIds.filter _

theorem Mask.eq_zero_iff {m : Mask} : m = 0 ↔ ∀ t, Mask.has m t = false :=
  ⟨fun h t => h ▸ Mask.has_zero t, fun h => Mask.ext fun t => (h t).trans (Mask.has_zero t).symm⟩

/-! ## The state but for its ports and the engine -/

/-- The state but for its ports and the composition engine. -/
def State.sheet (s : State) : State :=
  { s with ports := Vector.replicate 12 Port.reset, composer := { s.composer with engine := .free } }

section
variable (s : State)

@[simp] theorem State.sheet_setPort (p x) : (s.setPort p x).sheet = s.sheet := rfl
@[simp] theorem State.sheet_modPort (p f) : (s.modPort p f).sheet = s.sheet := rfl
@[simp] theorem State.sheet_queueDiscard (t e) : (s.queueDiscard t e).sheet = s.sheet := by
  unfold State.queueDiscard
  split <;> rfl
@[simp] theorem State.sheet_releaseEngine (p) : (s.releaseEngine p).sheet = s.sheet := by
  unfold State.releaseEngine
  repeat' split
  all_goals rfl
@[simp] theorem State.sheet_freeTile (t) : (s.freeTile t).sheet = s.sheet := by
  unfold State.freeTile
  split
  · rfl
  · exact State.sheet_releaseEngine _ _
@[simp] theorem State.sheet_stopDelivery (e t) : (s.stopDelivery e t).sheet = s.sheet := by
  unfold State.stopDelivery
  simp only
  split <;> simp
@[simp] theorem State.sheet_endAtTile (e t) : (s.endAtTile e t).sheet = s.sheet := by
  have hfreed := s.sheet_freeTile t
  unfold State.endAtTile
  refine ite_keeps State.sheet ?_ ?_
  · rw [State.sheet_queueDiscard]
    split
    · exact hfreed
    · split <;> exact hfreed
  · split
    · exact hfreed
    · split <;> exact hfreed
@[simp] theorem State.sheet_discardOld (t) : (s.discardOld t).sheet = s.sheet := by
  unfold State.discardOld
  split <;> simp

end

theorem State.tile_of_sheet {s t : State} (h : t.sheet = s.sheet) (i : TileId) : t.tile i = s.tile i := by
  have htiles := congrArg State.tiles h
  exact congrArg (fun ts : Vector Tile 12 => ts[i.val]) htiles

theorem State.armedMask_of_sheet {s t : State} (h : t.sheet = s.sheet) (r : SceneRec) : t.armedMask r = s.armedMask r := by
  unfold State.armedMask
  simp only [State.tile_of_sheet h]

/-! ## DISCARDs that wait or are outstanding -/

/-- No port's link changes, and no DISCARD waiting or outstanding is lost. -/
def State.Gains (s t : State) : Prop := ∀ p : PortId, (t.port p).link = (s.port p).link ∧
  ∀ x, (s.port p).hasDiscard x = true → (t.port p).hasDiscard x = true

/-- A change of a port that keeps its link and loses no DISCARD. -/
def Port.Gains (x y : Port) : Prop := y.link = x.link ∧ ∀ e, x.hasDiscard e = true → y.hasDiscard e = true

theorem Port.Gains.refl (x : Port) : x.Gains x := ⟨Eq.refl _, fun _ h => h⟩
theorem Port.Gains.trans {x y z : Port} (h : x.Gains y) (k : y.Gains z) : x.Gains z :=
  ⟨k.1.trans h.1, fun e he => k.2 e (h.2 e he)⟩

theorem State.Gains.refl (s : State) : s.Gains s := fun _ => Port.Gains.refl _
theorem State.Gains.trans {s t u : State} (h : s.Gains t) (k : t.Gains u) : s.Gains u := fun p => Port.Gains.trans (h p) (k p)

theorem State.gains_of_ports {s t : State} (h : t.ports = s.ports) : s.Gains t := fun p => by
  rw [State.port_of_ports h p]
  exact Port.Gains.refl _

theorem State.gains_modPort (s : State) (p : PortId) {f : Port → Port} (h : (s.port p).Gains (f (s.port p))) :
    s.Gains (s.modPort p f) := fun q => by
  rw [State.port_modPort]
  split
  · next hq => exact hq ▸ h
  · exact Port.Gains.refl _

theorem Port.hasDiscard_iff (x : Port) (e : Epoch) :
    x.hasDiscard e = true ↔ .discard e ∈ x.queue ∨ ∃ o ∈ x.window, o.packet = .discard e := by
  simp [Port.hasDiscard, List.any_eq_true]

theorem Port.gains_enqueue (x : Port) (k : Reliable) : x.Gains (x.enqueue k) := by
  unfold Port.enqueue
  split
  · exact Port.Gains.refl x
  · refine ⟨rfl, fun e he => ?_⟩
    rw [Port.hasDiscard_iff] at he ⊢
    exact he.imp (List.mem_append_left _) id

theorem Port.gains_dropQueued (x : Port) {f : Reliable → Bool} (h : ∀ e, f (.discard e) = false) : x.Gains (x.dropQueued f) := by
  refine ⟨rfl, fun e he => ?_⟩
  rw [Port.hasDiscard_iff] at he ⊢
  exact he.imp (fun hmem => List.mem_filter.mpr ⟨hmem, by rw [h e]; rfl⟩) id

theorem Port.gains_freeBuf (x : Port) (b : BufId) : x.Gains (x.freeBuf b) := by
  unfold Port.freeBuf
  split
  · exact Port.Gains.refl x
  all_goals
    cases b <;> exact ⟨rfl, fun _ h => h⟩

theorem Port.gains_freeUnsent (x : Port) : x.Gains x.freeUnsent := by
  have hdrop (y : Port) (b : BufId) : y.Gains (match y.buf b with
      | .composing _ | .ready _ => y.freeBuf b
      | .free | .sent _ => y) := by
    split
    · exact y.gains_freeBuf b
    · exact y.gains_freeBuf b
    all_goals exact Port.Gains.refl y
  exact ((hdrop x .first).trans (hdrop _ .second)).trans (Port.gains_dropQueued _ fun _ => rfl)

section
variable (s : State)

theorem State.gains_releaseEngine (p) : s.Gains (s.releaseEngine p) := by
  refine State.gains_of_ports ?_
  unfold State.releaseEngine
  repeat' split
  all_goals rfl

theorem State.gains_queueDiscard (t e) : s.Gains (s.queueDiscard t e) := by
  unfold State.queueDiscard
  split
  · exact State.Gains.refl s
  · refine s.gains_modPort _ ?_
    split
    · exact Port.Gains.refl _
    · exact Port.gains_enqueue _ _

theorem State.gains_freeTile (t) : s.Gains (s.freeTile t) := by
  unfold State.freeTile
  split
  · exact State.Gains.refl s
  · exact (s.gains_modPort _ (Port.gains_freeUnsent _)).trans (State.gains_releaseEngine _ _)

theorem State.gains_stopDelivery (e t) : s.Gains (s.stopDelivery e t) := by
  unfold State.stopDelivery
  simp only
  split
  · exact (s.gains_freeTile t).trans (State.gains_queueDiscard _ t e)
  · exact s.gains_freeTile t

theorem State.gains_endAtTile (e t) : s.Gains (s.endAtTile e t) := by
  have hqueued {u : State} (hu : s.Gains u) : s.Gains (if (u.tile t).back.holds e then u.queueDiscard t e else u) := by
    split
    · exact hu.trans (State.gains_queueDiscard _ t e)
    · exact hu
  have hfreed := s.gains_freeTile t
  unfold State.endAtTile
  refine hqueued ?_
  split
  · exact hfreed
  · split
    · exact hfreed
    · exact hfreed.trans (State.gains_modPort _ _ (Port.gains_dropQueued _ fun _ => rfl))

theorem State.gains_discardOld (t) : s.Gains (s.discardOld t) := by
  unfold State.discardOld
  split
  · exact State.Gains.refl s
  · exact s.gains_queueDiscard t _

theorem State.gains_foldl {β : Type} (f : State → β → State) (h : ∀ u b, State.Gains u (f u b)) (bs : List β) : s.Gains (bs.foldl f s) := by
  induction bs generalizing s with
  | nil => exact State.Gains.refl s
  | cons b bs ih => exact (h s b).trans (ih (f s b))

end

/-- A DISCARD handed to a port that is not OFF is there (R43). -/
theorem State.hasDiscard_queueDiscard {s : State} {t : TileId} {p : PortId} (hport : (s.tile t).geom.port = some p)
    (hlink : (s.port p).link ≠ .off) (e : Epoch) : ((s.queueDiscard t e).port p).hasDiscard e = true := by
  unfold State.queueDiscard
  rw [hport]
  simp only [State.port_modPort_self]
  split
  · assumption
  · rw [Port.hasDiscard_iff]
    left
    unfold Port.enqueue
    rw [if_neg hlink]
    exact List.mem_append_right _ List.mem_cons_self

/-- After a loop over tiles that queues the DISCARD of each one's old epoch, every one of them is there (R43). -/
theorem State.hasDiscard_discardAll {s : State} {ids : List TileId} {t : TileId} (ht : t ∈ ids) {p : PortId}
    (hport : (s.tile t).geom.port = some p) (hlink : (s.port p).link ≠ .off) {x : Epoch} (hx : (s.tile t).back.epoch? = some x) :
    ((s.forEach ids fun i u => u.discardOld i).port p).hasDiscard x = true := by
  unfold State.forEach
  induction ids generalizing s with
  | nil => exact nomatch ht
  | cons i ids ih =>
    rw [List.foldl_cons]
    by_cases hi : i = t
    · subst hi
      have hqueued : ((s.discardOld i).port p).hasDiscard x = true := by
        unfold State.discardOld
        rw [hx]
        exact State.hasDiscard_queueDiscard hport hlink x
      exact (State.gains_foldl _ _ (fun u b => u.gains_discardOld b) ids p).2 x hqueued
    · have htile := State.tile_of_sheet (s.sheet_discardOld i) t
      refine ih ((List.mem_cons.mp ht).resolve_left (Ne.symm hi)) (by rw [htile]; exact hport) ?_ (by rw [htile]; exact hx)
      rw [(s.gains_discardOld i p).1]
      exact hlink

/-! ## LAYERS_READ (R22, R23, R43, R54) -/

section
variable (s : State) (j : Job) (layers : List Layer) (participants : Mask)

/-- The state at LAYERS_READ before its PROGRESS write: the epoch taken, the active table and the scene record (R22, R23, R54). -/
def State.epochTaken : State :=
  { s with
    epochCounter := s.epochCounter + 1
    composer := { s.composer with
      active := some { epoch := s.epochCounter + 1, background := colourAt j.params.toList 12, layers := layers } }
    frameRun := .scene (newScene j (s.epochCounter + 1) participants) }

/-- The state at LAYERS_READ before LOST participants are dropped. -/
def State.discarded : State :=
  ((s.epochTaken j layers participants).writeProgress .layersRead).forEach (idsOf participants) fun t u => u.discardOld t

theorem State.sheet_discarded : (s.discarded j layers participants).sheet =
    ((s.epochTaken j layers participants).writeProgress .layersRead).sheet :=
  State.forEach_keeps State.sheet _ (fun t u => u.sheet_discardOld t) _ _

theorem State.ports_writeProgress (s : State) (v) : (s.writeProgress v).ports = s.ports := by
  unfold State.writeProgress
  split <;> rfl

theorem State.gains_discarded : s.Gains (s.discarded j layers participants) :=
  (State.gains_of_ports (s := s) (State.ports_writeProgress (s.epochTaken j layers participants) .layersRead)).trans
    (State.gains_foldl _ _ (fun u b => u.gains_discardOld b) _)

end

section
variable {s : State} {j : Job} {layers : List Layer} {participants : Mask}

theorem State.writeProgress_eq (h : s.running .frame = some j) (v : Progress) :
    s.writeProgress v = s.modJob j.addr (Job.addWrite (.progress v)) := by
  unfold State.writeProgress
  rw [h]

/-- What LAYERS_READ has settled before LOST participants are dropped. -/
theorem State.discarded_fields (hj : s.running .frame = some j) :
    (s.discarded j layers participants).epochCounter = s.epochCounter + 1 ∧
    (s.discarded j layers participants).presented = s.presented ∧
    (s.discarded j layers participants).tiles = s.tiles ∧
    (s.discarded j layers participants).jobs = (s.modJob j.addr (Job.addWrite (.progress .layersRead))).jobs ∧
    (s.discarded j layers participants).frameRun = .scene (newScene j (s.epochCounter + 1) participants) ∧
    (s.discarded j layers participants).composer.active =
      some { epoch := s.epochCounter + 1, background := colourAt j.params.toList 12, layers := layers } := by
  have hsheet := s.sheet_discarded j layers participants
  rw [State.writeProgress_eq (s := s.epochTaken j layers participants) hj] at hsheet
  have hfield {α : Type} (f : State → α) := congrArg f hsheet
  exact ⟨hfield State.epochCounter, hfield State.presented, hfield State.tiles, hfield State.jobs, hfield State.frameRun,
    hfield fun u => u.composer.active⟩

/-- No participant is ARMED for an epoch that has just been taken. -/
theorem State.armedMask_new (h : ∀ i x, (s.tile i).back = .armed x → x ≤ s.epochCounter) (hcounter : s.epochCounter ≠ BitVec.allOnes 64)
    {r : SceneRec} (hr : r.epoch = s.epochCounter + 1) : s.armedMask r = 0 := by
  refine Mask.eq_zero_iff.mpr fun t => ?_
  unfold State.armedMask
  rw [Mask.has_maskOf]
  refine Bool.eq_false_iff.mpr fun k => ?_
  have harmed := (Bool.and_eq_true_iff.mp k).2
  have hback : (s.tile t).back = .armed r.epoch := beq_iff_eq.mp harmed
  exact absurd (h t _ hback) (BitVec.not_le.mpr (hr ▸ Epoch.lt_succ hcounter))

/-- Dropping nobody changes nothing (R56). -/
theorem State.dropTiles_none {r : SceneRec} (hr : s.scene = some r) {m : Mask} (hm : m &&& r.participants &&& ~~~r.dropped = 0) (c) :
    s.dropTiles m c = s := by
  unfold State.dropTiles
  rw [hr]
  simp only
  rw [if_pos (by rw [hm]; simp)]

/-- Participants that are delivered to are dropped together, and the arming rule is applied (R56). -/
theorem State.dropTiles_some {r : SceneRec} (hr : s.scene = some r) (hd : r.stage.delivering? = true) {m d : Mask}
    (hm : m &&& r.participants &&& ~~~r.dropped = d) (hd0 : d ≠ 0) (c) :
    s.dropTiles m c = ((idsOf d).foldl (fun u t => u.stopDelivery r.epoch t)
      (s.modScene fun r => { r with dropped := r.dropped ||| d, lastDrop := some c })).armingRule := by
  unfold State.dropTiles
  rw [hr]
  simp only
  rw [hm, if_neg]
  simp only [hd, Bool.not_true, Bool.false_or, beq_iff_eq]
  exact hd0

end

/-! ## The end of a scene -/

section
variable {s : State} {r : SceneRec}

/-- The state after delivery of the scene's epoch has ended at every participant. -/
def State.endedAtTiles (s : State) (r : SceneRec) : State := (idsOf r.participants).foldl (fun u t => u.endAtTile r.epoch t) s

theorem State.sheet_endedAtTiles (s : State) (r : SceneRec) : (s.endedAtTiles r).sheet = s.sheet :=
  foldl_keeps State.sheet _ (fun u t => u.sheet_endAtTile r.epoch t) _ _

theorem State.gains_endedAtTiles (s : State) (r : SceneRec) : s.Gains (s.endedAtTiles r) :=
  State.gains_foldl _ _ (fun u t => u.gains_endAtTile r.epoch t) _

theorem State.endSceneWith_eq (s : State) (r : SceneRec) (x : Result) : s.endSceneWith r x = (s.endedAtTiles r).completeScene x := rfl

@[simp] theorem State.ports_completeScene (s : State) (x) : (s.completeScene x).ports = s.ports := s.completeFrame_ports x
@[simp] theorem State.tiles_completeScene (s : State) (x) : (s.completeScene x).tiles = s.tiles := by
  unfold State.completeScene State.completeFrame
  split <;> rfl
@[simp] theorem State.epochCounter_completeScene (s : State) (x) : (s.completeScene x).epochCounter = s.epochCounter :=
  s.completeFrame_epochCounter x
@[simp] theorem State.presented_completeScene (s : State) (x) : (s.completeScene x).presented = s.presented := by
  unfold State.completeScene State.completeFrame
  split <;> rfl
@[simp] theorem State.frameRun_completeScene (s : State) (x) : (s.completeScene x).frameRun = .idle := s.completeFrame_frameRun x
@[simp] theorem State.active_completeScene (s : State) (x) : (s.completeScene x).composer.active = none := rfl

theorem State.gains_endSceneWith (s : State) (r x) : s.Gains (s.endSceneWith r x) :=
  (s.gains_endedAtTiles r).trans (State.gains_of_ports (State.ports_completeScene _ x))

/-- A job whose entry is found keeps its writes under what hands out results. -/
theorem findJob_handRunning_writes {js : List Job} (l : Lane) (x : Result) (a : Word) :
    ((handRunning l x js).find? (fun k => k.addr == a)).map Job.writes = (js.find? (fun k => k.addr == a)).map Job.writes := by
  unfold handRunning
  split
  · rfl
  · next j hj =>
    have hsame : (fun k : Job => k.addr == a) ∘ (fun k => if k.addr = j.addr then k.hand x else k) = fun k => k.addr == a := by
      funext k
      simp only [Function.comp]
      split
      · rw [Job.hand_addr]
      · rfl
    rw [List.find?_map, hsame, Option.map_map]
    refine congrArg (fun g => Option.map g _) (funext fun k => ?_)
    simp only [Function.comp]
    split
    · unfold Job.hand
      split <;> rfl
    · rfl

end

/-! ## Fixing the participants -/

section
variable {s : State} {j : Job} {layers : List Layer} {participants : Mask}

/-- The participants whose port is LOST, as the drop at LAYERS_READ finds them. -/
theorem State.lost_discarded (hj : s.running .frame = some j) : participants &&& maskOf (fun t =>
    match ((s.discarded j layers participants).tile t).geom.port with
    | none => false
    | some p => ((s.discarded j layers participants).port p).link == .lost) = s.targetsIn participants .lost := by
  obtain ⟨-, -, htiles, -⟩ := State.discarded_fields (layers := layers) (participants := participants) hj
  have htile (t : TileId) : (s.discarded j layers participants).tile t = s.tile t :=
    congrArg (fun ts : Vector Tile 12 => ts[t.val]) htiles
  refine Mask.ext fun t => ?_
  unfold State.targetsIn
  rw [Mask.has_and, Mask.has_maskOf, Mask.has_maskOf, htile]
  cases (s.tile t).geom.port with
  | none => rfl
  | some p =>
    simp only
    rw [(s.gains_discarded j layers participants p).1]

theorem State.layersRead_eq : s.layersRead j layers participants =
    (s.discarded j layers participants).dropTiles (participants &&& maskOf (fun t =>
      match ((s.discarded j layers participants).tile t).geom.port with
      | none => false
      | some p => ((s.discarded j layers participants).port p).link == .lost)) .lost := rfl

/-- The entry of the running job after its PROGRESS write has been queued. -/
theorem State.findJob_addWrite (s : State) (a : Word) (w : BlockWrite) :
    ((s.modJob a (Job.addWrite w)).findJob a).map Job.writes = (s.findJob a).map fun k => k.writes ++ [w] := by
  rw [State.findJob_modJob s a a (Job.addWrite w) (fun _ => rfl)]
  cases hfind : s.findJob a with
  | none => rfl
  | some k => simp [State.addr_of_findJob hfind, Job.addWrite]

theorem State.running_modJob (s : State) (a : Word) {f : Job → Job}
    (hf : ∀ k, (f k).lane = k.lane ∧ (f k).status = k.status ∧ (f k).result = k.result) (l : Lane) :
    (s.modJob a f).running l = (s.running l).map fun k => if k.addr = a then f k else k := by
  unfold State.running State.modJob
  rw [List.find?_map]
  refine congrArg (Option.map _) (congrArg (fun p => List.find? p s.jobs) (funext fun k => ?_))
  obtain ⟨hlane, hstatus, hresult⟩ := hf k
  simp only [Function.comp]
  split
  · rw [hlane, hstatus, hresult]
  · rfl

/-- Where the running job of a lane has been handed a result, its entry shows it. -/
theorem State.findJob_of_handRunning {s t : State} {l : Lane} {x : Result} (hjobs : t.jobs = handRunning l x s.jobs) {k : Job}
    (hrun : s.running l = some k) (hfind : s.findJob k.addr = some k) : t.findJob k.addr = some { k with result := some x } := by
  have hhanded : t.jobs = (s.hand k.addr x).jobs := by
    rw [hjobs]
    unfold handRunning
    rw [show s.jobs.find? (fun j => j.lane == some l && j.status == .running && j.result.isNone) = some k from hrun]
    rfl
  have hentry := State.findJob_hand hfind (State.result_of_running hrun) x
  unfold State.findJob at hentry ⊢
  rw [hhanded]
  exact hentry

end

/-! ## The drop of the LOST participants -/

section
variable {s : State} {j : Job} {layers : List Layer} {participants : Mask}

theorem State.composer_queueDiscard (s : State) (t e) : (s.queueDiscard t e).composer = s.composer := by
  unfold State.queueDiscard
  split <;> rfl

theorem State.composer_discarded (hj : s.running .frame = some j) : (s.discarded j layers participants).composer =
    { s.composer with
      active := some { epoch := s.epochCounter + 1, background := colourAt j.params.toList 12, layers := layers } } := by
  have hkept (t : TileId) (u : State) : (u.discardOld t).composer = u.composer := by
    unfold State.discardOld
    split
    · rfl
    · exact State.composer_queueDiscard _ _ _
  refine (State.forEach_keeps State.composer _ hkept _ _).trans ?_
  rw [State.writeProgress_eq (s := s.epochTaken j layers participants) hj]
  rfl

theorem State.targetsIn_and (s : State) (m : Mask) (l : LinkState) : s.targetsIn m l &&& m = s.targetsIn m l := by
  refine Mask.ext fun t => ?_
  unfold State.targetsIn
  rw [Mask.has_and, Mask.has_maskOf]
  cases Mask.has m t <;> simp

/-- The scene at LAYERS_READ with its LOST participants dropped, before the arming rule (R56). -/
def State.lostDropped (s : State) (j : Job) (layers : List Layer) (participants : Mask) : State :=
  (idsOf (s.targetsIn participants .lost)).foldl (fun u t => u.stopDelivery (s.epochCounter + 1) t)
    ((s.discarded j layers participants).modScene fun r =>
      { r with dropped := r.dropped ||| s.targetsIn participants .lost, lastDrop := some .lost })

/-- The scene record with the LOST participants dropped. -/
def lostScene (s : State) (j : Job) (participants : Mask) : SceneRec :=
  { newScene j (s.epochCounter + 1) participants with dropped := s.targetsIn participants .lost, lastDrop := some .lost }

/-- What LAYERS_READ has settled, whatever becomes of the LOST participants. -/
def State.ReadsOn (s : State) (j : Job) (layers : List Layer) (participants : Mask) (t : State) : Prop :=
  t.epochCounter = s.epochCounter + 1 ∧ t.presented = s.presented ∧ t.tiles = s.tiles ∧
    (t.findJob j.addr).map Job.writes = (s.findJob j.addr).map (fun k => k.writes ++ [.progress .layersRead]) ∧
    (s.discarded j layers participants).Gains t

theorem State.findJob_of_jobs {s t : State} (h : t.jobs = s.jobs) (a : Word) : t.findJob a = s.findJob a := by
  unfold State.findJob
  rw [h]

theorem State.running_of_jobs {s t : State} (h : t.jobs = s.jobs) (l : Lane) : t.running l = s.running l := by
  unfold State.running
  rw [h]

theorem State.readsOn_discarded (hj : s.running .frame = some j) :
    s.ReadsOn j layers participants (s.discarded j layers participants) := by
  obtain ⟨hcounter, hpresented, htiles, hjobs, -, -⟩ := State.discarded_fields (layers := layers) (participants := participants) hj
  exact ⟨hcounter, hpresented, htiles, by rw [State.findJob_of_jobs hjobs, State.findJob_addWrite], State.Gains.refl _⟩

theorem State.scene_discarded (hj : s.running .frame = some j) :
    (s.discarded j layers participants).scene = some (newScene j (s.epochCounter + 1) participants) :=
  State.scene_eq_some.mpr (State.discarded_fields hj).2.2.2.2.1

theorem State.sheet_lostDropped (s : State) (j layers participants) : (s.lostDropped j layers participants).sheet =
    ((s.discarded j layers participants).modScene fun r =>
      { r with dropped := r.dropped ||| s.targetsIn participants .lost, lastDrop := some .lost }).sheet :=
  foldl_keeps State.sheet _ (fun u t => u.sheet_stopDelivery (s.epochCounter + 1) t) _ _

theorem State.lostDropped_eq (hj : s.running .frame = some j) : (s.discarded j layers participants).modScene (fun r =>
      { r with dropped := r.dropped ||| s.targetsIn participants .lost, lastDrop := some .lost }) =
    { s.discarded j layers participants with frameRun := .scene (lostScene s j participants) } := by
  have hscene := (State.discarded_fields (layers := layers) (participants := participants) hj).2.2.2.2.1
  unfold State.modScene
  rw [hscene]
  have hzero : (0 : Mask) ||| s.targetsIn participants .lost = s.targetsIn participants .lost := BitVec.zero_or
  simp only [newScene, hzero]
  rfl

theorem State.lostDropped_fields (hj : s.running .frame = some j) :
    s.ReadsOn j layers participants (s.lostDropped j layers participants) ∧
    (s.lostDropped j layers participants).scene = some (lostScene s j participants) ∧
    (s.lostDropped j layers participants).jobs = (s.discarded j layers participants).jobs ∧
    (s.lostDropped j layers participants).composer.active = (s.discarded j layers participants).composer.active := by
  obtain ⟨hcounter, hpresented, htiles, hwrites, -⟩ := State.readsOn_discarded (layers := layers) (participants := participants) hj
  have hsheet := s.sheet_lostDropped j layers participants
  rw [State.lostDropped_eq hj] at hsheet
  have hfield {α : Type} (f : State → α) := congrArg f hsheet
  have hgains : (s.discarded j layers participants).Gains (s.lostDropped j layers participants) := by
    unfold State.lostDropped
    rw [State.lostDropped_eq hj]
    exact State.Gains.trans (State.gains_of_ports rfl) (State.gains_foldl _ _ (fun u t => u.gains_stopDelivery _ t) _)
  refine ⟨⟨(hfield State.epochCounter).trans hcounter, (hfield State.presented).trans hpresented,
    (hfield State.tiles).trans htiles, ?_, hgains⟩, State.scene_eq_some.mpr (hfield State.frameRun), hfield State.jobs,
    hfield fun u => u.composer.active⟩
  have hjobs : (s.lostDropped j layers participants).jobs = (s.discarded j layers participants).jobs := hfield State.jobs
  rw [State.findJob_of_jobs hjobs]
  exact hwrites

/-- The end of the new scene keeps what LAYERS_READ has settled. -/
theorem State.readsOn_endSceneWith {t : State} (h : s.ReadsOn j layers participants t) (r : SceneRec) (x : Result) :
    s.ReadsOn j layers participants (t.endSceneWith r x) := by
  obtain ⟨hcounter, hpresented, htiles, hwrites, hgains⟩ := h
  have hsheet := t.sheet_endedAtTiles r
  have hfield {α : Type} (f : State → α) := congrArg f hsheet
  rw [State.endSceneWith_eq]
  refine ⟨?_, ?_, ?_, ?_, hgains.trans (t.gains_endSceneWith r x)⟩
  · rw [State.epochCounter_completeScene]
    exact (hfield State.epochCounter).trans hcounter
  · rw [State.presented_completeScene]
    exact (hfield State.presented).trans hpresented
  · rw [State.tiles_completeScene]
    exact (hfield State.tiles).trans htiles
  · unfold State.findJob at hwrites ⊢
    rw [State.jobs_completeScene, findJob_handRunning_writes, show (t.endedAtTiles r).jobs = t.jobs from hfield State.jobs, hwrites]

/-- With no participant LOST, nobody is dropped. -/
theorem State.layersRead_of_no_lost (hj : s.running .frame = some j) (hlost : s.targetsIn participants .lost = 0) :
    s.layersRead j layers participants = s.discarded j layers participants := by
  rw [State.layersRead_eq, State.lost_discarded hj, hlost]
  refine State.dropTiles_none (State.scene_discarded hj) ?_ _
  exact Mask.ext fun t => by rw [Mask.has_and, Mask.has_and, Mask.has_zero]; rfl

/-- LOST participants are dropped together, and the arming rule is applied. -/
theorem State.layersRead_of_lost (hj : s.running .frame = some j) (hlost : s.targetsIn participants .lost ≠ 0) :
    s.layersRead j layers participants = (s.lostDropped j layers participants).armingRule := by
  rw [State.layersRead_eq, State.lost_discarded hj]
  refine State.dropTiles_some (State.scene_discarded hj) rfl ?_ hlost _
  show s.targetsIn participants .lost &&& participants &&& ~~~(0 : Mask) = _
  rw [State.targetsIn_and]
  exact Mask.ext fun t => by rw [Mask.has_and, Mask.has_not, Mask.has_zero]; simp

/-- The arming rule for a new scene with dropped participants: it ends, or it goes on (R58). -/
theorem State.armingRule_lostDropped (hj : s.running .frame = some j) (hcounter : s.epochCounter ≠ BitVec.allOnes 64)
    (harmed : ∀ i x, (s.tile i).back = .armed x → x ≤ s.epochCounter) (hlost : s.targetsIn participants .lost ≠ 0) :
    (s.lostDropped j layers participants).armingRule =
      if j.bit 21 0 = true ∨ participants &&& ~~~s.targetsIn participants .lost = 0 then
        (s.lostDropped j layers participants).endSceneEarly .tileLost
      else s.lostDropped j layers participants := by
  obtain ⟨⟨-, -, htiles, -⟩, hscene, -⟩ := State.lostDropped_fields (layers := layers) (participants := participants) hj
  have hnone : (s.lostDropped j layers participants).armedMask (lostScene s j participants) = 0 := by
    have hsame : (s.lostDropped j layers participants).armedMask (lostScene s j participants) =
        s.armedMask (lostScene s j participants) := by
      unfold State.armedMask
      simp only [show ∀ i, (s.lostDropped j layers participants).tile i = s.tile i from
        fun i => congrArg (fun ts : Vector Tile 12 => ts[i.val]) htiles]
    rw [hsame]
    exact State.armedMask_new harmed hcounter rfl
  unfold State.armingRule
  rw [hscene]
  simp only
  rw [hnone, if_neg (show ¬((!(lostScene s j participants).stage.delivering?) = true) from Bool.false_ne_true)]
  by_cases hall : j.bit 21 0 = true
  · rw [if_pos (show (lostScene s j participants).requireAll = true ∧ (lostScene s j participants).dropped ≠ 0 from ⟨hall, hlost⟩)]
    exact (if_pos (.inl hall)).symm
  · rw [if_neg (fun h => hall h.1), if_neg (fun h => h.2 rfl)]
    by_cases hout : participants &&& ~~~s.targetsIn participants .lost = 0
    · rw [if_pos (show (lostScene s j participants).participants &&& ~~~(lostScene s j participants).dropped = 0 from hout)]
      exact (if_pos (.inr hout)).symm
    · rw [if_neg (show ¬(lostScene s j participants).participants &&& ~~~(lostScene s j participants).dropped = 0 from hout),
        if_neg (not_or.mpr ⟨hall, hout⟩)]

/-- Every DISCARD that LAYERS_READ asks for is there. -/
theorem State.ReadsOn.hasDiscard {t : State} (h : s.ReadsOn j layers participants t) {i : TileId} {p : PortId} {x : Epoch}
    (hi : Mask.has participants i = true) (hport : (s.tile i).geom.port = some p) (hlink : (s.port p).link ≠ .off)
    (hx : (s.tile i).back.epoch? = some x) : (t.port p).hasDiscard x = true := by
  obtain ⟨-, -, -, -, hgains⟩ := h
  refine (hgains p).2 x ?_
  have htile : ((s.epochTaken j layers participants).writeProgress .layersRead).tile i = s.tile i := by
    unfold State.writeProgress
    split <;> rfl
  have hports := State.port_of_ports (State.ports_writeProgress (s.epochTaken j layers participants) .layersRead) p
  refine State.hasDiscard_discardAll (mem_idsOf.mpr hi) (by rw [htile]; exact hport) ?_ (by rw [htile]; exact hx)
  rw [hports]
  exact hlink

/-- A new scene that ends for its LOST participants. -/
theorem State.endSceneEarly_lostDropped (hj : s.running .frame = some j) :
    ∃ x : Result, x.outcome = .tileLost ∧ (s.lostDropped j layers participants).endSceneEarly .tileLost =
      (s.lostDropped j layers participants).endSceneWith (lostScene s j participants) x := by
  have hscene := (State.lostDropped_fields (layers := layers) (participants := participants) hj).2.1
  unfold State.endSceneEarly
  rw [hscene]
  exact ⟨_, rfl, rfl⟩

theorem State.outcomeOf_lostDropped (hj : s.running .frame = some j) (hfind : s.findJob j.addr = some j) (r : SceneRec) (x : Result) :
    ((s.lostDropped j layers participants).endSceneWith r x).outcomeOf j.addr = some x.outcome := by
  have hjobs : (s.lostDropped j layers participants).jobs = (s.modJob j.addr (Job.addWrite (.progress .layersRead))).jobs :=
    (State.lostDropped_fields hj).2.2.1.trans (State.discarded_fields hj).2.2.2.1
  have hrun : (s.lostDropped j layers participants).running .frame = some (j.addWrite (.progress .layersRead)) := by
    rw [State.running_of_jobs hjobs, State.running_modJob s j.addr (f := Job.addWrite (.progress .layersRead)) (fun _ => ⟨rfl, rfl, rfl⟩), hj]
    simp
  have hentry : (s.lostDropped j layers participants).findJob j.addr = some (j.addWrite (.progress .layersRead)) := by
    rw [State.findJob_of_jobs hjobs, State.findJob_modJob s _ _ (Job.addWrite (.progress .layersRead)) (fun _ => rfl), hfind]
    simp
  have hended := State.findJob_of_handRunning (State.jobs_endSceneWith _ r x) hrun hentry
  exact (State.outcomeOf_eq hended)

end

/-- Both commands that end the reading of a scene's layers fix its participants. -/
theorem exec_fixParticipants {s : State} {j : Job} {c : Instr} {layers : List Layer}
    (h : c = .scene ∧ s.startedFrame .scene = some j ∧ j.byte 20 = 0 ∧ layers = [] ∨
      ∃ ls bs, c = .layerRecordRead (some bs) ∧ s.frameRun = .layers ls ∧ s.running .frame = some j ∧ j.byte 20 ≤ ls.length + 1 ∧
        layers = ls ++ [decodeLayer bs.toList] ∧ layersFault 0 layers = none) :
    s.running .frame = some j ∧ exec c s = .next (s.fixParticipants j layers).settle := by
  obtain ⟨rfl, hstarted, hcount, rfl⟩ | ⟨ls, bs, rfl, hrun, hj, hlast, rfl, hpass⟩ := h
  · exact ⟨((State.startedFrame_eq_some_iff s .scene j).mp hstarted).1, execScene_of_no_layers hstarted hcount⟩
  · refine ⟨hj, ?_⟩
    rw [exec_layerRecordRead_last hrun hj hlast, State.checkLayers, hpass]

/-- Settles O20: the participants as R21 and R22 fix them, what LAYERS_READ keeps, and the arming rule for the LOST ones. -/
theorem layersReadTakesTheEpoch : Obligations.LayersReadTakesTheEpoch := by
  intro s j c layers hc
  obtain ⟨hj, hexec⟩ := exec_fixParticipants hc
  simp only
  rw [hexec]
  refine ⟨fun hnone => ?_, fun hsome hspent => ?_, fun hsome hcounter harmed => ?_⟩
  · rw [State.fixParticipants, if_pos hnone]
  · rw [State.fixParticipants, if_neg hsome, if_pos hspent]
  · have hreads := State.readsOn_discarded (layers := layers) (participants := s.targets (j.mask 24)) hj
    obtain ⟨hdropped, hscene, -, hactive⟩ := State.lostDropped_fields (layers := layers) (participants := s.targets (j.mask 24)) hj
    rw [State.fixParticipants, if_neg hsome, if_neg hcounter]
    have hcomposer := State.composer_discarded (layers := layers) (participants := s.targets (j.mask 24)) hj
    refine ⟨_, rfl, ?_⟩
    by_cases hlost : s.targetsIn (s.targets (j.mask 24)) .lost = 0
    · rw [State.layersRead_of_no_lost hj hlost]
      obtain ⟨h₁, h₂, h₃, h₄, -⟩ := id hreads
      exact ⟨h₁, h₂, h₃, h₄, fun i p x hi hport hlink hx => hreads.hasDiscard hi hport hlink hx,
        fun _ => ⟨hcomposer, State.scene_discarded hj⟩, fun h => absurd hlost h, fun h => absurd hlost h⟩
    · rw [State.layersRead_of_lost hj hlost, State.armingRule_lostDropped hj hcounter harmed hlost]
      by_cases hends : j.bit 21 0 = true ∨ s.targets (j.mask 24) &&& ~~~s.targetsIn (s.targets (j.mask 24)) .lost = 0
      · rw [if_pos hends]
        obtain ⟨x, hx, heq⟩ := State.endSceneEarly_lostDropped (layers := layers) (participants := s.targets (j.mask 24)) hj
        rw [heq]
        have hended := State.readsOn_endSceneWith hdropped (lostScene s j (s.targets (j.mask 24))) x
        obtain ⟨h₁, h₂, h₃, h₄, -⟩ := id hended
        refine ⟨h₁, h₂, h₃, h₄, fun i p x hi hport hlink hx => hended.hasDiscard hi hport hlink hx,
          fun h => absurd h hlost, fun _ hone hleft => ?_, fun _ _ => ⟨?_, ?_, fun hfind => ?_⟩⟩
        · exact absurd hends (not_or.mpr ⟨by rw [hone]; exact Bool.false_ne_true, hleft⟩)
        · exact State.frameRun_completeScene _ _
        · exact State.active_completeScene _ _
        · rw [State.outcomeOf_lostDropped hj hfind, hx]
      · rw [if_neg hends]
        obtain ⟨h₁, h₂, h₃, h₄, -⟩ := id hdropped
        exact ⟨h₁, h₂, h₃, h₄, fun i p x hi hport hlink hx => hdropped.hasDiscard hi hport hlink hx,
          fun h => absurd h hlost, fun _ _ _ => ⟨hactive.trans (by rw [hcomposer]), hscene⟩, fun _ h => absurd h hends⟩

end Sys2Proof.Machine

/-! SUPPORT. O13: a bus error of the pass (R152–R154, R162). -/
namespace Sys2Proof.Machine

theorem State.halted_halt {s : State} (h : s.halted = none) (c) : (s.halt c).halted = some c := by
  have hhalted := congrArg State.halted (s.quiet_halt c)
  rw [h] at hhalted
  exact hhalted

theorem State.causes_halt (s : State) (c) : (s.halt c).causes = { s.causes with halt := true } := by
  have hcauses := congrArg State.causes (s.quiet_halt c)
  exact hcauses

/-- The three accesses of a pass that can fail, failed: each ends it. -/
theorem exec_passBusError {s : State} {c : Instr}
    (h : s.intake.pass = .link ∧ s.intake.anchor.isSome = true ∧ c = .linkRead none ∨
      (∃ a, s.intake.pass = .exchange a) ∧ c = .lockedExchange none ∨
      (∃ a w, s.intake.pass = .taking a w) ∧ c = .takingRead none) :
    exec c s = .next s.passBusError.settle := by
  obtain ⟨hpass, hanchor, rfl⟩ | ⟨⟨a, hpass⟩, rfl⟩ | ⟨⟨a, w, hpass⟩, rfl⟩ := h
  · obtain ⟨own, hown⟩ := Option.isSome_iff_exists.mp hanchor
    have hread : s.linkRead none = s.passBusError := by simp only [State.linkRead, hpass, hown]
    exact congrArg (fun t : State => t.settled) hread
  · have hread : s.exchanged none = s.passBusError := by simp only [State.exchanged, hpass]
    exact congrArg (fun t : State => t.settled) hread
  · have hread : s.takeBlock none = s.passBusError := by simp only [State.takeBlock, hpass]
    exact congrArg (fun t : State => t.settled) hread

/-- The state a pass is left in by its bus error. -/
theorem State.passBusError_eq (s : State) : s.passBusError =
    if s.intake.enable then { s.halt .busFault with intake := { s.intake with
        state := .idle, rescan := false, scanTimer := s.intake.scanTime, pass := .none } }
    else { s.halt .busFault with intake := { s.intake with state := .off, rescan := false, scanTimer := none, pass := .none } } := by
  unfold State.passBusError State.intakeIdle State.intakeOff
  simp only
  rw [s.intake_halt .busFault]
  split <;> rfl

/-- Settles O13: the halt, and the intake by whether ENABLE still stands. -/
theorem passBusErrorHalts : Obligations.PassBusErrorHalts := by
  intro s c hc hrunning
  refine ⟨s.passBusError, exec_passBusError hc, ?_⟩
  have hhalted := State.halted_halt hrunning .busFault
  have hcause : (s.halt .busFault).causes.halt = true := by rw [State.causes_halt]
  have haddrs := s.addrs_halt .busFault
  rw [State.passBusError_eq]
  cases henable : s.intake.enable
  · exact ⟨hhalted, hcause, rfl, rfl, rfl, haddrs, nofun, fun _ => rfl⟩
  · exact ⟨hhalted, hcause, rfl, rfl, rfl, haddrs, fun _ => rfl, nofun⟩

end Sys2Proof.Machine

/-! SUPPORT. O27: the mismatch list of a VERIFY, its order and its writes (R182). -/
namespace Sys2Proof.Machine

/-- The mismatches of one tile, by stripe. -/
def VerifyRec.ofTile (r : VerifyRec) (t : TileId) : List (TileId × Nat) :=
  (r.mismatches.filter (fun m => m.1 == t)).insertionSort (fun a b => a.2 ≤ b.2)

section
variable (r : VerifyRec)

theorem VerifyRec.sorted_nil : r.sorted [] = [] := rfl
theorem VerifyRec.sorted_cons (t : TileId) (ts : List TileId) : r.sorted (t :: ts) = r.ofTile t ++ r.sorted ts := rfl

theorem VerifyRec.perm_ofTile (t : TileId) : (r.ofTile t).Perm (r.mismatches.filter (fun m => m.1 == t)) :=
  List.perm_insertionSort _ _

theorem VerifyRec.mem_ofTile {t : TileId} {m : TileId × Nat} (h : m ∈ r.ofTile t) : m.1 = t :=
  beq_iff_eq.mp (List.mem_filter.mp ((r.perm_ofTile t).mem_iff.mp h)).2

theorem VerifyRec.pairwise_ofTile (t : TileId) : (r.ofTile t).Pairwise (fun a b => a.2 ≤ b.2) :=
  have : Std.Total fun a b : TileId × Nat => a.2 ≤ b.2 := ⟨fun a b => Nat.le_total a.2 b.2⟩
  have : IsTrans (TileId × Nat) fun a b => a.2 ≤ b.2 := ⟨fun _ _ _ => Nat.le_trans⟩
  List.pairwise_insertionSort _ _

theorem VerifyRec.mem_sorted {order : List TileId} {m : TileId × Nat} (h : m ∈ r.sorted order) : m.1 ∈ order := by
  obtain ⟨t, ht, hm⟩ := List.mem_flatMap.mp h
  exact r.mem_ofTile hm ▸ ht

/-- The list is sorted by the tile's place in the service order, then by stripe (R182). -/
theorem VerifyRec.pairwise_sorted {order : List TileId} (h : order.Nodup) :
    (r.sorted order).Pairwise (fun a b => order.idxOf a.1 < order.idxOf b.1 ∨ a.1 = b.1 ∧ a.2 ≤ b.2) := by
  induction order with
  | nil => exact List.Pairwise.nil
  | cons t ts ih =>
    obtain ⟨hnew, hts⟩ := List.nodup_cons.mp h
    have hlater {m : TileId × Nat} (hm : m ∈ r.sorted ts) : (t :: ts).idxOf m.1 = ts.idxOf m.1 + 1 :=
      List.idxOf_cons_ne ts fun heq => hnew (heq ▸ r.mem_sorted hm)
    rw [VerifyRec.sorted_cons, List.pairwise_append]
    refine ⟨?_, ?_, fun a ha b hb => ?_⟩
    · refine (r.pairwise_ofTile t).imp_of_mem fun ha hb hle => ?_
      exact .inr ⟨(r.mem_ofTile ha).trans (r.mem_ofTile hb).symm, hle⟩
    · refine (ih hts).imp_of_mem fun ha hb hlt => ?_
      rw [hlater ha, hlater hb]
      exact hlt.imp_left Nat.succ_lt_succ
    · left
      rw [r.mem_ofTile ha, List.idxOf_cons_self, hlater hb]
      exact Nat.succ_pos _

/-- The list holds each mismatch of a tile of the service order once (R182). -/
theorem VerifyRec.perm_sorted {order : List TileId} (h : order.Nodup) :
    (r.sorted order).Perm (r.mismatches.filter (fun m => order.contains m.1)) := by
  induction order with
  | nil => rw [VerifyRec.sorted_nil, List.filter_eq_nil_iff.mpr (by simp)]
  | cons t ts ih =>
    obtain ⟨hnew, hts⟩ := List.nodup_cons.mp h
    have hhere : (r.mismatches.filter (fun m => (t :: ts).contains m.1)).filter (fun m => m.1 == t) =
        r.mismatches.filter (fun m => m.1 == t) := by
      rw [List.filter_filter]
      refine List.filter_congr fun m _ => ?_
      by_cases hm : m.1 = t <;> simp [hm]
    have hrest : (r.mismatches.filter (fun m => (t :: ts).contains m.1)).filter (fun m => !(m.1 == t)) =
        r.mismatches.filter (fun m => ts.contains m.1) := by
      rw [List.filter_filter]
      refine List.filter_congr fun m _ => ?_
      by_cases hm : m.1 = t
      · simp [hm, hnew]
      · simp [hm]
    calc r.sorted (t :: ts)
      _ = r.ofTile t ++ r.sorted ts := rfl
      _ |>.Perm (r.mismatches.filter (fun m => m.1 == t) ++ r.mismatches.filter (fun m => ts.contains m.1)) :=
        (r.perm_ofTile t).append (ih hts)
      _ |>.Perm _ := by
        rw [← hhere, ← hrest]
        exact List.filter_append_perm _ _

end

/-- Settles O27: the write's three ends, and the order of the list. -/
theorem mismatchListIsWritten : Obligations.MismatchListIsWritten := by
  refine ⟨fun s r n m hrun hm => ⟨fun hmore => ?_, fun hlast => ?_, ?_⟩, fun r order h => ⟨r.pairwise_sorted h, r.perm_sorted h⟩⟩
  · simp only [exec, execMismatchListWrite, hrun, hm, if_true]
    rw [if_pos (show n + 1 < r.entries from hmore)]
    rfl
  · simp only [exec, execMismatchListWrite, hrun, hm, if_true]
    rw [if_neg (show ¬n + 1 < r.entries from Nat.not_lt.mpr hlast)]
    rfl
  · simp only [exec, execMismatchListWrite, hrun]
    rfl

end Sys2Proof.Machine

/-! SUPPORT. O31: a SENSE, its record byte by byte, its clears and its writes (R168–R170, R186). -/
namespace Sys2Proof.Machine

/-- The RUNNING control job that has just started. -/
theorem State.startedControl_eq_some_iff (s : State) (k : Kind) (j : Job) :
    s.startedControl k = some j ↔ s.running .control = some j ∧ s.controlRun = .started ∧ kindOf j.kind = some k := by
  unfold State.startedControl
  cases s.running .control with
  | none => simp
  | some i =>
    simp only [Option.ite_none_right_eq_some, Option.some.injEq]
    constructor
    · rintro ⟨⟨hrun, hkind⟩, rfl⟩
      exact ⟨rfl, hrun, hkind⟩
    · rintro ⟨rfl, hrun, hkind⟩
      exact ⟨⟨hrun, hkind⟩, rfl⟩

/-! ## The commands -/

theorem execSense_of_fault {s : State} {j : Job} {r : Reason} (hs : s.startedControl .sense = some j) (hfault : senseFault j = some r) :
    exec .sense s = .next (s.completeControl (invalidResult r none none)).settle := by
  simp only [exec, execSense, hs, hfault, State.settled]

theorem execSense_of_pass {s : State} {j : Job} (hs : s.startedControl .sense = some j) (hpass : senseFault j = none) :
    exec .sense s = .next { s.senseClears (j.bit 20 0) (j.bit 20 1) with
      controlRun := .sense s.senseRecord 0 s.ref.frameNumber j.clears } := by
  simp only [exec, execSense, hs, hpass]

theorem State.senseClears_eq (s : State) (counters latched : Bool) :
    s.senseClears counters latched = s.mapPorts fun _ x => x.senseClear counters latched :=
  State.forEach_modPort s fun _ x => x.senseClear counters latched

/-! ## The record -/

theorem State.senseRecord_length (s : State) : s.senseRecord.length = 13 ∧ ∀ c ∈ s.senseRecord, c.length = 64 := by
  have hfixed (bs : List Byte) : (fixLength 64 bs).length = 64 := by simp [fixLength, zeros]
  refine ⟨rfl, fun c hc => ?_⟩
  rcases List.mem_cons.mp hc with rfl | hc
  · exact hfixed _
  · obtain ⟨i, -, rfl⟩ := List.mem_map.mp hc
    exact hfixed _

theorem Indications.byte_eq (i : Indications) : i.byte = le1 ((if i.syncLost then 1 else 0) + (if i.offerRestarted then 2 else 0) +
    (if i.badPacket then 4 else 0) + (if i.holdSeen then 8 else 0) + (if i.downshifted then 16 else 0)) := by
  have hdouble (b : Bool) (m n : Nat) : (if b then m else 0) * n = if b then m * n else 0 := by cases b <;> simp
  refine congrArg le1 ?_
  simp only [bitsByte]
  rw [← hdouble i.offerRestarted 1 2, ← hdouble i.badPacket 1 4, ← hdouble i.holdSeen 1 8, ← hdouble i.downshifted 1 16]
  omega

/-- The flags byte of a tile record: mapping, pending, stale (R169). -/
theorem senseFlags_eq (n : Nat) (pending stale : Bool) :
    n + 4 * bitsByte [pending, stale] = n + (if pending then 4 else 0) + if stale then 8 else 0 := by
  cases pending <;> cases stale <;> rfl

/-- The header is 46 bytes long, and 18 bytes of 0 fill it (R186). -/
theorem State.senseHeader_eq (s : State) : s.senseHeader =
    le1 s.power.state.code ++ le1 (bitsByte [s.halted.isSome]) ++ le1 (haltCode s.halted) ++ le1 s.intake.state.code ++
      le1 (s.laneCount .frame) ++ le1 (s.laneCount .control) ++ le1 s.ref.state.code ++ le1 s.ref.source.code ++
      le1 (bitsByte [s.ref.lock]) ++ le1 s.ref.targetCode ++ zeros 2 ++ le4 s.ref.frameNumber.toNat ++ le4 s.ref.period ++
      le8 s.epochCounter.toNat ++ le8 s.presented.toNat ++ s.policy.bytes ++ zeros 18 :=
  fixLength_of_length (by simp [le1, le2, le4, le8, zeros, Policy.bytes])

/-- A tile record fills its 64 bytes (R186). -/
theorem State.senseTile_eq (s : State) (t : TileId) : s.senseTile t =
    le1 ((s.tile t).geom.mapping.code + 4 * bitsByte [(s.tile t).pendingGen.isSome, (s.tile t).stale]) ++
      le1 (match (s.tile t).geom.port with | some p => p.val | none => 255) ++
      (match (s.tile t).geom.port with | some p => (s.port p).senseBytes | none => zeros 12) ++
      le1 ((s.tile t).back.report (s.stripesOf t)).1 ++ le1 ((s.tile t).back.report (s.stripesOf t)).2.2 ++
      le8 (s.tile t).front.toNat ++ le8 ((s.tile t).back.report (s.stripesOf t)).2.1.toNat ++
      le2 (s.tile t).activeGen.toNat ++ le2 ((s.tile t).pendingGen.getD 0).toNat ++
      (match (s.tile t).geom.port with | some p => (s.port p).ctr.bytes | none => zeros 28) := by
  refine (fixLength_of_length (k := 0) ?_).trans (List.append_nil _)
  cases (s.tile t).geom.port <;> simp [le1, le2, le8, zeros]

/-- Settles O31: the equations of both commands, and the chunks of the record at full length. -/
theorem senseGathersThenWrites : Obligations.SenseGathersThenWrites := by
  refine ⟨fun s j hs => ⟨fun hzero => ?_, fun hzero halign => ?_, fun hzero halign hhigh => ?_, fun hzero halign hlow => ?_⟩,
    State.senseRecord_length, fun s => ?_, fun s i => ?_, fun s j c rest n frame clears hrun hj =>
    ⟨fun hrest => ?_, fun hrest => ?_, ?_⟩⟩
  · exact execSense_of_fault hs (if_pos hzero)
  · exact execSense_of_fault hs (by rw [senseFault, if_neg hzero, if_pos halign])
  · exact execSense_of_fault hs (by rw [senseFault, if_neg hzero, if_neg (not_not.mpr halign), if_pos hhigh])
  · refine ⟨_, execSense_of_pass hs (by rw [senseFault, if_neg hzero, if_neg (not_not.mpr halign), if_neg (Nat.not_lt.mpr hlow)]), ?_⟩
    rw [State.senseClears_eq]
    have hport (p : PortId) := s.port_mapPorts (fun _ x => x.senseClear (j.bit 20 0) (j.bit 20 1)) p
    exact ⟨rfl, rfl, hport⟩
  · rw [State.senseRecord_header, State.senseHeader_eq]
    simp only [Policy.bytes, List.append_assoc]
    rfl
  · dsimp only
    rw [State.senseRecord_tile, State.senseTile_eq, senseFlags_eq]
    cases hport : (s.tile i).geom.port with
    | none => cases (s.tile i).back <;> rfl
    | some p =>
      simp only [Port.senseBytes, Indications.byte_eq, Counters.bytes]
      cases (s.tile i).back <;> rfl
  · simp only [exec, execSenseRecordWrite, hrun, hj, if_true]
    rw [if_neg hrest]
    rfl
  · simp only [exec, execSenseRecordWrite, hrun, hj, if_true]
    rw [if_pos hrest]
    rfl
  · simp only [exec, execSenseRecordWrite, hrun, hj]
    rfl

end Sys2Proof.Machine

/-! SUPPORT. O28: the end of a composition: the buffer, the pixels of a stripe, and the colour of a pixel (R25–R29, R39, R40). -/
namespace Sys2Proof.Machine

/-! ## Lists of equal pieces -/

section
variable {α : Type} {f : Nat → List α} {m : Nat} (hlen : ∀ i, (f i).length = m)
include hlen

theorem length_flatMap_range (n : Nat) : ((List.range n).flatMap f).length = n * m := by
  induction n with
  | zero => simp
  | succ n ih => rw [List.range_succ, List.flatMap_append, List.length_append, ih, List.flatMap_singleton, hlen, Nat.succ_mul]

/-- The element of place `r` in piece `i`. -/
theorem getElem?_flatMap_range {n i r : Nat} (hi : i < n) (hr : r < m) : ((List.range n).flatMap f)[i * m + r]? = (f i)[r]? := by
  induction n with
  | zero => exact absurd hi (Nat.not_lt_zero i)
  | succ n ih =>
    rw [List.range_succ, List.flatMap_append, List.flatMap_singleton]
    have hsize := length_flatMap_range hlen n
    rcases Nat.lt_succ_iff_lt_or_eq.mp hi with hlt | rfl
    · have hbefore : i * m + r < n * m := by
        calc i * m + r < i * m + m := by omega
          _ = (i + 1) * m := (Nat.succ_mul i m).symm
          _ ≤ n * m := Nat.mul_le_mul_right m hlt
      rw [List.getElem?_append_left (hsize ▸ hbefore), ih hlt]
    · rw [List.getElem?_append_right (hsize ▸ Nat.le_add_right _ _), hsize, Nat.add_sub_cancel_left]

end

/-! ## The pixels of a stripe (R29) -/

section
variable (tab : LayerTable) (g : Geometry) (mem : Nat → Byte) (k : Nat)

/-- One line of a stripe. -/
def LayerTable.linePixels (l : Nat) : List Byte :=
  (List.range g.width).flatMap fun c => (tab.colourAt mem (g.originX + c) (g.originY + g.stripeTop k + l)).bytes

theorem LayerTable.stripePixels_eq : tab.stripePixels g mem k = (List.range (g.linesOf k)).flatMap (tab.linePixels g mem k) := rfl

theorem LayerTable.length_linePixels (l : Nat) : (tab.linePixels g mem k l).length = g.width * 3 :=
  length_flatMap_range (m := 3) (fun _ => rfl) _

theorem LayerTable.length_stripePixels : (tab.stripePixels g mem k).length = g.linesOf k * (g.width * 3) :=
  length_flatMap_range (tab.length_linePixels g mem k) _

/-- A byte of a pixel of a stripe, by its line and its column (R29, R187). -/
theorem LayerTable.getElem?_stripePixels {l c i : Nat} (hl : l < g.linesOf k) (hc : c < g.width) (hi : i < 3) :
    (tab.stripePixels g mem k)[3 * (l * g.width + c) + i]? =
      (tab.colourAt mem (g.originX + c) (g.originY + (g.stripeTop k + l))).bytes[i]? := by
  have hplace : 3 * (l * g.width + c) + i = l * (g.width * 3) + (c * 3 + i) := by ring
  rw [hplace, LayerTable.stripePixels_eq, getElem?_flatMap_range (tab.length_linePixels g mem k) hl (by omega)]
  unfold LayerTable.linePixels
  rw [getElem?_flatMap_range (m := 3) (fun _ => rfl) hc hi, Nat.add_assoc]

/-- The lines of a stripe: all of its height, or what is left of the tile (R29). -/
theorem Geometry.linesOf_eq {h : StripeHeight} (hstripe : g.stripe = some h) : g.linesOf k =
    if (k + 1) * h.lines ≤ g.height then h.lines else g.height - k * h.lines := by
  have hlines : g.stripeLines = h.lines := by rw [Geometry.stripeLines, hstripe]
  unfold Geometry.linesOf
  rw [hlines]
  split
  · next hfull => rw [Nat.min_eq_left hfull, Nat.succ_mul, Nat.add_sub_cancel_left]
  · next hcut => rw [Nat.min_eq_right (Nat.le_of_not_le hcut)]

end

/-! ## The colour of a pixel (R25–R28) -/

theorem LayerTable.colourAt_append (e : Epoch) (ground : Colour) (mem : Nat → Byte) (x y : Nat) (ls : List Layer) (l : Layer) :
    LayerTable.colourAt { epoch := e, background := ground, layers := ls ++ [l] } mem x y =
      l.apply mem x y (LayerTable.colourAt { epoch := e, background := ground, layers := ls } mem x y) := by
  simp only [LayerTable.colourAt, List.foldl_append, List.foldl_cons, List.foldl_nil]

theorem Layer.covers_iff (l : Layer) (x y : Nat) : l.covers x y = true ↔
    l.destX ≤ x ∧ x < l.destX + l.srcWidth * l.scale ∧ l.destY ≤ y ∧ y < l.destY + l.srcHeight * l.scale := by
  rw [Layer.covers, Bool.and_eq_true, Bool.and_eq_true, Bool.and_eq_true, decide_eq_true_iff, decide_eq_true_iff,
    decide_eq_true_iff, decide_eq_true_iff, and_assoc, and_assoc]
  rfl

section
variable {l : Layer} {x y : Nat} (mem : Nat → Byte) (below : Colour)

theorem Layer.apply_of_apart (h : ¬l.covers x y = true) : l.apply mem x y below = below := by
  unfold Layer.apply
  rw [if_pos (by simpa using h)]

theorem Layer.apply_fill (h : l.covers x y = true) (hkind : l.kind = some .fill) : l.apply mem x y below = l.colour := by
  unfold Layer.apply
  rw [h, hkind]
  rfl

/-- A SURFACE layer supplies its widened pixel, unless that is its key (R26–R28). -/
theorem Layer.apply_surface (h : l.covers x y = true) (hkind : l.kind = some .surface) {f : PixelFormat} (hformat : l.format = some f) :
    let c := readPixel f mem
      (l.address + (l.srcY + (y - l.destY) / l.scale) * l.stride + (l.srcX + (x - l.destX) / l.scale) * f.bytes)
    l.apply mem x y below = if l.keyPresent = true ∧ c = l.colour then below else c := by
  unfold Layer.apply
  rw [h, hkind, hformat]
  have hbytes : l.pixelBytes = f.bytes := by rw [Layer.pixelBytes, hformat]
  simp only [Bool.not_true, Layer.surfacePixel, Layer.pixelAddress, hbytes, Bool.and_eq_true, decide_eq_true_iff]
  rfl

end

/-! ## The buffer (R39, R40) -/

theorem exec_compositionEnd {s : State} {i : TileId} {p : PortId} {b : BufId} {tab : LayerTable} {id : StripeId}
    (hengine : s.composer.engine = .scene i p b) (hactive : s.composer.active = some tab) (hbuf : (s.port p).buf b = .composing id)
    (image : MemImage) (stored : Option (List Byte)) : exec (.compositionEnd image stored) s =
      .next (State.storeStripe { s with compositions := s.compositions + 1 } i p b
        { id := id, pixels := stored.getD (tab.stripePixels (s.tile i).geom (imageByte image s.compositions) id.number),
          check := crc32 (tab.stripePixels (s.tile i).geom (imageByte image s.compositions) id.number) }).settle := by
  simp only [exec, execCompositionEnd, hengine, hactive, hbuf, State.settled]

/-- A stored stripe changes its port, the engine and the scene record. -/
theorem State.storeStripe_eq (s : State) (t p b) (st : Stripe) : s.storeStripe t p b st =
    { s with
      ports := (s.modPort p fun x => (x.setBuf b (.ready st)).enqueue (.stripe b)).ports
      composer := { s.composer with engine := .free }
      frameRun := (s.storeStripe t p b st).frameRun } := by
  unfold State.storeStripe State.modScene
  dsimp only [State.modPort_frameRun]
  cases s.frameRun <;> rfl

theorem State.port_storeStripe (s : State) (t p b) (st : Stripe) (q : PortId) : (s.storeStripe t p b st).port q =
    (s.modPort p fun x => (x.setBuf b (.ready st)).enqueue (.stripe b)).port q := by
  rw [State.storeStripe_eq]
  rfl

theorem Port.enqueue_of_on {x : Port} (h : x.link ≠ .off) (k : Reliable) : x.enqueue k = { x with queue := x.queue ++ [k] } :=
  if_neg h

theorem Port.setBuf_keeps (x : Port) (b : BufId) (v : Buffer) : (x.setBuf b v).link = x.link ∧ (x.setBuf b v).queue = x.queue := by
  cases b <;> exact ⟨rfl, rfl⟩

/-- Settles O28: the port's new buffer and queue, the byte of a place in a stripe, and the layer applied last. -/
theorem compositionEndFillsTheBuffer : Obligations.CompositionEndFillsTheBuffer := by
  refine ⟨fun s i p b tab id image stored hengine hactive hbuf hlink => ?_, fun tab g mem k h hstripe => ?_,
    fun e ground mem x y => ⟨rfl, fun ls l => ?_⟩⟩
  · refine ⟨_, exec_compositionEnd hengine hactive hbuf image stored, ?_⟩
    refine ⟨?_, fun q hq => ?_, ?_⟩
    · rw [State.port_storeStripe, State.port_modPort_self]
      obtain ⟨hkept, hqueue⟩ := Port.setBuf_keeps (s.port p) b (.ready { id := id, pixels := stored.getD _, check := _ })
      rw [Port.enqueue_of_on (hkept ▸ hlink)]
      exact congrArg (fun ks => { (s.port p).setBuf b _ with queue := ks ++ [Reliable.stripe b] }) hqueue
    · rw [State.port_storeStripe, State.port_modPort_ne _ (Ne.symm hq)]
      rfl
    · rw [State.storeStripe_eq]
      exact ⟨rfl, rfl, rfl, rfl, rfl⟩
  · dsimp only
    have htop : g.stripeTop k = k * h.lines := by rw [Geometry.stripeTop, Geometry.stripeLines, hstripe]
    rw [← Geometry.linesOf_eq g k hstripe, ← htop]
    refine ⟨by rw [LayerTable.length_stripePixels]; ring, fun l hl c hc => ?_⟩
    have hbyte {i : Nat} (hi : i < 3) := tab.getElem?_stripePixels g mem k hl hc hi
    exact ⟨hbyte (i := 0) (by decide), hbyte (i := 1) (by decide), hbyte (i := 2) (by decide)⟩
  · dsimp only
    rw [LayerTable.colourAt_append, ← Layer.covers_iff]
    refine ⟨fun h => Layer.apply_of_apart _ _ h, fun h hkind => Layer.apply_fill _ _ h hkind, fun h hkind hformat => ?_,
      fun h hkind hformat => ?_, fun h hkind hformat => ?_⟩
    · exact Layer.apply_surface mem _ h hkind hformat
    · exact Layer.apply_surface mem _ h hkind hformat
    · exact Layer.apply_surface mem _ h hkind hformat

end Sys2Proof.Machine

/-! SUPPORT. O26: a recomposed stripe of a VERIFY (R181, R182). -/
namespace Sys2Proof.Machine

section
variable {r : VerifyRec} {rep : Report} {rest : List Report} (hreports : r.reports = rep :: rest) (crc : Word)
include hreports

/-- The mismatches of a VERIFY after a stripe has been compared. -/
def VerifyRec.found (r : VerifyRec) (rep : Report) (crc : Word) : List (TileId × Nat) :=
  if rep.crcs[r.stripe]? = some crc then r.mismatches else r.mismatches ++ [(rep.tile, r.stripe)]

theorem VerifyRec.compare_of_more (h : r.stripe + 1 < rep.crcs.length) :
    r.compare crc = { r with mismatches := r.found rep crc, stripe := r.stripe + 1 } := by
  unfold VerifyRec.compare
  rw [hreports]
  exact if_pos h

theorem VerifyRec.compare_of_last (h : rep.crcs.length ≤ r.stripe + 1) : r.compare crc =
    { r with mismatches := r.found rep crc, stripe := 0, reports := rest, checked := r.checked ||| bitOf rep.tile } := by
  unfold VerifyRec.compare
  rw [hreports]
  exact if_neg (Nat.not_lt.mpr h)

end

section
variable {s : State} {r : VerifyRec} (hr : s.verify = some r)
include hr

theorem State.settleVerify_of_open (h : ¬(r.outstanding = 0 ∧ r.reports = [])) : s.settleVerify = s := by
  unfold State.settleVerify
  rw [hr]
  exact if_neg h

theorem State.settleVerify_of_found (hout : r.outstanding = 0) (hreports : r.reports = []) (h : r.mismatches ≠ []) :
    s.settleVerify = { s with frameRun := .listing r 0 } := by
  unfold State.settleVerify
  rw [hr]
  exact (if_pos ⟨hout, hreports⟩).trans (if_neg h)

theorem State.settleVerify_of_same (hout : r.outstanding = 0) (hreports : r.reports = []) (h : r.mismatches = []) :
    s.settleVerify = s.completeFrame r.result := by
  unfold State.settleVerify
  rw [hr]
  exact (if_pos ⟨hout, hreports⟩).trans (if_pos h)

end

/-- What runs does not matter to the completion of the frame job. -/
theorem State.completeFrame_of_frameRun (s : State) (x : FrameRun) (r : Result) :
    ({ s with frameRun := x } : State).completeFrame r = s.completeFrame r := by
  have hsame : ({ s with frameRun := x } : State).running .frame = s.running .frame := rfl
  unfold State.completeFrame
  rw [hsame]
  cases s.running .frame <;> rfl

theorem Port.freeBuf_of_used {x : Port} {b : BufId} (h : x.buf b ≠ .free) :
    x.freeBuf b = { x.setBuf b .free with olderFree := b.other } := by
  unfold Port.freeBuf
  split
  · next hfree => exact absurd hfree h
  all_goals rfl

/-- The state with the buffer and the engine of a recomposition free again. -/
def State.recomposed (s : State) (p : PortId) (b : BufId) : State :=
  { s with ports := (s.setPort p { (s.port p).setBuf b .free with olderFree := b.other }).ports,
           compositions := s.compositions + 1, composer := { s.composer with engine := .free } }

theorem exec_verifyRecomposition {s : State} {i : TileId} {p : PortId} {b : BufId} {r : VerifyRec} {tab : LayerTable}
    (hengine : s.composer.engine = .verify i p b) (hrun : s.frameRun = .verify r) (htable : r.table = some tab)
    (hbuf : (s.port p).buf b ≠ .free) (image : MemImage) : exec (.verifyRecomposition image) s =
      .next (State.settleVerify { s.recomposed p b with frameRun := FrameRun.verify (r.compare
        (crc32 (tab.stripePixels (s.tile i).geom (imageByte image s.compositions) r.stripe))) }).settle := by
  have hfreed : s.modPort p (fun x => x.freeBuf b) = s.setPort p { (s.port p).setBuf b .free with olderFree := b.other } :=
    congrArg (s.setPort p) (Port.freeBuf_of_used hbuf)
  simp only [exec, execVerifyRecomposition, hengine, State.verify_eq_some.mpr hrun, htable, hfreed, State.settled]
  rfl

/-- The VERIFY after the last stripe of a report has been compared. -/
def VerifyRec.reported (r : VerifyRec) (rep : Report) (rest : List Report) (crc : Word) : VerifyRec :=
  { r with mismatches := r.found rep crc, stripe := 0, reports := rest, checked := r.checked ||| bitOf rep.tile }

/-- Settles O26: the comparison, and what is left for the VERIFY to do. -/
theorem verifyRecompositionCompares : Obligations.VerifyRecompositionCompares := by
  intro s i p b r tab rep rest image hengine hrun htable hreports hbuf
  dsimp only
  rw [exec_verifyRecomposition hengine hrun htable hbuf]
  generalize crc32 (tab.stripePixels (s.tile i).geom (imageByte image s.compositions) r.stripe) = crc
  refine ⟨fun hmore => ?_, fun hlast hleft => ?_, fun hlast hrest hout hfound => ?_, fun hlast hrest hout hfound => ?_⟩
  · rw [VerifyRec.compare_of_more hreports crc hmore, State.settleVerify_of_open rfl]
    · rfl
    · exact fun h => nomatch hreports.symm.trans h.2
  · rw [VerifyRec.compare_of_last hreports crc hlast, State.settleVerify_of_open rfl]
    · rfl
    · exact fun h => hleft.elim (fun k => k h.2) (fun k => k h.1)
  · rw [VerifyRec.compare_of_last hreports crc hlast,
      State.settleVerify_of_found (r := r.reported rep rest crc) rfl hout hrest hfound]
    rfl
  · rw [VerifyRec.compare_of_last hreports crc hlast,
      State.settleVerify_of_same (r := r.reported rep rest crc) rfl hout hrest hfound, State.completeFrame_of_frameRun]
    rfl

end Sys2Proof.Machine

/-! SUPPORT. O24 and O25: packets handed to the ports of a job's targets, the values of a LUT_LOAD and the CHECKs of a VERIFY
(R120, R121, R123, R179, R182). -/
namespace Sys2Proof.Machine

/-! ## A packet for each target -/

section
variable (k : Reliable)

theorem State.handPacket_keeps (s : State) (t : TileId) : ∃ ps, s.handPacket t k = { s with ports := ps } := by
  unfold State.handPacket
  split
  · exact ⟨s.ports, rfl⟩
  · exact ⟨_, rfl⟩

theorem State.port_handPacket (s : State) (t : TileId) (p : PortId) :
    (s.handPacket t k).port p = if (s.tile t).geom.port = some p then (s.port p).enqueue k else s.port p := by
  unfold State.handPacket
  cases (s.tile t).geom.port with
  | none => rfl
  | some q => simp [State.port_modPort]

/-- The packet handed to the port of each tile of a list. -/
def State.handAll (s : State) (ids : List TileId) : State := s.forEach ids fun t u => u.handPacket t k

theorem State.handAll_keeps (ids : List TileId) (s : State) : ∃ ps, s.handAll k ids = { s with ports := ps } := by
  unfold State.handAll State.forEach
  induction ids generalizing s with
  | nil => exact ⟨s.ports, rfl⟩
  | cons i ids ih =>
    obtain ⟨qs, hone⟩ := s.handPacket_keeps k i
    obtain ⟨ps, hrest⟩ := ih (s.handPacket i k)
    exact ⟨ps, by rw [List.foldl_cons, hrest, hone]⟩

/-- A port of none of the tiles is as it was. -/
theorem State.port_handAll_of_none {ids : List TileId} {s : State} {p : PortId} (h : ∀ i ∈ ids, (s.tile i).geom.port ≠ some p) :
    (s.handAll k ids).port p = s.port p := by
  unfold State.handAll State.forEach
  induction ids generalizing s with
  | nil => rfl
  | cons i ids ih =>
    have htiles (j : TileId) : (s.handPacket i k).tile j = s.tile j := by
      obtain ⟨ps, heq⟩ := s.handPacket_keeps k i
      rw [heq]
      rfl
    rw [List.foldl_cons, ih fun j hj => by rw [htiles]; exact h j (List.mem_cons_of_mem i hj), State.port_handPacket,
      if_neg (h i List.mem_cons_self)]

/-- A port of one of the tiles has the packet behind what waited there. -/
theorem State.port_handAll_of_one {ids : List TileId} (hnodup : ids.Nodup) {s : State} {i : TileId} {p : PortId} (hi : i ∈ ids)
    (hport : (s.tile i).geom.port = some p) (hone : ∀ j : TileId, j ≠ i → (s.tile j).geom.port ≠ some p) :
    (s.handAll k ids).port p = (s.port p).enqueue k := by
  unfold State.handAll State.forEach
  induction ids generalizing s with
  | nil => exact nomatch hi
  | cons j ids ih =>
    obtain ⟨hj, hids⟩ := List.nodup_cons.mp hnodup
    have htiles (m : TileId) : (s.handPacket j k).tile m = s.tile m := by
      obtain ⟨ps, heq⟩ := s.handPacket_keeps k j
      rw [heq]
      rfl
    rw [List.foldl_cons]
    by_cases heq : j = i
    · subst heq
      have hrest := State.port_handAll_of_none k (s := s.handPacket j k) (p := p)
        fun m hm => by rw [htiles]; exact hone m fun hmj => hj (hmj ▸ hm)
      rw [State.handAll, State.forEach] at hrest
      rw [hrest, State.port_handPacket, if_pos hport]
    · rw [ih hids ((List.mem_cons.mp hi).resolve_left (Ne.symm heq)) (by rw [htiles]; exact hport)
        (fun m hm => by rw [htiles]; exact hone m hm), State.port_handPacket, if_neg (hone j heq)]

end

theorem Mask.idsOf_zero : idsOf 0 = [] :=
  List.filter_eq_nil_iff.mpr fun i _ => by rw [Mask.has_zero]; exact Bool.false_ne_true

/-! ## The values of a LUT_LOAD (R120, R121, R123) -/

theorem State.tableReady_iff (s : State) (i : TileId) : s.tableReady i = true ↔
    ∃ p, (s.tile i).geom.port = some p ∧ (s.port p).link = .up ∧ ∀ e f, (s.tile i).back ≠ .scheduled e f := by
  have hfree : (!(s.tile i).back.scheduled?) = true ↔ ∀ e f, (s.tile i).back ≠ .scheduled e f := by
    cases (s.tile i).back <;> simp [BackStore.scheduled?]
  unfold State.tableReady
  cases (s.tile i).geom.port with
  | none => simp
  | some p => simp only [Bool.and_eq_true, beq_iff_eq, hfree, Option.some.injEq, exists_eq_left']

/-- The targets of a LUT_LOAD that are ready for its TABLE. -/
def State.readyOf (s : State) (r : LutRec) : Mask := maskOf fun i => Mask.has r.targets i && s.tableReady i

/-- The LUT_LOAD with its TABLEs handed out. -/
def State.queuedLut (s : State) (r : LutRec) : LutRec :=
  { r with outstanding := s.readyOf r, skipped := r.targets &&& ~~~s.readyOf r }

/-- The TABLE of a LUT_LOAD. -/
def LutRec.table (r : LutRec) : Reliable := .table { mode := r.mode, start := r.start, values := r.values } r.serial false

theorem State.queueTables_eq (s : State) (r : LutRec) : s.queueTables r =
    (State.handAll r.table { s with frameRun := .lut (s.queuedLut r) } (idsOf (s.readyOf r))).settleLut := rfl

theorem State.settleLut_of_open {s : State} {r : LutRec} (hr : s.lut = some r) (h : r.outstanding ≠ 0) : s.settleLut = s := by
  unfold State.settleLut
  rw [hr]
  exact if_neg h

theorem State.queueTables_of_ready {s : State} {r : LutRec} (h : s.readyOf r ≠ 0) : s.queueTables r =
    State.handAll r.table { s with frameRun := .lut (s.queuedLut r) } (idsOf (s.readyOf r)) := by
  rw [State.queueTables_eq]
  obtain ⟨ps, hps⟩ := State.handAll_keeps r.table (idsOf (s.readyOf r)) { s with frameRun := .lut (s.queuedLut r) }
  rw [hps]
  exact State.settleLut_of_open (r := s.queuedLut r) rfl h

theorem State.queueTables_of_none {s : State} {r : LutRec} (h : s.readyOf r = 0) : s.queueTables r = s.completeFrame
    { outcome := (s.queuedLut r).outcome, flags := r.flags, detail := detailMasks r.acked r.targets r.cleared } := by
  have hskipped : (s.queuedLut r).skipped = r.targets := by
    show r.targets &&& ~~~s.readyOf r = r.targets
    rw [h]
    exact Mask.ext fun t => by rw [Mask.has_and, Mask.has_not, Mask.has_zero]; simp
  rw [State.queueTables_eq, h, Mask.idsOf_zero]
  unfold State.settleLut
  rw [show (State.handAll r.table { s with frameRun := .lut (s.queuedLut r) } []).lut = some (s.queuedLut r) from rfl]
  refine (if_pos h).trans ((State.completeFrame_of_frameRun _ _ _).trans ?_)
  rw [hskipped]
  rfl

/-- The LUT_LOAD with more words read (R120). -/
def LutRec.read (r : LutRec) (ws : List Half) : LutRec := { r with values := r.values ++ ws.map fun w => w &&& 0x3FF }

theorem exec_valuesWordRead {s : State} {r : LutRec} (hrun : s.frameRun = .values r) {ws : List Half}
    (hcount : r.values.length + ws.length ≤ r.count) : exec (.valuesWordRead (some ws)) s =
      if r.values.length + ws.length < r.count then .next { s with frameRun := .values (r.read ws) }
      else .next (s.queueTables (r.read ws)).settle := by
  have hvalues : (r.values ++ ws.map tableValue).take r.count = r.values ++ ws.map tableValue :=
    List.take_of_length_le (by simpa using hcount)
  simp only [exec, execValuesWordRead, hrun, hvalues, List.length_append, List.length_map, State.settled]
  rfl

/-- Settles O24: the read's ends, and the TABLEs of the targets that are ready. -/
theorem valuesAreReadAndTablesQueued : Obligations.ValuesAreReadAndTablesQueued := by
  refine ⟨fun s r hrun => ⟨fun j hj => ?_, ?_, fun ws => ⟨fun hmore => ?_, fun hlast => ?_⟩⟩, State.tableReady_iff, fun r => rfl⟩
  · simp only [State.listRead, hrun, hj, Job.valuesRead]
  · simp only [exec, execValuesWordRead, hrun, State.settled]
  · exact (exec_valuesWordRead hrun hmore.le).trans (if_pos hmore)
  · dsimp only
    rw [exec_valuesWordRead hrun hlast.le, if_neg (Nat.not_lt.mpr hlast.ge)]
    refine ⟨fun hready => ⟨_, rfl, ?_⟩, fun hnone => ?_⟩
    · rw [State.queueTables_of_ready (r := r.read ws) hready]
      obtain ⟨ps, hps⟩ := State.handAll_keeps (r.read ws).table (idsOf (s.readyOf (r.read ws)))
        { s with frameRun := .lut (s.queuedLut (r.read ws)) }
      refine ⟨by rw [hps]; rfl, fun i p hi hport hone => ?_, fun p hnone => ?_, by rw [hps], by rw [hps]⟩
      · have hready : Mask.has (s.readyOf (r.read ws)) i = true := hi
        have hup : (s.port p).link = .up := by
          rw [Mask.has_maskOf, Bool.and_eq_true, State.tableReady_iff] at hi
          obtain ⟨-, q, hq, hup, -⟩ := hi
          exact Option.some.inj (hport.symm.trans hq) ▸ hup
        refine (State.port_handAll_of_one (s := { s with frameRun := .lut (s.queuedLut (r.read ws)) }) _ (nodup_idsOf _)
          (mem_idsOf.mpr hready) hport hone).trans ?_
        exact Port.enqueue_of_on (fun hoff => nomatch hup.symm.trans hoff) _
      · exact State.port_handAll_of_none _ fun i hi => hnone i (mem_idsOf.mp hi)
    · rw [State.queueTables_of_none (r := r.read ws) hnone]
      rfl

/-! ## The targets of a VERIFY (R179, R182) -/

theorem State.checkReady_iff (s : State) (i : TileId) : s.checkReady i = true ↔
    ∃ tab p, s.composer.shown = some tab ∧ (s.tile i).geom.port = some p ∧ (s.port p).link = .up ∧ (s.tile i).front = tab.epoch := by
  unfold State.checkReady
  cases s.composer.shown with
  | none => simp
  | some tab =>
    cases (s.tile i).geom.port with
    | none => simp
    | some p => simp

/-- The targets of a VERIFY that are sent a CHECK. -/
def State.checkedOf (s : State) (targets : Mask) : Mask := maskOf fun i => Mask.has targets i && s.checkReady i

/-- The VERIFY with its CHECKs handed out. -/
def State.newVerify (s : State) (list : Word) (targets : Mask) : VerifyRec :=
  { serial := s.serial + 1, list := list, table := s.composer.shown, targets := targets, outstanding := s.checkedOf targets,
    reports := [], stripe := 0, checked := 0, unchecked := targets &&& ~~~s.checkedOf targets, mismatches := [], flags := .clear }

/-- The state in which a VERIFY hands its CHECKs out. -/
def State.verifying (s : State) (list : Word) (targets : Mask) : State :=
  { s with serial := s.serial + 1, frameRun := .verify (s.newVerify list targets) }

theorem State.queueChecks_eq (s : State) (list : Word) (targets : Mask) : s.queueChecks list targets =
    (State.handAll (.check (match s.composer.shown with | some tab => tab.epoch | none => 0) (s.serial + 1) false)
      (s.verifying list targets) (idsOf (s.checkedOf targets))).settleVerify := rfl

theorem State.queueChecks_of_ready {s : State} {targets : Mask} (h : s.checkedOf targets ≠ 0) {tab : LayerTable}
    (hshown : s.composer.shown = some tab) (list : Word) : s.queueChecks list targets =
      State.handAll (.check tab.epoch (s.serial + 1) false) (s.verifying list targets) (idsOf (s.checkedOf targets)) := by
  rw [State.queueChecks_eq, hshown]
  obtain ⟨ps, hps⟩ := State.handAll_keeps (.check tab.epoch (s.serial + 1) false) (idsOf (s.checkedOf targets)) (s.verifying list targets)
  simp only
  rw [hps]
  exact State.settleVerify_of_open (r := s.newVerify list targets) rfl fun hnone => h hnone.1

theorem VerifyRec.mismatched_nil {r : VerifyRec} (h : r.mismatches = []) : r.mismatched = 0 := by
  unfold VerifyRec.mismatched
  rw [h]
  exact Mask.ext fun t => by rw [Mask.has_maskOf, Mask.has_zero]; rfl

theorem State.queueChecks_of_none {s : State} {targets : Mask} (h : s.checkedOf targets = 0) (list : Word) :
    s.queueChecks list targets =
      State.completeFrame { s with serial := s.serial + 1 } (plainResult .tileLost (detailVerify 0 targets 0 0 0 false)) := by
  have hunchecked : (s.newVerify list targets).unchecked = targets := by
    show targets &&& ~~~s.checkedOf targets = targets
    rw [h]
    exact Mask.ext fun t => by rw [Mask.has_and, Mask.has_not, Mask.has_zero]; simp
  rw [State.queueChecks_eq, h, Mask.idsOf_zero]
  refine (State.settleVerify_of_same (r := s.newVerify list targets) rfl h rfl rfl).trans ?_
  rw [VerifyRec.result, VerifyRec.mismatched_nil rfl, hunchecked]
  exact State.completeFrame_of_frameRun { s with serial := s.serial + 1 } _ _

theorem execVerify_of_fault {s : State} {j : Job} {x : Reason} (hs : s.startedFrame .verify = some j)
    (hfault : verifyFault j (s.targets (j.mask 16)) = some x) :
    exec .verify s = .next (s.completeFrame (invalidResult x none none)).settle := by
  simp only [exec, execVerify, hs, hfault, State.settled]

theorem execVerify_of_pass {s : State} {j : Job} (hs : s.startedFrame .verify = some j)
    (hpass : verifyFault j (s.targets (j.mask 16)) = none) :
    exec .verify s = .next (s.queueChecks (j.word 20) (s.targets (j.mask 16))).settle := by
  simp only [exec, execVerify, hs, hpass, State.settled]

/-- Settles O25: the checks, the CHECKs of the targets that are ready, and the result read off the record. -/
theorem verifyJudgesItsTargets : Obligations.VerifyJudgesItsTargets := by
  refine ⟨fun s j hs => ?_, State.checkReady_iff, fun r => ⟨rfl, fun i => ?_, rfl⟩⟩
  · dsimp only
    have hpass (hlist : j.word 20 ≠ 0) (halign : (j.word 20).toNat % 4 = 0) (hsome : s.targets (j.mask 16) ≠ 0) :
        verifyFault j (s.targets (j.mask 16)) = none := by
      rw [verifyFault, if_neg hlist, if_neg (not_not.mpr halign), if_neg hsome]
    refine ⟨fun hlist => ?_, fun hlist halign => ?_, fun hlist halign hnone => ?_, fun hlist halign hsome hready => ?_,
      fun hlist halign hsome hready tab hshown => ⟨_, execVerify_of_pass hs (hpass hlist halign hsome), ?_⟩⟩
    · exact execVerify_of_fault hs (if_pos hlist)
    · exact execVerify_of_fault hs (by rw [verifyFault, if_neg hlist, if_pos halign])
    · exact execVerify_of_fault hs (by rw [verifyFault, if_neg hlist, if_neg (not_not.mpr halign), if_pos hnone])
    · rw [execVerify_of_pass hs (hpass hlist halign hsome), State.queueChecks_of_none hready]
    · rw [State.queueChecks_of_ready hready hshown]
      obtain ⟨ps, hps⟩ := State.handAll_keeps (.check tab.epoch (s.serial + 1) false)
        (idsOf (s.checkedOf (s.targets (j.mask 16)))) (s.verifying (j.word 20) (s.targets (j.mask 16)))
      refine ⟨⟨s.newVerify (j.word 20) (s.targets (j.mask 16)), by rw [hps]; rfl, hshown, rfl, rfl, rfl, rfl, rfl, rfl⟩,
        fun i p hi hport hone => ?_, by rw [hps]; rfl, by rw [hps]; rfl⟩
      have hready : Mask.has (s.checkedOf (s.targets (j.mask 16))) i = true := hi
      have hup : (s.port p).link = .up := by
        rw [Mask.has_maskOf, Bool.and_eq_true, State.checkReady_iff] at hi
        obtain ⟨-, tab', q, -, hq, hup, -⟩ := hi
        exact Option.some.inj (hport.symm.trans hq) ▸ hup
      refine (State.port_handAll_of_one (s := s.verifying (j.word 20) (s.targets (j.mask 16))) _ (nodup_idsOf _)
        (mem_idsOf.mpr hready) hport hone).trans ?_
      exact Port.enqueue_of_on (fun hoff => nomatch hup.symm.trans hoff) _
  · unfold VerifyRec.mismatched
    rw [Mask.has_maskOf, List.any_eq_true]
    constructor
    · rintro ⟨⟨t, k⟩, hm, ht⟩
      exact ⟨k, beq_iff_eq.mp ht ▸ hm⟩
    · rintro ⟨k, hm⟩
      exact ⟨(i, k), hm, beq_self_eq_true i⟩

end Sys2Proof.Machine

/-! SUPPORT. What picture work and the ports do to the Job List: results are handed to the job the frame lane runs, to a LINK_TEST
that ends, and to nobody else. -/
namespace Sys2Proof.Machine

/-! ## Neither the Job List nor the kind of frame job changes -/

/-- Which of its states the frame job is in, without its record. -/
def FrameRun.kind : FrameRun → Nat
  | .idle => 0 | .started => 1 | .layers _ => 2 | .scene _ => 3 | .entries _ => 4 | .values _ => 5 | .lut _ => 6 | .verify _ => 7
  | .listing _ _ => 8

/-- The Job List, and the state of the frame job. -/
def State.jobRun (s : State) : List Job × Nat := (s.jobs, s.frameRun.kind)

section
variable (s : State)

@[simp] theorem State.jobRun_modPort (p f) : (s.modPort p f).jobRun = s.jobRun := rfl
@[simp] theorem State.jobRun_modTile (t f) : (s.modTile t f).jobRun = s.jobRun := rfl
@[simp] theorem State.jobRun_setTile (t x) : (s.setTile t x).jobRun = s.jobRun := rfl
@[simp] theorem State.jobRun_raiseTile : s.raiseTile.jobRun = s.jobRun := rfl
@[simp] theorem State.jobRun_raiseReference : s.raiseReference.jobRun = s.jobRun := rfl
@[simp] theorem State.jobRun_modScene (f) : (s.modScene f).jobRun = s.jobRun := by
  unfold State.modScene
  split
  · next h => simp [State.jobRun, FrameRun.kind, h]
  all_goals rfl
@[simp] theorem State.jobRun_modLut (f) : (s.modLut f).jobRun = s.jobRun := by
  unfold State.modLut
  split
  · next h => simp [State.jobRun, FrameRun.kind, h]
  · next h => simp [State.jobRun, FrameRun.kind, h]
  all_goals rfl
@[simp] theorem State.jobRun_modVerify (f) : (s.modVerify f).jobRun = s.jobRun := by
  unfold State.modVerify
  split
  · next h => simp [State.jobRun, FrameRun.kind, h]
  · next h => simp [State.jobRun, FrameRun.kind, h]
  all_goals rfl
@[simp] theorem State.jobRun_queueDiscard (t e) : (s.queueDiscard t e).jobRun = s.jobRun := by
  unfold State.queueDiscard
  split <;> rfl
@[simp] theorem State.jobRun_releaseEngine (p) : (s.releaseEngine p).jobRun = s.jobRun := by
  unfold State.releaseEngine
  repeat' split
  all_goals rfl
@[simp] theorem State.jobRun_setCursor (t n) : (s.setCursor t n).jobRun = s.jobRun := s.jobRun_modScene _
@[simp] theorem State.jobRun_flushPort (p) : (s.flushPort p).jobRun = s.jobRun := by
  have hfreed : ((s.modPort p Port.flush).releaseEngine p).jobRun = s.jobRun := (State.jobRun_releaseEngine _ p).trans rfl
  unfold State.flushPort
  simp only
  split
  · exact ite_keeps State.jobRun ((State.jobRun_setCursor _ _ _).trans hfreed) hfreed
  · exact hfreed
@[simp] theorem State.jobRun_freeTile (t) : (s.freeTile t).jobRun = s.jobRun := by
  unfold State.freeTile
  split <;> simp
@[simp] theorem State.jobRun_stopDelivery (e t) : (s.stopDelivery e t).jobRun = s.jobRun := by
  unfold State.stopDelivery
  simp only
  split <;> simp
@[simp] theorem State.jobRun_endAtTile (e t) : (s.endAtTile e t).jobRun = s.jobRun := by
  have hfreed := s.jobRun_freeTile t
  unfold State.endAtTile
  refine ite_keeps State.jobRun ?_ ?_
  · rw [State.jobRun_queueDiscard]
    split
    · exact hfreed
    · split <;> exact hfreed
  · split
    · exact hfreed
    · split <;> exact hfreed
@[simp] theorem State.jobRun_present (x) : (s.present x).jobRun = s.jobRun := by
  unfold State.present
  split <;> rfl
@[simp] theorem State.jobRun_confirmFlip (t x) : (s.confirmFlip t x).jobRun = s.jobRun := by
  unfold State.confirmFlip
  rw [State.jobRun_present, State.jobRun_modScene]
  split <;> rfl
@[simp] theorem State.jobRun_unconfirm (t c) : (s.unconfirm t c).jobRun = s.jobRun := s.jobRun_modScene _
@[simp] theorem State.jobRun_passLimit (r t) : (s.passLimit r t).jobRun = s.jobRun := by
  have hout := s.jobRun_unconfirm t .limit
  unfold State.passLimit
  simp only
  split
  · exact hout
  · split <;> exact hout
@[simp] theorem State.jobRun_blankFront (t) : (s.blankFront t).jobRun = s.jobRun := by
  unfold State.blankFront
  split <;> rfl
@[simp] theorem State.jobRun_dropQueuedOf (t f) : (s.dropQueuedOf t f).jobRun = s.jobRun := by
  unfold State.dropQueuedOf
  split <;> rfl
@[simp] theorem State.jobRun_noteTable (k) : (s.noteTable k).jobRun = s.jobRun := s.jobRun_modLut _
@[simp] theorem State.jobRun_noteRetrain (p) : (s.noteRetrain p).jobRun = s.jobRun := by
  unfold State.noteRetrain
  repeat' split
  all_goals simp
@[simp] theorem State.jobRun_beginAttempt (p g) : (s.beginAttempt p g).jobRun = s.jobRun := rfl

end

/-! ## Entries that are spared -/

/-- Two entries of one block; where `kept` holds, and where there is one already, the result is the same. -/
def Job.After (kept : Job → Prop) (j k : Job) : Prop := k.entry = j.entry ∧ (kept j ∨ j.result ≠ none → k.result = j.result)

theorem Job.After.refl (kept : Job → Prop) (j : Job) : j.After kept j := ⟨rfl, fun _ => rfl⟩

theorem Job.addr_of_entry {j k : Job} (h : k.entry = j.entry) : k.addr = j.addr ∧ k.lane = j.lane ∧ k.status = j.status ∧
    k.kind = j.kind ∧ k.params = j.params :=
  ⟨(Job.mk.injEq .. ▸ h).1, (Job.mk.injEq .. ▸ h).2.2.2.2.2.1, (Job.mk.injEq .. ▸ h).2.2.2.2.2.2.1, (Job.mk.injEq .. ▸ h).2.1,
    (Job.mk.injEq .. ▸ h).2.2.2.2.1⟩

/-- The frame job is in no state in which an event of a port or a frame start can complete it. -/
def State.inert (s : State) : Prop := s.frameRun.kind ≠ 3 ∧ s.frameRun.kind ≠ 6 ∧ s.frameRun.kind ≠ 7

/-- No frame job RUNNING. -/
def Job.apart (k : Job) : Prop := k.lane = some .frame → k.status ≠ .running

/-- Nothing that happens to the frame job concerns block `a`. -/
def State.calm (a : Word) (s : State) : Prop := s.inert ∨ ∀ k ∈ s.jobs, k.addr = a → k.apart

/-- The Job List goes on with block `a` spared. -/
def State.Spares (a : Word) (s t : State) : Prop :=
  (s.calm a → t.calm a) ∧ List.Forall₂ (Job.After fun j => s.calm a ∧ j.addr = a) s.jobs t.jobs

section
variable {a : Word} {s t u : State}

/-- What an entry alone decides stays true of the block. -/
theorem forall₂_entries {P : Job → Prop} (hP : ∀ {j k : Job}, k.entry = j.entry → P j → P k) {kept : Job → Prop} {js ks : List Job}
    (h : List.Forall₂ (Job.After kept) js ks) (hjs : ∀ k ∈ js, k.addr = a → P k) : ∀ k ∈ ks, k.addr = a → P k := by
  induction h with
  | nil => exact hjs
  | cons hjk _ ih =>
    obtain ⟨haddr, -⟩ := Job.addr_of_entry hjk.1
    intro k hk ha
    rcases List.mem_cons.mp hk with rfl | hk
    · exact hP hjk.1 (hjs _ List.mem_cons_self (haddr.symm.trans ha))
    · exact ih (fun k hk => hjs k (List.mem_cons_of_mem _ hk)) k hk ha

theorem forall₂_lanes {kept : Job → Prop} {js ks : List Job} (h : List.Forall₂ (Job.After kept) js ks)
    (hjs : ∀ k ∈ js, k.addr = a → k.lane ≠ some .frame) : ∀ k ∈ ks, k.addr = a → k.lane ≠ some .frame :=
  forall₂_entries (fun hentry hlane => by rw [(Job.addr_of_entry hentry).2.1]; exact hlane) h hjs

theorem Job.apart_of_entry {j k : Job} (h : k.entry = j.entry) (hj : j.apart) : k.apart := by
  obtain ⟨-, hlane, hstatus, -⟩ := Job.addr_of_entry h
  unfold Job.apart
  rw [hlane, hstatus]
  exact hj

theorem State.spares_of_jobRun (h : t.jobRun = s.jobRun) : s.Spares a t := by
  have hjobs : t.jobs = s.jobs := congrArg Prod.fst h
  have hkind : t.frameRun.kind = s.frameRun.kind := congrArg Prod.snd h
  refine ⟨fun hs => ?_, hjobs ▸ List.forall₂_same.mpr fun k _ => Job.After.refl _ k⟩
  unfold State.calm State.inert
  rw [hjobs, hkind]
  exact hs

theorem State.Spares.refl (a : Word) (s : State) : s.Spares a s := State.spares_of_jobRun rfl

theorem State.Spares.trans (h : s.Spares a t) (k : t.Spares a u) : s.Spares a u := by
  refine ⟨k.1 ∘ h.1, ?_⟩
  obtain ⟨hcalm, hst⟩ := h
  obtain ⟨-, htu⟩ := k
  generalize s.jobs = xs at *
  generalize t.jobs = ys at *
  generalize u.jobs = zs at *
  induction hst generalizing zs with
  | nil =>
    cases htu
    exact .nil
  | cons hjk _ ih =>
    cases htu with
    | cons hkl hrest =>
      refine .cons ⟨hkl.1.trans hjk.1, fun h => ?_⟩ (ih _ hrest)
      have hone := hjk.2 h
      rw [hkl.2 (h.imp (fun hc => ⟨hcalm hc.1, (Job.addr_of_entry hjk.1).1.trans hc.2⟩) fun hsome => hone ▸ hsome), hone]

/-- An operation after what spares a block. -/
theorem State.Spares.then (h : s.Spares a t) (k : u.jobRun = t.jobRun) : s.Spares a u := h.trans (State.spares_of_jobRun k)

/-- A change of every entry that keeps what `Spares` asks for. -/
theorem State.spares_of_map {f : Job → Job} (hjobs : t.jobs = s.jobs.map f) (hf : ∀ k ∈ s.jobs, k.After (fun j => s.calm a ∧ j.addr = a) (f k))
    (hrun : s.inert → t.inert) : s.Spares a t := by
  have hall : List.Forall₂ (Job.After fun j => s.calm a ∧ j.addr = a) s.jobs t.jobs := by
    rw [hjobs, List.forall₂_map_right_iff]
    exact List.forall₂_same.mpr hf
  exact ⟨fun h => h.imp hrun (forall₂_entries Job.apart_of_entry hall), hall⟩

theorem Job.after_hand {kept : Job → Prop} {k : Job} (h : ¬kept k) (x : Result) : k.After kept (k.hand x) := by
  refine ⟨Job.entry_hand k x, fun hk => ?_⟩
  have hsome := hk.resolve_left h
  unfold Job.hand
  split
  · next hnone => exact absurd hnone hsome
  · rfl

/-- A result handed to another block (R160). -/
theorem State.spares_hand {b : Word} (hb : b ≠ a) (x : Result) : s.Spares a (s.hand b x) := by
  refine State.spares_of_map (f := fun k => if k.addr = b then k.hand x else k) rfl (fun k _ => ?_) id
  split
  · next hk => exact Job.after_hand (fun h => hb (hk.symm.trans h.2)) x
  · exact Job.After.refl _ _

/-- The completion of the frame job, in a state in which block `a` is none of the frame lane's (R160). -/
theorem State.spares_completeFrame (h : ¬s.inert) (x : Result) : s.Spares a (s.completeFrame x) := by
  have hstill : (s.completeFrame x).inert := by
    unfold State.inert
    rw [State.completeFrame_frameRun]
    decide
  unfold State.completeFrame at hstill ⊢
  split at hstill
  · exact ⟨fun _ => .inl hstill, List.forall₂_same.mpr fun k _ => Job.After.refl _ _⟩
  · next j hrun =>
    refine State.spares_of_map (f := fun k => if k.addr = j.addr then k.hand x else k) rfl (fun k hk => ?_) fun _ => hstill
    split
    · next haddr =>
      refine Job.after_hand (fun hkept => ?_) x
      obtain ⟨hcalm, hka⟩ := hkept
      have hmatch := List.find?_some hrun
      simp only [Bool.and_eq_true, beq_iff_eq] at hmatch
      exact hcalm.resolve_left h j (List.mem_of_find?_eq_some hrun) (haddr.symm.trans hka) hmatch.1.1 hmatch.1.2
    · exact Job.After.refl _ _

theorem State.spares_writeProgress (s : State) (v : Progress) : s.Spares a (s.writeProgress v) := by
  unfold State.writeProgress
  split
  · exact State.Spares.refl a s
  · next j _ =>
    refine State.spares_of_map (f := fun k => if k.addr = j.addr then k.addWrite (.progress v) else k) rfl (fun k _ => ?_) id
    split
    · exact ⟨Job.entry_addWrite _ k, fun _ => rfl⟩
    · exact Job.After.refl _ _

/-- A loop of which each round spares the block. -/
theorem State.spares_foldl {β : Type} (f : State → β → State) (h : ∀ (u : State) b, u.Spares a (f u b)) (bs : List β) (s : State) :
    s.Spares a (bs.foldl f s) := by
  induction bs generalizing s with
  | nil => exact State.Spares.refl a s
  | cons b bs ih => exact (h s b).trans (ih (f s b))

theorem ite_spares {c : Prop} [Decidable c] (ht : s.Spares a t) (hu : s.Spares a u) : s.Spares a (if c then t else u) := by
  split
  · exact ht
  · exact hu

end

/-! ## The scene (R49–R71) -/

theorem State.not_inert_of_scene {s : State} {r : SceneRec} (h : s.scene = some r) : ¬s.inert := fun k => by
  have hrun := State.scene_eq_some.mp h
  exact k.1 (by rw [hrun]; rfl)

theorem State.not_inert_of_lut {s : State} {r : LutRec} (h : s.lut = some r) : ¬s.inert := fun k => by
  unfold State.lut at h
  split at h
  · next hrun => exact k.2.1 (by rw [hrun]; rfl)
  all_goals cases h

theorem State.not_inert_of_verify {s : State} {r : VerifyRec} (h : s.verify = some r) : ¬s.inert := fun k => by
  have hrun := State.verify_eq_some.mp h
  exact k.2.2 (by rw [hrun]; rfl)

theorem State.not_inert_of_jobRun {s t : State} (h : t.jobRun = s.jobRun) (hs : ¬s.inert) : ¬t.inert := by
  have hkind : t.frameRun.kind = s.frameRun.kind := congrArg Prod.snd h
  unfold State.inert at hs ⊢
  rw [hkind]
  exact hs

section
variable (a : Word) (s : State)

theorem State.spares_completeScene (h : ¬s.inert) (x) : s.Spares a (s.completeScene x) :=
  (State.spares_completeFrame h x).then rfl

theorem State.spares_endSceneWith (h : ¬s.inert) (r x) : s.Spares a (s.endSceneWith r x) := by
  have hended : (s.endedAtTiles r).jobRun = s.jobRun := foldl_keeps State.jobRun _ (fun u t => u.jobRun_endAtTile r.epoch t) _ _
  rw [State.endSceneWith_eq]
  exact (State.spares_of_jobRun hended).trans (State.spares_completeScene a _ (State.not_inert_of_jobRun hended h) x)

theorem State.spares_endSceneEarly (o) : s.Spares a (s.endSceneEarly o) := by
  unfold State.endSceneEarly
  split
  · exact State.Spares.refl a s
  · next r hr => exact State.spares_endSceneWith a s (State.not_inert_of_scene hr) r _

theorem State.spares_settleScene : s.Spares a s.settleScene := by
  unfold State.settleScene
  split
  · exact State.Spares.refl a s
  · next r hr =>
    refine ite_spares (State.Spares.refl a s) ?_
    refine ite_spares (State.spares_completeScene a s (State.not_inert_of_scene hr) _) ?_
    refine ite_spares ?_ (State.Spares.refl a s)
    exact (State.spares_of_jobRun (s.jobRun_modScene _)).trans (State.spares_writeProgress _ _)

theorem State.spares_armScene (r) : s.Spares a (s.armScene r) := by
  unfold State.armScene
  simp only
  refine State.Spares.trans (State.spares_of_jobRun ?_) (State.spares_writeProgress _ _)
  rw [foldl_keeps State.jobRun _ ?_, State.jobRun_modScene]
  intro u t
  split <;> rfl

theorem State.spares_armingRule : s.Spares a s.armingRule := by
  unfold State.armingRule
  split
  · exact State.Spares.refl a s
  · next r hr =>
    simp only
    refine ite_spares (State.Spares.refl a s) (ite_spares (s.spares_endSceneEarly a _) (ite_spares (s.spares_armScene a r)
      (ite_spares (s.spares_endSceneEarly a _) (State.Spares.refl a s))))

theorem State.spares_dropTiles (m c) : s.Spares a (s.dropTiles m c) := by
  unfold State.dropTiles
  split
  · exact State.Spares.refl a s
  · next r hr =>
    simp only
    refine ite_spares (State.Spares.refl a s) (State.Spares.trans (State.spares_of_jobRun ?_) (State.spares_armingRule a _))
    rw [foldl_keeps State.jobRun _ fun u t => u.jobRun_stopDelivery r.epoch t, State.jobRun_modScene]

theorem State.spares_expireDeadline : s.Spares a s.expireDeadline := by
  unfold State.expireDeadline
  split
  · exact State.Spares.refl a s
  · exact (State.spares_of_jobRun (s.jobRun_modScene _)).trans (State.spares_dropTiles a _ _ _)

theorem State.spares_checkLimits : s.Spares a s.checkLimits := by
  unfold State.checkLimits
  split
  · exact State.Spares.refl a s
  · next r hr =>
    exact (State.spares_of_jobRun (foldl_keeps State.jobRun _ (fun u t => u.jobRun_passLimit r t) _ _)).trans
      (State.spares_settleScene a _)

theorem State.spares_lostTile (t) : s.Spares a (s.lostTile t) := by
  have hblank := State.spares_of_jobRun (a := a) (s.jobRun_blankFront t)
  unfold State.lostTile
  simp only
  split
  · exact hblank
  · exact ite_spares (hblank.trans (State.spares_dropTiles a _ _ _))
      (ite_spares (hblank.trans ((State.spares_of_jobRun (State.jobRun_unconfirm _ _ _)).trans (State.spares_settleScene a _))) hblank)

/-! ## A frame start (R129, R131) -/

theorem State.spares_countDeadline : s.Spares a s.countDeadline := by
  unfold State.countDeadline
  split
  · exact State.Spares.refl a s
  · exact ite_spares (ite_spares (s.spares_expireDeadline a) (State.spares_of_jobRun (s.jobRun_modScene _))) (State.Spares.refl a s)

theorem State.spares_issueFrame : s.Spares a s.issueFrame := by
  unfold State.issueFrame
  simp only
  refine State.Spares.trans (State.spares_of_jobRun ?_) ((State.spares_countDeadline a _).trans (State.spares_checkLimits a _))
  exact State.forEach_keeps State.jobRun (fun p u => u.modPort p fun x => x.takeFrame (s.ref.frameNumber + 1)) (fun _ _ => rfl) allIds _

theorem State.spares_fallBack : s.Spares a s.fallBack := (s.spares_issueFrame a).then rfl

theorem State.spares_failSafeEnabled : s.Spares a s.failSafeEnabled :=
  ite_spares (s.spares_fallBack a) (State.Spares.refl a s)

/-! ## The targets of a LUT_LOAD and of a VERIFY (R121–R123, R179–R182) -/

theorem State.spares_settleLut : s.Spares a s.settleLut := by
  unfold State.settleLut
  split
  · exact State.Spares.refl a s
  · next r hr => exact ite_spares (State.spares_completeFrame (State.not_inert_of_lut hr) _) (State.Spares.refl a s)

theorem State.spares_lutSkip (t) : s.Spares a (s.lutSkip t) := by
  unfold State.lutSkip
  split
  · exact State.Spares.refl a s
  · exact ite_spares (State.Spares.trans (State.spares_of_jobRun (by simp)) (State.spares_settleLut a _)) (State.Spares.refl a s)

theorem State.spares_settleVerify : s.Spares a s.settleVerify := by
  unfold State.settleVerify
  split
  · exact State.Spares.refl a s
  · next r hr =>
    refine ite_spares (ite_spares (State.spares_completeFrame (State.not_inert_of_verify hr) _) ?_) (State.Spares.refl a s)
    have hlisting : ({ s with frameRun := .listing r 0 } : State).inert := ⟨(by decide : (8 : Nat) ≠ 3), (by decide : (8 : Nat) ≠ 6), (by decide : (8 : Nat) ≠ 7)⟩
    exact ⟨fun _ => .inl hlisting, List.forall₂_same.mpr fun k _ => Job.After.refl _ _⟩

theorem State.spares_verifyMiss (t) : s.Spares a (s.verifyMiss t) := by
  unfold State.verifyMiss
  split
  · exact State.Spares.refl a s
  · exact ite_spares (State.Spares.trans (State.spares_of_jobRun (by simp)) (State.spares_settleVerify a _)) (State.Spares.refl a s)

theorem State.spares_portLeft (p) : s.Spares a (s.portLeft p) := by
  unfold State.portLeft
  split
  · exact State.Spares.refl a s
  · exact (s.spares_lutSkip a _).trans (State.spares_verifyMiss a _ _)

/-! ## A port that changes its state (R77–R95) -/

theorem State.spares_enterListen (p) : s.Spares a (s.enterListen p) :=
  State.Spares.trans (State.spares_of_jobRun (s.jobRun_modPort p _)) (State.spares_portLeft a _ p)

theorem State.spares_goOff (p) : s.Spares a (s.goOff p) := by
  unfold State.goOff
  exact State.Spares.trans (State.spares_of_jobRun ((State.jobRun_flushPort _ p).trans (s.jobRun_modPort p _)))
    (State.spares_portLeft a _ p)

theorem State.spares_enterLost (p c) : s.Spares a (s.enterLost p c) := by
  have hleft : s.Spares a (((s.raiseTile.modPort p fun x => x.givenUp c).flushPort p).portLeft p) :=
    State.Spares.trans (State.spares_of_jobRun ((State.jobRun_flushPort (s.raiseTile.modPort p fun x => x.givenUp c) p).trans rfl))
      (State.spares_portLeft a _ p)
  unfold State.enterLost
  simp only
  split
  · exact hleft
  · exact hleft.trans (State.spares_lostTile a _ _)

section
variable {p : PortId} (htest : ∀ k, (s.port p).test = some k → k.job ≠ a)
include htest

theorem State.spares_endTestWith (o d) : s.Spares a (s.endTestWith p o d) := by
  unfold State.endTestWith
  split
  · exact State.Spares.refl a s
  · next k hk => exact (State.spares_of_jobRun (s.jobRun_modPort p _)).trans (State.spares_hand (htest k hk) _)

theorem State.spares_exitUp : s.Spares a (s.exitUp p) := by
  unfold State.exitUp
  simp only
  have hflushed : ((((s.port p).requeue).foldl State.noteTable (s.raiseTile.modPort p fun x =>
      { x.clearStream with silenceTimer := none, stability := 0 })).flushPort p).jobRun = s.jobRun :=
    (State.jobRun_flushPort _ p).trans (foldl_keeps State.jobRun _ State.jobRun_noteTable _ _)
  have hsame : ((((s.port p).requeue).foldl State.noteTable (s.raiseTile.modPort p fun x =>
      { x.clearStream with silenceTimer := none, stability := 0 })).flushPort p).quiet =
      (s.raiseTile.modPort p fun x => { x.clearStream with silenceTimer := none, stability := 0 }).quiet :=
    (State.quiet_flushPort _ p).trans (foldl_keeps State.quiet _ State.quiet_noteTable _ _)
  refine (State.spares_of_jobRun hflushed).trans (State.spares_endTestWith a _ (fun k hk => htest k ?_) _ _)
  have hspine := State.spine_of_quiet hsame p
  rw [State.port_modPort_self] at hspine
  exact (congrArg Port.test hspine).symm.trans hk

theorem State.spares_leaveForRequest : s.Spares a (s.leaveForRequest p) := by
  unfold State.leaveForRequest
  split
  · exact s.spares_exitUp a htest
  all_goals exact State.spares_of_jobRun rfl

theorem State.spares_restartPort : s.Spares a (s.restartPort p) := by
  have hoff := ((s.spares_leaveForRequest a htest).trans (State.spares_goOff a _ p)).then (State.jobRun_modPort _ p fun x =>
    { x with tally := 0, attempts := 0, stability := 0, ind := .clear,
             grade := ((s.leaveForRequest p).goOff p).policy.ceiling })
  exact ite_spares (hoff.trans (State.spares_enterListen a _ p)) hoff

theorem State.spares_recoverPort : s.Spares a (s.recoverPort p) := by
  have hleft := (s.spares_leaveForRequest a htest).then (State.jobRun_modPort _ p fun x =>
    { x.clearStream with tally := 0, attempts := 0, stability := 0, grade := (s.leaveForRequest p).policy.ceiling })
  exact ite_spares (hleft.trans (State.spares_goOff a _ p))
    ((hleft.then (State.jobRun_flushPort _ p)).trans (State.spares_enterListen a _ p))

theorem State.spares_applyCeiling : s.Spares a (s.applyCeiling p) := by
  unfold State.applyCeiling
  simp only
  refine ite_spares (State.Spares.refl a s) ?_
  split
  · exact State.spares_of_jobRun rfl
  · refine State.Spares.trans (State.spares_of_jobRun (s.jobRun_modPort p fun x => { x.countRetrain with attempts := 0 }))
      ((State.spares_exitUp a _ (p := p) fun k hk => htest k ?_).then ?_)
    · rw [State.port_modPort_self] at hk
      exact hk
    · rw [State.jobRun_noteRetrain, State.jobRun_beginAttempt]
  all_goals exact State.Spares.refl a s

end

end

/-! ## What is left of a spared block -/

section
variable {a : Word} {s t : State}

theorem State.Spares.addrs (h : s.Spares a t) : t.jobs.map Job.addr = s.jobs.map Job.addr := by
  obtain ⟨-, hall⟩ := h
  generalize s.jobs = js at hall
  generalize t.jobs = ks at hall
  induction hall with
  | nil => rfl
  | cons hjk _ ih => exact congrArg₂ List.cons (Job.addr_of_entry hjk.1).1 ih

/-- The entry of a spared block keeps its result. -/
theorem State.Spares.findJob (h : s.Spares a t) (hs : s.calm a) :
    (t.findJob a).map (fun k => (k.entry, k.result)) = (s.findJob a).map fun k => (k.entry, k.result) := by
  obtain ⟨-, hall⟩ := h
  unfold State.findJob
  generalize s.jobs = js at hall
  generalize t.jobs = ks at hall
  induction hall with
  | nil => rfl
  | cons hjk _ ih =>
    obtain ⟨haddr, -⟩ := Job.addr_of_entry hjk.1
    rw [List.find?_cons, List.find?_cons, haddr]
    split
    · next hmatch =>
      rw [Option.map_some, Option.map_some, hjk.1, hjk.2 (.inl ⟨hs, beq_iff_eq.mp hmatch⟩)]
    · exact ih

/-- The RUNNING job of a lane, if it is at a spared block, is the one that was. -/
theorem State.Spares.running (h : s.Spares a t) (hs : s.calm a) {l : Lane} {j : Job} (hj : s.running l = some j) (ha : j.addr = a) :
    ∃ k, t.running l = some k ∧ k.entry = j.entry ∧ k.result = none := by
  obtain ⟨-, hall⟩ := h
  unfold State.running at hj ⊢
  generalize s.jobs = js at hall hj
  generalize t.jobs = ks at hall
  induction hall with
  | nil => cases hj
  | @cons x y _ _ hxy _ ih =>
    obtain ⟨-, hlane, hstatus, -⟩ := Job.addr_of_entry hxy.1
    rw [List.find?_cons] at hj ⊢
    rw [hlane, hstatus]
    split at hj
    · next hmatch =>
      obtain rfl := Option.some.inj hj
      simp only [Bool.and_eq_true, Option.isNone_iff_eq_none] at hmatch
      have hresult : y.result = none := (hxy.2 (.inl ⟨hs, ha⟩)).trans hmatch.2
      refine ⟨y, ?_, hxy.1, hresult⟩
      rw [hresult]
      simp only [hmatch.1, Option.isNone_none, Bool.and_self]
    · next hmatch =>
      have hno : (x.lane == some l && x.status == .running && y.result.isNone) = false := by
        refine Bool.eq_false_iff.mpr fun hyes => Bool.eq_false_iff.mp hmatch ?_
        simp only [Bool.and_eq_true, Option.isNone_iff_eq_none] at hyes ⊢
        refine ⟨hyes.1, by_contra fun hsome => ?_⟩
        exact hsome ((hxy.2 (.inr hsome)).symm.trans hyes.2)
      rw [hno]
      exact ih hj

end

end Sys2Proof.Machine

/-! SUPPORT. The control lane: results handed to its RUNNING job, a switch that ends, and a look at the lane (R136, R158, R160);
O33, a LINK_TEST that is judged (R174). -/
namespace Sys2Proof.Machine

/-! ## The Job List after a change of its entries -/

section
variable {s t : State} {f : Job → Job}

theorem State.findJob_of_map (hjobs : t.jobs = s.jobs.map f) (hf : ∀ k, (f k).addr = k.addr) (a : Word) :
    t.findJob a = (s.findJob a).map f := by
  unfold State.findJob
  rw [hjobs, List.find?_map]
  refine congrArg (Option.map f) (congrArg (fun p => List.find? p s.jobs) (funext fun k => ?_))
  simp only [Function.comp, hf]

/-- The RUNNING job of a lane that a change spares is still the first. -/
theorem State.running_of_map (hjobs : t.jobs = s.jobs.map f)
    (hf : ∀ k, (f k).lane = k.lane ∧ (f k).status = k.status ∧ (k.result ≠ none → (f k).result ≠ none)) {l : Lane} {j : Job}
    (hj : s.running l = some j) (hfix : f j = j) : t.running l = some j := by
  unfold State.running at hj ⊢
  rw [hjobs]
  generalize s.jobs = js at hj
  induction js with
  | nil => cases hj
  | cons k js ih =>
    obtain ⟨hlane, hstatus, hresult⟩ := hf k
    rw [List.find?_cons] at hj
    rw [List.map_cons, List.find?_cons, hlane, hstatus]
    split at hj
    · next hmatch =>
      obtain rfl := Option.some.inj hj
      rw [hfix, hmatch]
    · next hmatch =>
      have hno : (k.lane == some l && k.status == .running && (f k).result.isNone) = false := by
        refine Bool.eq_false_iff.mpr fun hyes => Bool.eq_false_iff.mp hmatch ?_
        simp only [Bool.and_eq_true, Option.isNone_iff_eq_none] at hyes ⊢
        exact ⟨hyes.1, by_contra fun hsome => hresult hsome hyes.2⟩
      rw [hno]
      exact ih hj

theorem State.running_iff {l : Lane} {j : Job} (h : s.running l = some j) :
    j ∈ s.jobs ∧ j.lane = some l ∧ j.status = .running ∧ j.result = none := by
  have hmatch := List.find?_some h
  simp only [Bool.and_eq_true, beq_iff_eq, Option.isNone_iff_eq_none] at hmatch
  exact ⟨List.mem_of_find?_eq_some h, hmatch.1.1, hmatch.1.2, hmatch.2⟩

theorem Job.hand_result {k : Job} (h : k.result ≠ none) (r : Result) : k.hand r = k := by
  unfold Job.hand
  split
  · next hnone => exact absurd hnone h
  · rfl

theorem Job.hand_keeps (k : Job) (r : Result) : (k.hand r).addr = k.addr ∧ (k.hand r).lane = k.lane ∧ (k.hand r).status = k.status ∧
    (k.result ≠ none → (k.hand r).result ≠ none) :=
  ⟨Job.hand_addr k r, (Job.hand_lane k r).1, (Job.hand_lane k r).2, fun h => by rw [Job.hand_result h]; exact h⟩

end

/-! ## The RUNNING control job completes (R160) -/

section
variable {s : State} {j : Job}

theorem State.completeControl_eq (hj : s.running .control = some j) (r : Result) :
    s.completeControl r = { s.hand j.addr r with controlRun := .idle } := by
  unfold State.completeControl
  rw [hj]

theorem State.findJob_completeControl (hj : s.running .control = some j) (r : Result) (a : Word) :
    (s.completeControl r).findJob a = (s.findJob a).map fun k => if k.addr = j.addr then k.hand r else k := by
  rw [State.completeControl_eq hj]
  exact State.findJob_modJob s j.addr a _ fun k => Job.hand_addr k r

/-- The result of the RUNNING control job is what it is handed. -/
theorem State.result_completeControl (hj : s.running .control = some j) {k : Job} (hfind : s.findJob j.addr = some k)
    (hnone : k.result = none) (r : Result) : ((s.completeControl r).findJob j.addr).bind Job.result = some r := by
  rw [State.findJob_completeControl hj, hfind, Option.map_some, if_pos (State.addr_of_findJob hfind), Job.hand_of_none hnone]
  rfl

/-- An entry of another block. -/
theorem State.findJob_completeControl_of_ne (hj : s.running .control = some j) (r : Result) {a : Word} (ha : a ≠ j.addr) :
    (s.completeControl r).findJob a = s.findJob a := by
  rw [State.findJob_completeControl hj]
  cases hfind : s.findJob a with
  | none => rfl
  | some k => rw [Option.map_some, if_neg (fun h => ha ((State.addr_of_findJob hfind).symm.trans h))]

end

theorem State.outcomeOf_of_result {s : State} {a : Word} {r : Result} (h : (s.findJob a).bind Job.result = some r) :
    s.outcomeOf a = some r.outcome := congrArg (Option.map Result.outcome) h

/-! ## A look at a lane (R158) -/

/-- An entry that is not due stays as it is. -/
theorem findJob_startOldest (l : Lane) (inPlace : Job → Option Result) (js : List Job) {a : Word} {k : Job}
    (hk : js.find? (fun j => j.addr == a) = some k) (hdue : ¬(k.lane = some l ∧ k.status = .waiting ∧ k.result = none)) :
    (startOldest l inPlace js).1.find? (fun j => j.addr == a) = some k := by
  have hhere {x : Job} (xs : List Job) (hx : (x.addr == a) = true) : (x :: xs).find? (fun j => j.addr == a) = some x :=
    List.find?_cons_of_pos hx
  have hthere {x : Job} (xs : List Job) (hx : ¬(x.addr == a) = true) :
      (x :: xs).find? (fun j => j.addr == a) = xs.find? fun j => j.addr == a := List.find?_cons_of_neg hx
  induction js with
  | nil => cases hk
  | cons j js ih =>
    unfold startOldest
    by_cases hj : j.lane = some l ∧ j.status = .waiting ∧ j.result = none
    · have haddr : ¬(j.addr == a) = true := fun hja => by
        rw [hhere js hja] at hk
        exact hdue (Option.some.inj hk ▸ hj)
      rw [hthere js haddr] at hk
      rw [if_pos hj]
      split
      · next r _ => exact (hthere (x := { j with result := some r }) _ haddr).trans (ih hk)
      · exact (hthere (x := { j with status := .running }) js haddr).trans hk
    · rw [if_neg hj]
      by_cases hja : (j.addr == a) = true
      · rw [hhere js hja] at hk
        exact (hhere _ hja).trans hk
      · rw [hthere js hja] at hk
        exact (hthere _ hja).trans (ih hk)

section
variable {s : State} {a : Word} {k : Job} (hk : s.findJob a = some k)
include hk

theorem State.findJob_lookControl (hdue : ¬(k.lane = some .control ∧ k.status = .waiting ∧ k.result = none)) :
    s.lookControl.findJob a = some k := by
  unfold State.lookControl
  split
  · exact hk
  · exact findJob_startOldest .control _ s.jobs hk hdue

theorem State.findJob_lookFrame (hdue : ¬(k.lane = some .frame ∧ k.status = .waiting ∧ k.result = none)) :
    s.lookFrame.findJob a = some k := by
  unfold State.lookFrame
  split
  · exact hk
  · exact findJob_startOldest .frame _ s.jobs hk hdue

end

theorem State.lookControl_keeps (s : State) : ∃ js f c, s.lookControl = { s with jobs := js, frameRun := f, controlRun := c } := by
  obtain ⟨js, f, c, h, -⟩ := s.look_keeps (some .control)
  exact ⟨js, f, c, h⟩

theorem State.lookFrame_keeps (s : State) : ∃ js f c, s.lookFrame = { s with jobs := js, frameRun := f, controlRun := c } := by
  obtain ⟨js, f, c, h, -⟩ := s.look_keeps (some .frame)
  exact ⟨js, f, c, h⟩

/-! ## LINK_TEST (R174) -/

/-- The codes of a LINK_TEST are in range. -/
def Job.coded (j : Job) : Prop := j.byte 16 ≤ 11 ∧ j.byte 17 ≤ 2 ∧ j.byte 18 ≤ 1 ∧ (j.half 20 = 128 ∨ j.half 20 = 2048)

theorem patternOf_isSome (n : Nat) : (patternOf n).isSome = true ↔ n ≤ 2 := by
  unfold patternOf
  simp only [beq_iff_eq]
  split
  · simp_all
  · split
    · simp_all
    · split
      · simp_all
      · simp
        omega

theorem testModeOf_isSome (n : Nat) : (testModeOf n).isSome = true ↔ n ≤ 1 := by
  unfold testModeOf
  simp only [beq_iff_eq]
  split
  · simp_all
  · split
    · simp_all
    · simp
      omega

theorem testCodes_of_coded {j : Job} (h : j.coded) : ∃ pat mode, testCodes j = some (Fin.ofNat 12 (j.byte 16), pat, mode) := by
  obtain ⟨htile, hpattern, hmode, hlength⟩ := h
  obtain ⟨pat, hpat⟩ := Option.isSome_iff_exists.mp ((patternOf_isSome _).mpr hpattern)
  obtain ⟨mode, hmode⟩ := Option.isSome_iff_exists.mp ((testModeOf_isSome _).mpr hmode)
  refine ⟨pat, mode, ?_⟩
  unfold testCodes
  rw [hpat, hmode]
  exact if_pos ⟨htile, by simpa [testLength] using hlength⟩

theorem testCodes_of_not_coded {j : Job} (h : ¬j.coded) : testCodes j = none := by
  unfold testCodes
  split
  · next pat mode hpat hmode =>
    refine if_neg fun hrest => h ⟨hrest.1, ?_, ?_, by simpa [testLength] using hrest.2⟩
    · exact (patternOf_isSome _).mp (by rw [hpat]; rfl)
    · exact (testModeOf_isSome _).mp (by rw [hmode]; rfl)
  · rfl

/-- A test begins on the port of its tile exactly where nothing stands in its way (R174). -/
theorem State.testPort_eq {s : State} {t : TileId} {p : PortId} (hport : (s.tile t).geom.port = some p) : s.testPort t =
    if (s.port p).test = none ∧ (s.port p).link = .up ∧ (s.tile t).back = .empty ∧ s.deliveringTo t = false then some p else none := by
  unfold State.testPort
  rw [hport]
  refine if_congr ?_ rfl rfl
  simp only [Bool.and_eq_true, Option.isNone_iff_eq_none, beq_iff_eq, Bool.not_eq_true', and_assoc]

section
variable {s : State} {j : Job} (hs : s.startedControl .linkTest = some j)
include hs

theorem exec_linkTest_badField (h : ¬j.coded) :
    exec .linkTest s = .next (s.completeControl (invalidResult .badField none none)).settle := by
  simp only [exec, execLinkTest, hs, testCodes_of_not_coded h, State.settled]

theorem exec_linkTest_badCount (h : j.coded) (hcount : j.half 22 = 0) :
    exec .linkTest s = .next (s.completeControl (invalidResult .badCount none none)).settle := by
  obtain ⟨pat, mode, hcodes⟩ := testCodes_of_coded h
  simp only [exec, execLinkTest, hs, hcodes, if_pos hcount, State.settled]

theorem exec_linkTest_noTiles (h : j.coded) (hcount : j.half 22 ≠ 0)
    (hmapped : (s.tile (Fin.ofNat 12 (j.byte 16))).geom.mapping ≠ .mapped) :
    exec .linkTest s = .next (s.completeControl (invalidResult .noTiles none none)).settle := by
  obtain ⟨pat, mode, hcodes⟩ := testCodes_of_coded h
  have hnot : (!s.isMapped (Fin.ofNat 12 (j.byte 16))) = true := by simpa [State.isMapped] using hmapped
  simp only [exec, execLinkTest, hs, hcodes, if_neg hcount, if_pos hnot, State.settled]

section
variable (h : j.coded) (hcount : j.half 22 ≠ 0) (hmapped : (s.tile (Fin.ofNat 12 (j.byte 16))).geom.mapping = .mapped)
include h hcount hmapped

theorem exec_linkTest_busy (hbusy : s.testPort (Fin.ofNat 12 (j.byte 16)) = none) :
    exec .linkTest s = .next (s.completeControl (plainResult .busy detailZero)).settle := by
  obtain ⟨pat, mode, hcodes⟩ := testCodes_of_coded h
  have hyes : ¬(!s.isMapped (Fin.ofNat 12 (j.byte 16))) = true := by simpa [State.isMapped] using hmapped
  simp only [exec, execLinkTest, hs, hcodes, if_neg hcount, if_neg hyes, hbusy, State.settled]

theorem exec_linkTest_begins {p : PortId} (hfree : s.testPort (Fin.ofNat 12 (j.byte 16)) = some p) : ∃ pat mode,
    exec .linkTest s = .next ((s.takeFlight j).modPort p fun x =>
      { x with test := some (newTest j (Fin.ofNat 12 (j.byte 16)) pat mode) }).lookControl.settle := by
  obtain ⟨pat, mode, hcodes⟩ := testCodes_of_coded h
  have hyes : ¬(!s.isMapped (Fin.ofNat 12 (j.byte 16))) = true := by simpa [State.isMapped] using hmapped
  exact ⟨pat, mode, by simp only [exec, execLinkTest, hs, hcodes, if_neg hcount, if_neg hyes, hfree, State.settled]⟩

end

end

/-- A job IN_FLIGHT is found so (R158). -/
theorem State.findJob_takeFlight (s : State) {j : Job} (hfind : s.findJob j.addr = some j) :
    (s.takeFlight j).findJob j.addr = some { j with status := .inFlight } := by
  have hmoved := State.findJob_modJob s j.addr j.addr (fun k => { k with status := .inFlight }) fun _ => rfl
  rw [hfind] at hmoved
  exact hmoved.trans (by simp)

/-- Settles O33: the checks in their order, and the test that begins. -/
theorem linkTestIsJudged : Obligations.LinkTestIsJudged := by
  intro s j hs hfind
  dsimp only
  refine ⟨fun h => exec_linkTest_badField hs h, fun h hcount => exec_linkTest_badCount hs h hcount,
    fun h hcount hmapped => exec_linkTest_noTiles hs h hcount hmapped, fun h hcount hmapped p hport hbusy => ?_,
    fun h hcount hmapped p hport htest hup hempty hdelivering => ?_⟩
  · refine exec_linkTest_busy hs h hcount hmapped ((State.testPort_eq hport).trans (if_neg ?_))
    rintro ⟨htest, hup, hempty, hdelivering⟩
    rcases hbusy with hsome | hlink | hback | hscene
    · rw [htest] at hsome
      exact Bool.false_ne_true hsome
    · exact hlink hup
    · exact hback hempty
    · rw [hdelivering] at hscene
      exact Bool.false_ne_true hscene
  · obtain ⟨pat, mode, hexec⟩ := exec_linkTest_begins hs h hcount hmapped
      ((State.testPort_eq hport).trans (if_pos ⟨htest, hup, hempty, hdelivering⟩))
    refine ⟨_, hexec, ?_, fun q hq => ?_, ⟨newTest j _ pat mode, ?_, rfl, rfl, rfl, rfl, rfl, rfl, rfl, rfl, rfl, rfl, rfl, rfl⟩,
      looked_congr (looked_lookControl ((s.takeFlight j).modPort p fun x =>
        { x with test := some (newTest j (Fin.ofNat 12 (j.byte 16)) pat mode) })) rfl rfl rfl rfl rfl rfl rfl rfl⟩
    · rw [State.findJob_lookControl (k := { j with status := .inFlight })]
      · rfl
      · exact s.findJob_takeFlight hfind
      · exact fun hdue => nomatch hdue.2.1
    · rw [State.port_of_ports (State.ports_lookControl _) q]
      exact State.port_modPort_ne _ (Ne.symm hq) _
    · rw [State.port_of_ports (State.ports_lookControl _) p, State.port_modPort_self]
      rfl

end Sys2Proof.Machine

/-! SUPPORT. O36 and O37: a REFERENCE that is judged, and the switch that it begins (R132–R136, R138). -/
namespace Sys2Proof.Machine

/-! ## A switch that ends (R136, R138) -/

/-- The Frame Reference after a switch, if one was pending, has ended otherwise than by its lock (R136). -/
def Reference.released (r : Reference) : Reference :=
  if r.switch.isSome then { r with switch := none, lockTimer := none, sincePulse := none, lockCount := 0 } else r

/-- The entries after the job of a pending switch, if it has one, has been handed a result (R136). -/
def Reference.handSwitch (r : Reference) (x : Result) (k : Job) : Job :=
  if r.switch.bind Switch.job = some k.addr then k.hand x else k

/-- Whether the pending switch is the start-up switch (R138). -/
def Reference.startingUp (r : Reference) : Bool := r.switch.any fun w => w.job.isNone

theorem Reference.handSwitch_keeps (r : Reference) (x : Result) (k : Job) : (r.handSwitch x k).addr = k.addr ∧
    (r.handSwitch x k).lane = k.lane ∧ (r.handSwitch x k).status = k.status ∧ (k.result ≠ none → (r.handSwitch x k).result ≠ none) := by
  unfold Reference.handSwitch
  split
  · exact k.hand_keeps x
  · exact ⟨rfl, rfl, rfl, id⟩

theorem Reference.handSwitch_of_ne {r : Reference} {k : Job} (h : r.switch.bind Switch.job ≠ some k.addr) (x : Result) :
    r.handSwitch x k = k := if_neg h

theorem State.raiseReference_eq (s : State) : s.raiseReference = { s with causes := { s.causes with reference := true } } := rfl

/-- A switch ends otherwise than by its lock (R136, R138). -/
theorem State.endSwitch_eq (s : State) {o : JobOutcome} (ho : o ≠ .ok) : ∃ x : Result, x.outcome = o ∧ s.endSwitch o = { s with
    ref := s.ref.released
    causes := { s.causes with reference := s.causes.reference || s.ref.startingUp }
    jobs := s.jobs.map (s.ref.handSwitch x) } := by
  have hnobody {r : Reference} (hr : r.switch.bind Switch.job = none) (x : Result) : s.jobs.map (r.handSwitch x) = s.jobs :=
    (List.map_congr_left fun k _ => Reference.handSwitch_of_ne (by rw [hr]; exact nofun) x).trans (List.map_id _)
  unfold State.endSwitch
  cases hw : s.ref.switch with
  | none =>
    refine ⟨plainResult o [], rfl, ?_⟩
    rw [hnobody (by rw [hw]; rfl), Reference.released, hw, Reference.startingUp, hw, Option.any_none, Bool.or_false]
    rfl
  | some w =>
    have hreleased : s.ref.released =
        { s.ref with switch := none, lockTimer := none, sincePulse := none, lockCount := 0 } := by
      rw [Reference.released, hw]
      rfl
    dsimp only
    rw [if_neg ho, hreleased]
    cases hjob : w.job with
    | none =>
      refine ⟨plainResult o [], rfl, ?_⟩
      rw [hnobody (by rw [hw]; exact hjob), Reference.startingUp, hw, Option.any_some, hjob, Option.isNone_none, Bool.or_true]
      rfl
    | some a =>
      refine ⟨plainResult o (detailReference { s.ref with switch := none, lockTimer := none, sincePulse := none, lockCount := 0 }
        (match w.target with | .extern => s.ref.lockCount | .intern => 0)), rfl, ?_⟩
      dsimp only
      rw [if_neg fun h => ho h.1, Reference.startingUp, hw, Option.any_some, hjob, Option.isNone_some, Bool.or_false]
      have hsame : ∀ (x : Result), s.jobs.map (s.ref.handSwitch x) = s.jobs.map fun k => if k.addr = a then k.hand x else k :=
        fun x => List.map_congr_left fun k _ => by
          unfold Reference.handSwitch
          rw [hw, Option.bind_some, hjob]
          exact if_congr ⟨fun h => (Option.some.inj h).symm, fun h => congrArg some h.symm⟩ rfl rfl
      rw [hsame]
      rfl

theorem State.applyPeriod_eq (s : State) (n : Nat) :
    s.applyPeriod n = { s with ref := { s.ref with period := if n = 0 then s.ref.period else n } } := by
  unfold State.applyPeriod
  split <;> rfl

theorem State.ref_applyPeriod (s : State) (n : Nat) :
    (s.applyPeriod n).ref = { s.ref with period := if n = 0 then s.ref.period else n } := by
  rw [State.applyPeriod_eq]

theorem State.jobs_applyPeriod (s : State) (n : Nat) : (s.applyPeriod n).jobs = s.jobs := by
  rw [State.applyPeriod_eq]

theorem State.causes_applyPeriod (s : State) (n : Nat) : (s.applyPeriod n).causes = s.causes := by
  rw [State.applyPeriod_eq]

/-! ## The command (R132, R133) -/

/-- The period of a REFERENCE is in range (R132). -/
def Job.periodOk (j : Job) : Prop := (j.word 20).toNat = 0 ∨ 5000 ≤ (j.word 20).toNat ∧ (j.word 20).toNat ≤ 50000

section
variable {s : State} {j : Job} (hs : s.startedControl .reference = some j)
include hs

theorem exec_reference_locked (hlock : s.ref.lock = true) :
    exec .reference s = .next (s.completeControl (plainResult .rejected detailZero)).settle := by
  simp only [exec, execReference, hs, if_pos hlock, State.settled]

theorem exec_reference_badField (hlock : s.ref.lock = false) (h : 2 < j.byte 16 ∨ ¬j.periodOk) :
    exec .reference s = .next (s.completeControl (invalidResult .badField none none)).settle := by
  simp only [exec, execReference, hs, hlock, State.settled]
  rw [if_neg Bool.false_ne_true]
  by_cases hcode : 2 < j.byte 16
  · rw [if_pos hcode]
  · rw [if_neg hcode, if_pos]
    have hperiod := h.resolve_left hcode
    unfold Job.periodOk at hperiod
    omega

theorem exec_reference_asleep (hlock : s.ref.lock = false) (hcode : j.byte 16 ≤ 2) (hperiod : j.periodOk)
    (hsleep : s.power.state = .sleep) (hchange : j.byte 16 ≠ 0) :
    exec .reference s = .next (s.completeControl (plainResult .notRunning detailZero)).settle := by
  have hasleep : (s.asleep && j.byte 16 != 0) = true := by simp [State.asleep, hsleep, hchange]
  unfold Job.periodOk at hperiod
  simp only [exec, execReference, hs, hlock, State.settled]
  rw [if_neg Bool.false_ne_true, if_neg (by omega), if_neg (by omega), if_pos hasleep]

/-- A REFERENCE that passes its checks (R132). -/
theorem exec_reference_passes (hlock : s.ref.lock = false) (hcode : j.byte 16 ≤ 2) (hperiod : j.periodOk)
    (hawake : s.power.state ≠ .sleep ∨ j.byte 16 = 0) : exec .reference s = .next (match referenceTarget (j.byte 16) with
      | none => ((s.applyPeriod (j.word 20).toNat).completeReference .ok (s.applyPeriod (j.word 20).toNat).ref.reached (j.bit 17 0)).settle
      | some target => ((s.applyPeriod (j.word 20).toNat).requestSource j target).settle) := by
  have hnot : ¬(s.asleep && j.byte 16 != 0) = true := by
    simp only [State.asleep, Bool.and_eq_true, beq_iff_eq, bne_iff_ne]
    exact fun h => hawake.elim (fun k => k h.1) h.2
  unfold Job.periodOk at hperiod
  simp only [exec, execReference, hs, hlock, State.settled]
  rw [if_neg Bool.false_ne_true, if_neg (by omega), if_neg (by omega), if_neg hnot]
  cases referenceTarget (j.byte 16) <;> rfl

end

theorem referenceTarget_code (x : Source) : referenceTarget x.code = some x := by cases x <;> rfl

theorem Source.code_le (x : Source) : x.code ≤ 2 := by cases x <;> decide

/-! ## A REFERENCE that completes -/

section
variable {s : State} {j : Job} (hj : s.running .control = some j) (hfind : s.findJob j.addr = some j)
include hj hfind

theorem State.outcomeOf_completeControl (r : Result) : (s.completeControl r).outcomeOf j.addr = some r.outcome :=
  State.outcomeOf_of_result (State.result_completeControl hj hfind (State.result_of_running hj) r)

theorem State.completeReference_fields (o : JobOutcome) (n : Nat) (lock : Bool) :
    (s.completeReference o n lock).outcomeOf j.addr = some o ∧
    (s.completeReference o n lock).ref = { s.ref with lock := s.ref.lock || lock } ∧
    (s.completeReference o n lock).causes = s.causes ∧
    ∀ a, a ≠ j.addr → (s.completeReference o n lock).outcomeOf a = s.outcomeOf a := by
  have hcompletes {u : State} (hu : u.running .control = some j) (hk : u.findJob j.addr = some j) (r : Result) :
      (u.completeControl r).outcomeOf j.addr = some r.outcome ∧ (u.completeControl r).ref = u.ref ∧
        (u.completeControl r).causes = u.causes ∧ ∀ a, a ≠ j.addr → (u.completeControl r).outcomeOf a = u.outcomeOf a := by
    refine ⟨State.outcomeOf_completeControl hu hk r, ?_, ?_, fun a ha => ?_⟩
    · rw [State.completeControl_eq hu]
      rfl
    · rw [State.completeControl_eq hu]
      rfl
    · unfold State.outcomeOf
      rw [State.findJob_completeControl_of_ne hu r ha]
  unfold State.completeReference
  cases lock with
  | false =>
    rw [Bool.or_false]
    exact hcompletes hj hfind _
  | true =>
    rw [Bool.or_true]
    exact hcompletes (u := { s with ref := { s.ref with lock := true } }) hj hfind _

end

/-- After the pending switch has been superseded, the RUNNING control job is the same, and another job has its result (R136). -/
theorem State.endSwitch_superseded {s : State} {j : Job} (hj : s.running .control = some j) (hfind : s.findJob j.addr = some j)
    (hother : s.ref.switch.bind Switch.job ≠ some j.addr) : ∃ x : Result, x.outcome = .superseded ∧
      s.endSwitch .superseded = { s with
        ref := s.ref.released
        causes := { s.causes with reference := s.causes.reference || s.ref.startingUp }
        jobs := s.jobs.map (s.ref.handSwitch x) } ∧
      (s.endSwitch .superseded).running .control = some j ∧ (s.endSwitch .superseded).findJob j.addr = some j ∧
      ∀ a, (s.endSwitch .superseded).findJob a = (s.findJob a).map (s.ref.handSwitch x) := by
  obtain ⟨x, hx, heq⟩ := s.endSwitch_eq (o := .superseded) (by decide)
  have hmap : (s.endSwitch .superseded).jobs = s.jobs.map (s.ref.handSwitch x) := by rw [heq]
  have hfix : s.ref.handSwitch x j = j := Reference.handSwitch_of_ne hother x
  have hentry (a : Word) := State.findJob_of_map hmap (fun k => (s.ref.handSwitch_keeps x k).1) a
  exact ⟨x, hx, heq, State.running_of_map hmap (fun k => (s.ref.handSwitch_keeps x k).2) hj hfix,
    by rw [hentry, hfind, Option.map_some, hfix], hentry⟩

/-- The job of a superseded switch has its result. -/
theorem Reference.handSwitch_result {r : Reference} {w : Switch} (hw : r.switch = some w) {k : Job} (hjob : w.job = some k.addr)
    (hnone : k.result = none) (x : Result) : r.handSwitch x k = { k with result := some x } := by
  unfold Reference.handSwitch
  rw [hw, Option.bind_some, hjob, if_pos rfl, Job.hand_of_none hnone]

theorem State.requestSource_redundant {s : State} (j : Job) {x : Source} (hx : x = s.ref.source) : s.requestSource j x =
    (s.endSwitch .superseded).completeReference .redundant s.ref.reached false := by
  obtain ⟨x, -, heq⟩ := s.endSwitch_eq (o := .superseded) (by decide)
  have hsource : (s.endSwitch .superseded).ref.source = s.ref.source := by
    rw [heq]
    dsimp only [Reference.released]
    split <;> rfl
  unfold State.requestSource
  exact if_pos (hx.trans hsource.symm)

/-- Settles O36: the checks, UNCHANGED, and a REDUNDANT request with or without a switch to supersede. -/
theorem referenceIsJudged : Obligations.ReferenceIsJudged := by
  intro s j hs hfind
  obtain ⟨hj, -, -⟩ := (s.startedControl_eq_some_iff .reference j).mp hs
  dsimp only
  have hrunning := (State.running_of_jobs (s.jobs_applyPeriod (j.word 20).toNat) .control).trans hj
  have hentry := (State.findJob_of_jobs (s.jobs_applyPeriod (j.word 20).toNat) j.addr).trans hfind
  have href := s.ref_applyPeriod (j.word 20).toNat
  have hcauses := s.causes_applyPeriod (j.word 20).toNat
  have hfound := State.findJob_of_jobs (s.jobs_applyPeriod (j.word 20).toNat)
  refine ⟨fun hlock => exec_reference_locked hs hlock, fun hlock h => exec_reference_badField hs hlock h,
    fun hlock hcode hperiod hsleep hchange => exec_reference_asleep hs hlock hcode hperiod hsleep hchange,
    fun hlock hcode hperiod => ?_, fun hlock hcode hperiod hawake hnone => ?_, fun hlock hcode hperiod hawake hnodup w hw hother => ?_⟩
  · have hexec := exec_reference_passes hs hlock (by omega) hperiod (.inr hcode)
    rw [hcode] at hexec
    generalize s.applyPeriod (j.word 20).toNat = u at *
    obtain ⟨houtcome, hkept, -⟩ := State.completeReference_fields hrunning hentry .ok u.ref.reached (j.bit 17 0)
    refine ⟨_, hexec, houtcome, ?_⟩
    rw [hkept, href]
    simp only [hlock, Bool.false_or]
  · have hexec := exec_reference_passes hs hlock (hcode ▸ s.ref.source.code_le) hperiod (.inl hawake)
    rw [hcode, referenceTarget_code] at hexec
    dsimp only at hexec
    generalize s.applyPeriod (j.word 20).toNat = u at *
    have hidle : u.endSwitch .superseded = u := by
      unfold State.endSwitch
      rw [href, hnone]
    rw [State.requestSource_redundant j (by rw [href]), hidle] at hexec
    obtain ⟨houtcome, hkept, -⟩ := State.completeReference_fields hrunning hentry .redundant u.ref.reached false
    refine ⟨_, hexec, houtcome, ?_⟩
    rw [hkept, Bool.or_false]
    exact href
  · have hexec := exec_reference_passes hs hlock (hcode ▸ s.ref.source.code_le) hperiod (.inl hawake)
    rw [hcode, referenceTarget_code] at hexec
    dsimp only at hexec
    generalize s.applyPeriod (j.word 20).toNat = u at *
    have hswitch : u.ref.switch = some w := by
      rw [href]
      exact hw
    rw [State.requestSource_redundant j (by rw [href])] at hexec
    obtain ⟨x, hx, heq, hrunning', hentry', hentries⟩ :=
      State.endSwitch_superseded hrunning hentry (by rw [hswitch]; exact hother)
    obtain ⟨houtcome, hkept, hraised, hothers⟩ := State.completeReference_fields hrunning' hentry' .redundant u.ref.reached false
    have hcause : (u.endSwitch .superseded).causes = { s.causes with reference := s.causes.reference || w.job.isNone } := by
      rw [heq, Reference.startingUp, hswitch, hcauses]
      rfl
    refine ⟨_, hexec, houtcome, ?_, fun a k hjob hk hnone => ?_, fun hjob => ?_, fun hjob => ?_⟩
    · rw [hkept, Bool.or_false, heq]
      dsimp only [Reference.released]
      rw [hswitch, href]
      rfl
    · have ha : a ≠ j.addr := fun h => hother (h ▸ hjob)
      have hka : k.addr = a := State.addr_of_findJob hk
      rw [hothers a ha]
      refine (State.outcomeOf_eq (y := { k with result := some x }) ?_).trans (congrArg some hx)
      rw [hentries, hfound, hk, Option.map_some,
        Reference.handSwitch_result hswitch (hjob.trans (congrArg some hka.symm)) hnone]
    · rw [hraised, hcause, hjob, Option.isNone_none, Bool.or_true]
    · obtain ⟨a, ha⟩ := Option.ne_none_iff_exists'.mp hjob
      rw [hraised, hcause, ha, Option.isNone_some, Bool.or_false]

end Sys2Proof.Machine

/-! SUPPORT. O37: the switch that a REFERENCE begins, and the one it supersedes (R133–R136). -/
namespace Sys2Proof.Machine

/-! ## A frame start (R129) -/

theorem State.quiet_countDeadline (s : State) : s.countDeadline.quiet = s.quiet := by
  unfold State.countDeadline
  split
  · rfl
  · split
    · split
      · exact s.quiet_expireDeadline
      · exact s.quiet_modScene _
    · rfl

/-- What a frame start changes besides picture work: the frame number, the length of the frame, and the ports (R129). -/
theorem State.quiet_issueFrame (s : State) : s.issueFrame.quiet = State.quiet { s with
    ref := { s.ref with frameNumber := s.ref.frameNumber + 1, frameLength := s.ref.period }
    ports := (s.mapPorts fun _ x => x.takeFrame (s.ref.frameNumber + 1)).ports } := by
  unfold State.issueFrame
  simp only
  rw [State.quiet_checkLimits, State.quiet_countDeadline]
  exact congrArg State.quiet (State.forEach_modPort _ fun _ x => x.takeFrame (s.ref.frameNumber + 1))

theorem State.ref_issueFrame (s : State) :
    s.issueFrame.ref = { s.ref with frameNumber := s.ref.frameNumber + 1, frameLength := s.ref.period } := by
  have href := congrArg State.ref s.quiet_issueFrame
  exact href

/-! ## A request for the other source -/

section
variable {s : State} {j : Job}

theorem State.requestSource_of_other {x : Source} (hx : x ≠ s.ref.source) : s.requestSource j x =
    match x with
    | .extern => (((s.endSwitch .superseded).takeFlight j).beginExternal (some j.addr)).lookControl
    | .intern => (((s.endSwitch .superseded).takeFlight j).beginInternal j.addr).lookControl := by
  obtain ⟨y, -, heq⟩ := s.endSwitch_eq (o := .superseded) (by decide)
  have hsource : (s.endSwitch .superseded).ref.source = s.ref.source := by
    rw [heq]
    dsimp only [Reference.released]
    split <;> rfl
  unfold State.requestSource
  refine (if_neg fun h => hx (h.trans hsource)).trans ?_
  cases x <;> rfl

/-- The period in force once a REFERENCE has been applied (R132). -/
def State.periodOf (s : State) (j : Job) : Nat := if (j.word 20).toNat = 0 then s.ref.period else (j.word 20).toNat

/-- The state in which the switch of a REFERENCE begins: its period is in force, a pending switch has been superseded, and the job
is IN_FLIGHT. -/
def State.flying (s : State) (j : Job) : State := ((s.applyPeriod (j.word 20).toNat).endSwitch .superseded).takeFlight j

/-- The entries in that state. -/
def State.flown (s : State) (j : Job) (x : Result) (k : Job) : Job :=
  if k.addr = j.addr then { k with status := .inFlight }
  else if s.ref.switch.bind Switch.job = some k.addr then k.hand x else k

theorem State.flown_addr (s : State) (j : Job) (x : Result) (k : Job) : (s.flown j x k).addr = k.addr := by
  unfold State.flown
  split
  · rfl
  · split
    · exact Job.hand_addr k x
    · rfl

theorem State.flying_eq (hother : s.ref.switch.bind Switch.job ≠ some j.addr) : ∃ x : Result, x.outcome = .superseded ∧
    s.flying j = { s with
      ref := ({ s.ref with period := s.periodOf j } : Reference).released
      causes := { s.causes with reference := s.causes.reference || s.ref.startingUp }
      controlRun := .idle
      jobs := s.jobs.map (s.flown j x) } := by
  obtain ⟨x, hx, heq⟩ := (s.applyPeriod (j.word 20).toNat).endSwitch_eq (o := .superseded) (by decide)
  refine ⟨x, hx, ?_⟩
  have hjobs : (s.jobs.map (s.ref.handSwitch x)).map (fun k => if k.addr = j.addr then { k with status := .inFlight } else k) =
      s.jobs.map (s.flown j x) := by
    rw [List.map_map]
    refine List.map_congr_left fun k _ => ?_
    unfold State.flown
    simp only [Function.comp]
    by_cases hk : k.addr = j.addr
    · rw [Reference.handSwitch_of_ne (by rw [hk]; exact hother), if_pos hk, if_pos hk]
    · rw [(s.ref.handSwitch_keeps x k).1, if_neg hk, if_neg hk]
      rfl
  rw [← hjobs]
  unfold State.flying State.takeFlight
  rw [heq, State.applyPeriod_eq]
  rfl

/-- What a superseded switch leaves behind. -/
def State.Supersedes (s t : State) : Prop :=
  (∀ w a k, s.ref.switch = some w → w.job = some a → s.findJob a = some k → k.result = none →
    t.outcomeOf a = some .superseded) ∧
  (∀ w, s.ref.switch = some w → w.job = none → t.causes.reference = true)

/-- The job of the switch is IN_FLIGHT, and the control lane has been looked at (R158). -/
def State.Flies (s : State) (j : Job) (t : State) : Prop :=
  (t.findJob j.addr).map Job.status = some .inFlight ∧
    ∃ r : Result, r.outcome = .superseded ∧ Looked .control { s with controlRun := .idle, jobs := s.jobs.map (s.flown j r) } t

section
variable (hfind : s.findJob j.addr = some j) (hother : s.ref.switch.bind Switch.job ≠ some j.addr) {x : Result}
include hother

/-- The entry of a superseded job has its result. -/
theorem State.flown_superseded {w : Switch} (hw : s.ref.switch = some w) {k : Job} (hjob : w.job = some k.addr)
    (hnone : k.result = none) : s.flown j x k = { k with result := some x } := by
  have hswitch : s.ref.switch.bind Switch.job = some k.addr := by rw [hw, Option.bind_some, hjob]
  unfold State.flown
  rw [if_neg fun h : k.addr = j.addr => hother (h ▸ hswitch), if_pos hswitch, Job.hand_of_none hnone]

include hfind

/-- A switch that goes on: what it superseded has ended, its job is IN_FLIGHT, and the lane has been looked at. -/
theorem State.lookControl_of_flying {u : State} (hx : x.outcome = .superseded) (hjobs : u.jobs = s.jobs.map (s.flown j x))
    (hrun : u.controlRun = .idle) (hframe : u.frameRun = s.frameRun) (hhalted : u.halted = s.halted) (hpower : u.power = s.power)
    (hcause : u.causes.reference = (s.causes.reference || s.ref.startingUp)) :
    s.Supersedes u.lookControl ∧ s.Flies j u.lookControl := by
  obtain ⟨js, f, c, hlook⟩ := u.lookControl_keeps
  refine ⟨⟨fun w a k hw hjob hk hnone => ?_, fun w hw hjob => ?_⟩, ?_, x, hx, ?_⟩
  · have hka : k.addr = a := State.addr_of_findJob hk
    have hentry : u.findJob a = some { k with result := some x } := by
      rw [State.findJob_of_map hjobs (s.flown_addr j x), hk, Option.map_some,
        State.flown_superseded hother hw (hjob.trans (congrArg some hka.symm)) hnone]
    rw [State.outcomeOf_eq (State.findJob_lookControl hentry fun h => nomatch h.2.2)]
    exact congrArg some hx
  · rw [hlook]
    refine hcause.trans ?_
    rw [Reference.startingUp, hw, Option.any_some, hjob]
    exact Bool.or_true _
  · have hentry : u.findJob j.addr = some { j with status := .inFlight } := by
      rw [State.findJob_of_map hjobs (s.flown_addr j x), hfind, Option.map_some, State.flown, if_pos rfl]
    rw [State.findJob_lookControl hentry fun h => nomatch h.2.1]
    rfl
  · exact looked_congr (looked_lookControl u) hjobs.symm hframe.symm hrun.symm hhalted.symm hpower.symm rfl rfl rfl

end

/-! ## A stall that is left (R135) -/

/-- The end of a switch by its lock hands its job OK, and sets the lock that the job asks for (R136). -/
theorem State.endSwitch_ok {s : State} {w : Switch} {a : Word} (hw : s.ref.switch = some w) (hjob : w.job = some a) {k : Job}
    (hk : s.findJob a = some k) : ∃ x : Result, x.outcome = .ok ∧ s.endSwitch .ok = { s with
      ref := { s.ref with switch := none, lockTimer := none, sincePulse := none, lock := s.ref.lock || k.bit 17 0 }
      jobs := s.jobs.map fun m => if m.addr = a then m.hand x else m } := by
  have hfound (r : Reference) : ({ s with ref := r } : State).findJob a = some k := hk
  unfold State.endSwitch
  rw [hw]
  simp only
  rw [hjob]
  simp only
  rw [hfound]
  cases hbit : k.bit 17 0 with
  | false =>
    simp only [hbit]
    rw [if_neg (fun h => Bool.false_ne_true h.2), Bool.or_false]
    exact ⟨_, rfl, rfl⟩
  | true =>
    simp only [hbit]
    rw [Bool.or_true]
    exact ⟨_, rfl, rfl⟩

/-- What is found of a block after an operation that spares another: a result stays, and so does all of a spared entry. -/
theorem State.Spares.found {a : Word} {t : State} (h : s.Spares a t) {b : Word} {k : Job} (hk : s.findJob b = some k)
    (hkept : s.calm a ∧ b = a ∨ k.result ≠ none) : ∃ m, t.findJob b = some m ∧ m.entry = k.entry ∧ m.result = k.result := by
  obtain ⟨-, hall⟩ := h
  have hkb := State.addr_of_findJob hk
  unfold State.findJob at hk ⊢
  generalize s.jobs = js at hall hk
  generalize t.jobs = ks at hall
  induction hall with
  | nil => cases hk
  | @cons y z _ _ hyz _ ih =>
    obtain ⟨haddr, -⟩ := Job.addr_of_entry hyz.1
    rw [List.find?_cons] at hk ⊢
    rw [haddr]
    split at hk
    · obtain rfl := Option.some.inj hk
      exact ⟨z, rfl, hyz.1, hyz.2 (hkept.imp_left fun h => ⟨h.1, hkb.trans h.2⟩)⟩
    · exact ih hk

theorem State.calm_of_control {a : Word} (h : ∀ k ∈ s.jobs, k.addr = a → k.lane = some .control) : s.calm a :=
  .inr fun k hk ha hlane => nomatch (h k hk ha).symm.trans hlane

/-- A job IN_FLIGHT is none that RUNS. -/
theorem State.calm_of_inFlight {a : Word} (hnodup : (s.jobs.map Job.addr).Nodup) {j : Job} (hfind : s.findJob a = some j)
    (hstatus : j.status = .inFlight) : s.calm a := by
  refine .inr fun k hk ha _ hrunning => ?_
  have hk : s.findJob a = some k := ha ▸ State.findJob_of_mem hnodup hk
  obtain rfl := Option.some.inj (hfind.symm.trans hk)
  exact nomatch hstatus.symm.trans hrunning

/-- A job of the control lane is no frame job's namesake. -/
theorem State.control_of_nodup (hnodup : (s.jobs.map Job.addr).Nodup) (hj : s.running .control = some j) {k : Job} (hk : k ∈ s.jobs)
    (ha : k.addr = j.addr) : k.lane = some .control := by
  obtain ⟨hmem, hlane, -⟩ := State.running_iff hj
  rw [List.inj_on_of_nodup_map hnodup hk hmem ha]
  exact hlane

theorem State.beginInternal_of_stalled (hstate : s.ref.state = .stalled) (a : Word) : s.beginInternal a =
    (({ s with ref := { s.ref with switch := some { target := .intern, job := some a } } } : State).issueFrame.enterInternal
      |>.raiseReference).endSwitch .ok := if_pos hstate

theorem State.beginInternal_of_running (hstate : s.ref.state ≠ .stalled) (a : Word) : s.beginInternal a =
    { s with ref := { s.ref with switch := some { target := .intern, job := some a } } } := if_neg hstate

/-- A switch to INTERNAL from EXTERNAL_STALLED completes at once, with a frame start (R135). -/
theorem State.leavesStall (hj : s.running .control = some j) (hnodup : (s.jobs.map Job.addr).Nodup) (hlock : s.ref.lock = false)
    (hnot : s.ref.switch.bind Switch.job ≠ some j.addr) :
    let t := ((({ s.flying j with ref := { (s.flying j).ref with switch := some { target := .intern, job := some j.addr } } } :
      State).issueFrame.enterInternal.raiseReference).endSwitch .ok).lookControl
    t.ref.state = .intern ∧ t.ref.source = .intern ∧ t.ref.switch = none ∧ t.ref.period = s.periodOf j ∧
      t.ref.frameNumber = s.ref.frameNumber + 1 ∧ t.ref.frameTimer = some 0 ∧ t.ref.lock = j.bit 17 0 ∧
      t.outcomeOf j.addr = some .ok ∧ t.causes.reference = true ∧ s.Supersedes t := by
  obtain ⟨hmem, -, -, hnone⟩ := State.running_iff hj
  have hfind := State.findJob_of_mem hnodup hmem
  obtain ⟨x, hx, hflying⟩ := State.flying_eq hnot
  have hreleased : ({ s.ref with period := s.periodOf j } : Reference).released.period = s.periodOf j ∧
      ({ s.ref with period := s.periodOf j } : Reference).released.frameNumber = s.ref.frameNumber ∧
      ({ s.ref with period := s.periodOf j } : Reference).released.lock = s.ref.lock := by
    dsimp only [Reference.released]
    split <;> exact ⟨rfl, rfl, rfl⟩
  obtain ⟨hperiod, hnumber, hkept⟩ := hreleased
  have hjobs : (s.flying j).jobs = s.jobs.map (s.flown j x) := by rw [hflying]
  have hflyref : (s.flying j).ref = ({ s.ref with period := s.periodOf j } : Reference).released := by rw [hflying]
  generalize hv : ({ s.flying j with ref := { (s.flying j).ref with
    switch := some { target := .intern, job := some j.addr } } } : State) = v
  have hvjobs : v.jobs = s.jobs.map (s.flown j x) := by rw [← hv]; exact hjobs
  have hvref : v.ref = { (s.flying j).ref with switch := some { target := .intern, job := some j.addr } } := by rw [← hv]
  have hentry : v.findJob j.addr = some { j with status := .inFlight } := by
    rw [State.findJob_of_map hvjobs (s.flown_addr j x), hfind, Option.map_some, State.flown, if_pos rfl]
  have hcalm : v.calm j.addr := by
    refine State.calm_of_control fun k hk ha => ?_
    rw [hvjobs] at hk
    obtain ⟨m, hm, rfl⟩ := List.mem_map.mp hk
    rw [State.flown_addr] at ha
    rw [State.flown, if_pos ha]
    exact State.control_of_nodup (k := m) hnodup hj hm ha
  have hspares := v.spares_issueFrame j.addr
  obtain ⟨m, hm, hmentry, hmresult⟩ := hspares.found hentry (.inl ⟨hcalm, rfl⟩)
  have hbit : m.bit 17 0 = j.bit 17 0 := by
    obtain ⟨-, -, -, -, hparams⟩ := Job.addr_of_entry hmentry
    unfold Job.bit
    rw [hparams]
  generalize hi : v.issueFrame.enterInternal.raiseReference = i
  have hiref : i.ref = { v.issueFrame.ref with state := .intern, source := .intern, frameTimer := some 0, lossTimer := none } := by
    rw [← hi]
    rfl
  have hijobs : i.jobs = v.issueFrame.jobs := by rw [← hi]; rfl
  have hicause : i.causes.reference = true := by rw [← hi]; rfl
  rw [State.ref_issueFrame, hvref, hflyref] at hiref
  have him : i.findJob j.addr = some m := (State.findJob_of_jobs hijobs _).trans hm
  obtain ⟨y, hy, hend⟩ := State.endSwitch_ok (s := i) (w := { target := .intern, job := some j.addr }) (by rw [hiref]) rfl him
  obtain ⟨js, f, c, hlook⟩ := State.lookControl_keeps (i.endSwitch .ok)
  have hefound (a : Word) := State.findJob_of_map (s := i) (t := i.endSwitch .ok) (by rw [hend]) (fun k => by
    split
    · exact Job.hand_addr k y
    · rfl) a
  have htref : (i.endSwitch .ok).lookControl.ref = { i.ref with
      switch := none, lockTimer := none, sincePulse := none, lock := i.ref.lock || m.bit 17 0 } := by
    rw [hlook, hend]
  have htcause : (i.endSwitch .ok).lookControl.causes.reference = true := by
    rw [hlook, hend]
    exact hicause
  dsimp only
  rw [htref, hiref]
  refine ⟨rfl, rfl, rfl, hperiod, congrArg (· + 1) hnumber, rfl, ?_, ?_, htcause, fun w a k hw hjob hk hknone => ?_, fun _ _ _ => htcause⟩
  · rw [hkept, hlock, Bool.false_or, hbit]
  · have hdone : (i.endSwitch .ok).findJob j.addr = some { m with result := some y } := by
      rw [hefound, him, Option.map_some, if_pos (State.addr_of_findJob him), Job.hand_of_none (hmresult.trans hnone)]
    rw [State.outcomeOf_eq (State.findJob_lookControl hdone fun h => nomatch h.2.2)]
    exact congrArg some hy
  · have hka : k.addr = a := State.addr_of_findJob hk
    have hva : v.findJob a = some { k with result := some x } := by
      rw [State.findJob_of_map hvjobs (s.flown_addr j x), hk, Option.map_some,
        State.flown_superseded hnot hw (hjob.trans (congrArg some hka.symm)) hknone]
    obtain ⟨n, hn, -, hnresult⟩ := hspares.found hva (.inr nofun)
    have hia : i.findJob a = some n := (State.findJob_of_jobs hijobs _).trans hn
    have hdone : (i.endSwitch .ok).findJob a = some n := by
      rw [hefound, hia, Option.map_some, Job.hand_result (by rw [hnresult]; exact nofun), ite_self]
    rw [State.outcomeOf_eq (State.findJob_lookControl hdone fun h => nomatch h.2.2.symm.trans hnresult), hnresult]
    exact congrArg some hx

/-- Settles O37: the three switches, each from the state in which it begins. -/
theorem referenceBeginsASwitch : Obligations.ReferenceBeginsASwitch := by
  intro s j hs hnodup hlock hawake hother
  dsimp only
  intro hperiod
  obtain ⟨hj, -, -⟩ := (s.startedControl_eq_some_iff .reference j).mp hs
  obtain ⟨hmem, hlane, hstatus, hnone⟩ := State.running_iff hj
  have hfind := State.findJob_of_mem hnodup hmem
  have hnot : s.ref.switch.bind Switch.job ≠ some j.addr := fun h => by
    obtain ⟨w, hw, hjob⟩ := Option.bind_eq_some_iff.mp h
    exact hother w hw hjob
  obtain ⟨x, hx, hflying⟩ := State.flying_eq hnot
  have hbegins {y : Source} (hcode : j.byte 16 = y.code) (hsource : s.ref.source ≠ y) : exec .reference s = .next (State.settle (match y with
      | .extern => ((s.flying j).beginExternal (some j.addr)).lookControl
      | .intern => ((s.flying j).beginInternal j.addr).lookControl)) := by
    have hexec := exec_reference_passes hs hlock (hcode ▸ y.code_le) hperiod (.inl hawake)
    rw [hcode, referenceTarget_code] at hexec
    dsimp only at hexec
    rw [State.requestSource_of_other (by rw [State.ref_applyPeriod]; exact Ne.symm hsource)] at hexec
    cases y <;> exact hexec
  refine ⟨fun hcode hsource => ⟨_, hbegins (y := .extern) hcode (by rw [hsource]; decide), ?_⟩,
    fun hcode hsource hstate => ⟨_, hbegins (y := .intern) hcode (by rw [hsource]; decide), ?_⟩,
    fun hcode hsource hstate => ⟨_, hbegins (y := .intern) hcode (by rw [hsource]; decide), ?_⟩⟩
  · obtain ⟨js, f, c, hlook⟩ := State.lookControl_keeps ((s.flying j).beginExternal (some j.addr))
    refine ⟨?_, State.lookControl_of_flying hfind hnot hx (by rw [State.beginExternal_jobs, hflying]) ?_ ?_ ?_ ?_ ?_⟩
    · rw [hlook, hflying]
      dsimp only [State.beginExternal, Reference.released]
      split <;> rfl
    all_goals rw [hflying]; rfl
  · have hstays : (s.flying j).ref.state ≠ .stalled := by
      rw [hflying]
      dsimp only [Reference.released]
      split <;> exact fun h => nomatch hstate.symm.trans h
    dsimp only
    rw [State.beginInternal_of_running hstays]
    obtain ⟨js, f, c, hlook⟩ := State.lookControl_keeps { s.flying j with
      ref := { (s.flying j).ref with switch := some { target := .intern, job := some j.addr } } }
    refine ⟨?_, State.lookControl_of_flying hfind hnot hx ?_ ?_ ?_ ?_ ?_ ?_⟩
    · rw [hlook, hflying]
      dsimp only [Reference.released]
      cases s.ref.switch <;> rfl
    all_goals rw [hflying]
  · have hstays : (s.flying j).ref.state = .stalled := by
      rw [hflying]
      dsimp only [Reference.released]
      split <;> exact hstate
    dsimp only
    rw [State.beginInternal_of_stalled hstays]
    exact State.leavesStall hj hnodup hlock hnot

end

end Sys2Proof.Machine

/-! SUPPORT. What an event of one port leaves alone: the other ports, the tiles, and all of the state but the Job List, the frame
job, the interrupt causes and the engine; and loops over ports of which each round concerns its own port. -/
namespace Sys2Proof.Machine

/-- The state without port `p`, the Job List, the frame job, the causes and the engine. -/
def State.elsewhere (s : State) (p : PortId) : State :=
  { s with jobs := [], frameRun := .idle, causes := .clear, composer := { s.composer with engine := .free },
           ports := s.ports.set p.val Port.reset }

section
variable {s t : State} {p : PortId}

theorem State.port_of_elsewhere (h : t.elsewhere p = s.elsewhere p) {q : PortId} (hq : q ≠ p) : t.port q = s.port q := by
  have hne : p.val ≠ q.val := fun e => hq (Fin.ext e.symm)
  have hports := congrArg (fun v => v.ports[q.val]) h
  simpa [State.elsewhere, State.port, Vector.getElem_set_ne, hne] using hports

theorem State.tiles_of_elsewhere (h : t.elsewhere p = s.elsewhere p) : t.tiles = s.tiles := by
  have htiles := congrArg State.tiles h
  exact htiles

theorem State.tile_of_tiles (h : t.tiles = s.tiles) (i : TileId) : t.tile i = s.tile i :=
  congrArg (fun ts : Vector Tile 12 => ts[i.val]) h

theorem State.tileOfPort_of_tiles (h : t.tiles = s.tiles) (q : PortId) : t.tileOfPort q = s.tileOfPort q := by
  unfold State.tileOfPort
  simp only [State.tile_of_tiles h]

theorem State.portMapped_of_tiles (h : t.tiles = s.tiles) (q : PortId) : t.portMapped q = s.portMapped q :=
  State.portMapped_congr (fun i => by rw [State.tile_of_tiles h]) q

end

/-! ## One operation after the other -/

section
variable (s : State) (p : PortId)

@[simp] theorem State.elsewhere_modPort (f) : (s.modPort p f).elsewhere p = s.elsewhere p := by
  have hports : ((s.modPort p f).ports).set p.val Port.reset = s.ports.set p.val Port.reset := by
    ext i hi
    simp only [State.modPort, State.setPort, Vector.getElem_set]
    split <;> rfl
  unfold State.elsewhere
  rw [hports]
  rfl
@[simp] theorem State.elsewhere_raiseTile : s.raiseTile.elsewhere p = s.elsewhere p := rfl
@[simp] theorem State.elsewhere_hand (a r) : (s.hand a r).elsewhere p = s.elsewhere p := rfl
@[simp] theorem State.elsewhere_modScene (f) : (s.modScene f).elsewhere p = s.elsewhere p := by
  unfold State.modScene
  split <;> rfl
@[simp] theorem State.elsewhere_modLut (f) : (s.modLut f).elsewhere p = s.elsewhere p := by
  unfold State.modLut
  split <;> rfl
@[simp] theorem State.elsewhere_modVerify (f) : (s.modVerify f).elsewhere p = s.elsewhere p := by
  unfold State.modVerify
  split <;> rfl
@[simp] theorem State.elsewhere_completeFrame (r) : (s.completeFrame r).elsewhere p = s.elsewhere p := by
  unfold State.completeFrame
  split <;> rfl
@[simp] theorem State.elsewhere_releaseEngine (q) : (s.releaseEngine q).elsewhere p = s.elsewhere p := by
  unfold State.releaseEngine
  repeat' split
  all_goals rfl
@[simp] theorem State.elsewhere_setCursor (t n) : (s.setCursor t n).elsewhere p = s.elsewhere p := s.elsewhere_modScene p _
@[simp] theorem State.elsewhere_flushPort : (s.flushPort p).elsewhere p = s.elsewhere p := by
  have hfreed : ((s.modPort p Port.flush).releaseEngine p).elsewhere p = s.elsewhere p := by
    rw [State.elsewhere_releaseEngine, State.elsewhere_modPort]
  unfold State.flushPort
  simp only
  split
  · exact ite_keeps (State.elsewhere · p) ((State.elsewhere_setCursor _ p _ _).trans hfreed) hfreed
  · exact hfreed
@[simp] theorem State.elsewhere_noteTable (k) : (s.noteTable k).elsewhere p = s.elsewhere p := s.elsewhere_modLut p _
@[simp] theorem State.elsewhere_endTestWith (o d) : (s.endTestWith p o d).elsewhere p = s.elsewhere p := by
  unfold State.endTestWith
  split
  · rfl
  · rw [State.elsewhere_hand, State.elsewhere_modPort]
@[simp] theorem State.elsewhere_endTest (o) : (s.endTest p o).elsewhere p = s.elsewhere p := s.elsewhere_endTestWith p o _
@[simp] theorem State.elsewhere_exitUp : (s.exitUp p).elsewhere p = s.elsewhere p := by
  unfold State.exitUp
  simp only
  rw [State.elsewhere_endTest, State.elsewhere_flushPort,
    foldl_keeps (State.elsewhere · p) _ (fun u k => u.elsewhere_noteTable p k), State.elsewhere_modPort, State.elsewhere_raiseTile]
@[simp] theorem State.elsewhere_noteRetrain (q) : (s.noteRetrain q).elsewhere p = s.elsewhere p := by
  unfold State.noteRetrain
  repeat' split
  all_goals simp
@[simp] theorem State.elsewhere_beginAttempt (g) : (s.beginAttempt p g).elsewhere p = s.elsewhere p := s.elsewhere_modPort p _
@[simp] theorem State.elsewhere_settleLut : s.settleLut.elsewhere p = s.elsewhere p := by
  unfold State.settleLut
  split
  · rfl
  · exact ite_keeps (State.elsewhere · p) (s.elsewhere_completeFrame p _) rfl
@[simp] theorem State.elsewhere_settleVerify : s.settleVerify.elsewhere p = s.elsewhere p := by
  unfold State.settleVerify
  split
  · rfl
  · exact ite_keeps (State.elsewhere · p) (ite_keeps (State.elsewhere · p) (s.elsewhere_completeFrame p _) rfl) rfl

variable {s p}

theorem State.port_of_tileOfPort {t : TileId} (h : s.tileOfPort p = some t) : (s.tile t).geom.port = some p := by
  have hmatch := List.find?_some h
  exact beq_iff_eq.mp hmatch

theorem State.elsewhere_dropQueuedOf {t : TileId} (h : (s.tile t).geom.port = some p) (f) :
    (s.dropQueuedOf t f).elsewhere p = s.elsewhere p := by
  unfold State.dropQueuedOf
  rw [h]
  exact s.elsewhere_modPort p _

theorem State.tile_of_frameRun (s : State) (x : FrameRun) (t : TileId) : ({ s with frameRun := x } : State).tile t = s.tile t := rfl

theorem State.tile_modLut (s : State) (f) (t : TileId) : (s.modLut f).tile t = s.tile t := by
  unfold State.modLut
  split <;> rfl

theorem State.tile_modVerify (s : State) (f) (t : TileId) : (s.modVerify f).tile t = s.tile t := by
  unfold State.modVerify
  split <;> rfl

theorem State.elsewhere_lutSkip {t : TileId} (h : (s.tile t).geom.port = some p) : (s.lutSkip t).elsewhere p = s.elsewhere p := by
  unfold State.lutSkip
  split
  · rfl
  · refine ite_keeps (State.elsewhere · p) ?_ rfl
    rw [State.elsewhere_settleLut, State.elsewhere_dropQueuedOf (by rw [State.tile_modLut]; exact h), State.elsewhere_modLut]

theorem State.elsewhere_verifyMiss {t : TileId} (h : (s.tile t).geom.port = some p) :
    (s.verifyMiss t).elsewhere p = s.elsewhere p := by
  unfold State.verifyMiss
  split
  · rfl
  · refine ite_keeps (State.elsewhere · p) ?_ rfl
    rw [State.elsewhere_settleVerify, State.elsewhere_dropQueuedOf (by rw [State.tile_modVerify]; exact h), State.elsewhere_modVerify]

variable (s p)

@[simp] theorem State.elsewhere_portLeft : (s.portLeft p).elsewhere p = s.elsewhere p := by
  unfold State.portLeft
  split
  · rfl
  · next t ht =>
    have hport := State.port_of_tileOfPort ht
    have hskip := State.elsewhere_lutSkip hport
    refine (State.elsewhere_verifyMiss ?_).trans hskip
    rw [State.tile_of_tiles (State.tiles_of_elsewhere hskip)]
    exact hport
@[simp] theorem State.elsewhere_enterListen : (s.enterListen p).elsewhere p = s.elsewhere p := by
  unfold State.enterListen
  rw [State.elsewhere_portLeft, State.elsewhere_modPort]
@[simp] theorem State.elsewhere_enterOffer : (s.enterOffer p).elsewhere p = s.elsewhere p := by
  unfold State.enterOffer
  rw [State.elsewhere_portLeft, State.elsewhere_modPort]
@[simp] theorem State.elsewhere_goOff : (s.goOff p).elsewhere p = s.elsewhere p := by
  unfold State.goOff
  rw [State.elsewhere_portLeft, State.elsewhere_flushPort, State.elsewhere_modPort]
@[simp] theorem State.elsewhere_leaveForRequest : (s.leaveForRequest p).elsewhere p = s.elsewhere p := by
  unfold State.leaveForRequest
  split
  · exact s.elsewhere_exitUp p
  all_goals rfl
@[simp] theorem State.elsewhere_restartPort : (s.restartPort p).elsewhere p = s.elsewhere p := by
  have hoff : (((s.leaveForRequest p).goOff p).modPort p fun x => { x with
      tally := 0, attempts := 0, stability := 0, ind := .clear,
      grade := ((s.leaveForRequest p).goOff p).policy.ceiling }).elsewhere p = s.elsewhere p := by
    rw [State.elsewhere_modPort, State.elsewhere_goOff, State.elsewhere_leaveForRequest]
  exact ite_keeps (State.elsewhere · p) ((State.elsewhere_enterListen _ p).trans hoff) hoff
@[simp] theorem State.elsewhere_recoverPort : (s.recoverPort p).elsewhere p = s.elsewhere p := by
  have hleft : ((s.leaveForRequest p).modPort p fun x => { x.clearStream with
      tally := 0, attempts := 0, stability := 0, grade := (s.leaveForRequest p).policy.ceiling }).elsewhere p = s.elsewhere p := by
    rw [State.elsewhere_modPort, State.elsewhere_leaveForRequest]
  exact ite_keeps (State.elsewhere · p) ((State.elsewhere_goOff _ p).trans hleft)
    ((State.elsewhere_enterListen _ p).trans ((State.elsewhere_flushPort _ p).trans hleft))
@[simp] theorem State.elsewhere_applyCeiling : (s.applyCeiling p).elsewhere p = s.elsewhere p := by
  unfold State.applyCeiling
  simp only
  refine ite_keeps (State.elsewhere · p) rfl ?_
  split
  · rw [State.elsewhere_beginAttempt, State.elsewhere_modPort]
  · rw [State.elsewhere_noteRetrain, State.elsewhere_beginAttempt, State.elsewhere_exitUp, State.elsewhere_modPort]
  all_goals rfl
@[simp] theorem State.elsewhere_sleepPort : (s.sleepPort p).elsewhere p = s.elsewhere p := by
  unfold State.sleepPort
  split
  · exact s.elsewhere_goOff p
  · exact s.elsewhere_goOff p
  · exact s.elsewhere_goOff p
  all_goals rfl

end

/-! ## Loops over ports -/

/-- The state without every port, the Job List, the frame job, the causes and the engine. -/
def State.anywhere (s : State) : State :=
  { s with jobs := [], frameRun := .idle, causes := .clear, composer := { s.composer with engine := .free },
           ports := Vector.replicate 12 Port.reset }

theorem State.anywhere_of_elsewhere {s t : State} {p : PortId} (h : t.elsewhere p = s.elsewhere p) : t.anywhere = s.anywhere :=
  congrArg (fun u : State => ({ u with ports := Vector.replicate 12 Port.reset } : State)) h

section
variable {f : PortId → State → State} (hf : ∀ p u, (f p u).elsewhere p = u.elsewhere p)
include hf

theorem State.anywhere_forEach (ids : List PortId) (s : State) : (s.forEach ids f).anywhere = s.anywhere :=
  State.forEach_keeps State.anywhere f (fun p u => State.anywhere_of_elsewhere (hf p u)) ids s

/-- A port that no round concerns is as it was. -/
theorem State.port_forEach_of_not_mem {ids : List PortId} {p : PortId} (hp : p ∉ ids) (s : State) :
    (s.forEach ids f).port p = s.port p := by
  unfold State.forEach
  induction ids generalizing s with
  | nil => rfl
  | cons q ids ih =>
    rw [List.foldl_cons, ih (fun h => hp (List.mem_cons_of_mem q h)),
      State.port_of_elsewhere (hf q s) fun h => hp (h ▸ List.mem_cons_self)]

/-- The state in which a port's own round begins: the port is as it was, and after its round it stays. -/
theorem State.port_forEach {ids : List PortId} (hnodup : ids.Nodup) {p : PortId} (hp : p ∈ ids) (s : State) {P : State → Prop}
    (hP : ∀ q u, q ≠ p → P u → P (f q u)) (hs : P s) :
    ∃ u, P u ∧ u.anywhere = s.anywhere ∧ u.port p = s.port p ∧ (s.forEach ids f).port p = (f p u).port p ∧
      ∃ rest, p ∉ rest ∧ s.forEach ids f = (f p u).forEach rest f := by
  induction ids generalizing s with
  | nil => exact nomatch hp
  | cons q ids ih =>
    obtain ⟨hq, hids⟩ := List.nodup_cons.mp hnodup
    have hsplit : s.forEach (q :: ids) f = (f q s).forEach ids f := rfl
    rw [hsplit]
    by_cases hqp : q = p
    · subst hqp
      exact ⟨s, hs, rfl, rfl, State.port_forEach_of_not_mem hf hq _, ids, hq, rfl⟩
    · obtain ⟨u, hu, hany, hport, hrest⟩ := ih hids ((List.mem_cons.mp hp).resolve_left (Ne.symm hqp)) (f q s) (hP q s hqp hs)
      exact ⟨u, hu, hany.trans (State.anywhere_of_elsewhere (hf q s)),
        hport.trans (State.port_of_elsewhere (hf q s) (Ne.symm hqp)), hrest⟩

end

end Sys2Proof.Machine

/-! SUPPORT. A port that a request restarts, and loops over tiles whose ports are asked; O32, a RECOVER (R94, R171). -/
namespace Sys2Proof.Machine

/-! ## The control job after what spares it -/

section
variable {s t u : State} {j : Job}

theorem State.completeControl_keeps (s : State) (r : Result) : ∃ js, s.completeControl r = { s with jobs := js, controlRun := .idle } := by
  unfold State.completeControl
  split
  · exact ⟨_, rfl⟩
  · exact ⟨_, rfl⟩

theorem State.calm_of_running (hnodup : (s.jobs.map Job.addr).Nodup) (hj : s.running .control = some j) : s.calm j.addr :=
  State.calm_of_control fun _ hk ha => State.control_of_nodup hnodup hj hk ha

/-- The RUNNING control job, if it is spared, completes with what it is handed. -/
theorem State.result_of_spares (hnodup : (s.jobs.map Job.addr).Nodup) (hj : s.running .control = some j) (h : s.Spares j.addr u)
    (r : Result) : ((u.completeControl r).findJob j.addr).bind Job.result = some r := by
  have hcalm := State.calm_of_running hnodup hj
  obtain ⟨hmem, -, -, hnone⟩ := State.running_iff hj
  obtain ⟨k, hk, hentry, -⟩ := h.running hcalm hj rfl
  obtain ⟨m, hm, -, hresult⟩ := h.found (State.findJob_of_mem hnodup hmem) (.inl ⟨hcalm, rfl⟩)
  have haddr := (Job.addr_of_entry hentry).1
  rw [← haddr] at hm ⊢
  exact State.result_completeControl hk hm (hresult.trans hnone) r

end

/-! ## No LINK_TEST is block `a`'s -/

/-- No port has a LINK_TEST of block `a`. -/
def State.untested (a : Word) (s : State) : Prop := ∀ p : PortId, ∀ k, (s.port p).test = some k → k.job ≠ a

theorem State.untested_of_elsewhere {a : Word} {s t : State} {p : PortId} (h : t.elsewhere p = s.elsewhere p)
    (hp : (t.port p).test = none ∨ (t.port p).test = (s.port p).test) (hs : s.untested a) : t.untested a := by
  intro q k hk
  by_cases hq : q = p
  · subst hq
    rcases hp with hnone | hsame
    · exact nomatch hnone.symm.trans hk
    · exact hs q k (hsame.symm.trans hk)
  · exact hs q k (State.port_of_elsewhere h hq ▸ hk)

/-! ## A port that is asked to leave -/

/-- A port that leaves UP, if it is UP (R88). -/
def Port.left (x : Port) : Port := if x.link = .up then x.leftUp else x

/-- What does not look at the queue and the buffers. -/
theorem Port.congr_spine {α : Type} {g : Port → α} (hg : ∀ x : Port, g x.spine = g x) {x y : Port} (h : x.spine = y.spine) :
    g x = g y := (hg x).symm.trans ((congrArg g h).trans (hg y))

theorem State.policy_of_anywhere {s t : State} (h : t.anywhere = s.anywhere) : t.policy = s.policy := by
  have hpolicy := congrArg State.policy h
  exact hpolicy

theorem State.power_of_anywhere {s t : State} (h : t.anywhere = s.anywhere) : t.power = s.power := by
  have hpower := congrArg State.power h
  exact hpower

theorem State.controlRun_of_anywhere {s t : State} (h : t.anywhere = s.anywhere) : t.controlRun = s.controlRun := by
  have hrun := congrArg State.controlRun h
  exact hrun

theorem State.tiles_of_anywhere {s t : State} (h : t.anywhere = s.anywhere) : t.tiles = s.tiles := by
  have htiles := congrArg State.tiles h
  exact htiles

theorem State.asleep_of_anywhere {s t : State} (h : t.anywhere = s.anywhere) : t.asleep = s.asleep := by
  unfold State.asleep
  rw [State.power_of_anywhere h]

section
variable (s : State) (p : PortId)

theorem State.causes_of_quiet {s t : State} (h : t.quiet = s.quiet) : t.causes = s.causes := by
  have hcauses := congrArg State.causes h
  exact hcauses

theorem State.causes_exitUp : (s.exitUp p).causes = { s.causes with tile := true } := by
  unfold State.exitUp State.endTest State.endTestWith
  have hquiet := (State.quiet_flushPort ((s.port p).requeue.foldl State.noteTable (s.raiseTile.modPort p fun x =>
    { x.clearStream with silenceTimer := none, stability := 0 })) p).trans (foldl_keeps State.quiet _ State.quiet_noteTable _ _)
  have hcauses := State.causes_of_quiet hquiet
  dsimp only
  split
  · exact hcauses
  · exact hcauses

theorem State.causes_goOff : (s.goOff p).causes = s.causes := by
  unfold State.goOff
  rw [State.causes_of_quiet (State.quiet_portLeft _ p), State.causes_of_quiet (State.quiet_flushPort _ p)]
  rfl

theorem State.causes_enterListen : (s.enterListen p).causes = s.causes := by
  unfold State.enterListen
  rw [State.causes_of_quiet (State.quiet_portLeft _ p)]
  rfl

theorem State.spine_leaveForRequest : ((s.leaveForRequest p).port p).spine = (s.port p).left.spine := by
  unfold State.leaveForRequest Port.left
  split
  · next hup =>
    rw [if_pos hup]
    exact s.spine_exitUp p
  · next hlost =>
    rw [if_neg (by rw [hlost]; decide)]
    rfl
  all_goals
    next hlink =>
    rw [if_neg (by rw [hlink]; decide)]

/-- TILE is raised at a port that is UP or LOST (R94, R95). -/
theorem State.causes_leaveForRequest : (s.leaveForRequest p).causes =
    if (s.port p).link = .up ∨ (s.port p).link = .lost then { s.causes with tile := true } else s.causes := by
  unfold State.leaveForRequest
  split
  · next hup =>
    rw [if_pos (.inl hup)]
    exact s.causes_exitUp p
  · next hlost =>
    rw [if_pos (.inr hlost)]
    rfl
  all_goals
    next hlink =>
    rw [if_neg (by rw [hlink]; rintro (h | h) <;> cases h)]

/-! ## RECOVER of one port (R94) -/

/-- A port whose stream and counts a RECOVER has reset. -/
def Port.request (x : Port) (ceiling : Grade) : Port :=
  { x.clearStream with tally := 0, attempts := 0, stability := 0, grade := ceiling }

/-- A port after a RECOVER, but for its queue and its buffers. -/
def Port.recovered (x : Port) (asleep : Bool) (ceiling : Grade) : Port :=
  if asleep then (x.left.request ceiling).switchedOff else (x.left.request ceiling).listening

theorem State.spine_recoverPort : ((s.recoverPort p).port p).spine = ((s.port p).recovered s.asleep s.policy.ceiling).spine := by
  have hany := State.anywhere_of_elsewhere (s.elsewhere_leaveForRequest p)
  have hceiling : (s.leaveForRequest p).policy.ceiling = s.policy.ceiling := by rw [State.policy_of_anywhere hany]
  have hasleep : (s.leaveForRequest p).asleep = s.asleep := State.asleep_of_anywhere hany
  have hreset : (((s.leaveForRequest p).modPort p fun x => x.request (s.leaveForRequest p).policy.ceiling).port p).spine =
      ((s.port p).left.request s.policy.ceiling).spine := by
    rw [State.port_modPort_self, hceiling]
    exact Port.congr_spine (g := fun z => (z.request s.policy.ceiling).spine) (fun _ => rfl) (s.spine_leaveForRequest p)
  have hunfold : s.recoverPort p = if ((s.leaveForRequest p).modPort p fun x => x.request (s.leaveForRequest p).policy.ceiling).asleep
      then ((s.leaveForRequest p).modPort p fun x => x.request (s.leaveForRequest p).policy.ceiling).goOff p
      else (((s.leaveForRequest p).modPort p fun x => x.request (s.leaveForRequest p).policy.ceiling).flushPort p).enterListen p := rfl
  rw [hunfold]
  generalize hu : ((s.leaveForRequest p).modPort p fun x => x.request (s.leaveForRequest p).policy.ceiling) = u at hreset ⊢
  have hu : u.asleep = s.asleep := hu ▸ hasleep
  unfold Port.recovered
  rw [hu]
  split
  · rw [State.spine_goOff]
    exact Port.congr_spine (g := fun z => z.switchedOff.spine) (fun _ => rfl) hreset
  · rw [State.spine_enterListen]
    exact Port.congr_spine (g := fun z => z.listening.spine) (fun _ => rfl)
      ((State.spine_of_quiet (State.quiet_flushPort u p) p).trans hreset)

theorem State.causes_recoverPort : (s.recoverPort p).causes =
    if (s.port p).link = .up ∨ (s.port p).link = .lost then { s.causes with tile := true } else s.causes := by
  refine Eq.trans ?_ (s.causes_leaveForRequest p)
  unfold State.recoverPort
  dsimp only
  split
  · rw [State.causes_goOff]
    rfl
  · rw [State.causes_enterListen, State.causes_of_quiet (State.quiet_flushPort _ p)]
    rfl

/-- What a RECOVER of a port leaves of it, from what it was (R94). -/
def Port.RecoveredFrom (x y : Port) (l : LinkState) (g : Grade) : Prop :=
  y.link = l ∧ y.lostCause = none ∧ y.tally = 0 ∧ y.attempts = 0 ∧ y.stability = 0 ∧ y.grade = g ∧ y.window = [] ∧
  y.ctr = x.ctr ∧ y.ind = x.ind

theorem Port.recoveredFrom_recovered (x : Port) (asleep : Bool) (g : Grade) :
    x.RecoveredFrom (x.recovered asleep g).spine (if asleep then .off else .listen) g := by
  have hleft : x.left.ctr = x.ctr ∧ x.left.ind = x.ind := by
    unfold Port.left
    split <;> exact ⟨rfl, rfl⟩
  cases asleep <;> exact ⟨rfl, rfl, rfl, rfl, rfl, rfl, rfl, hleft.1, hleft.2⟩

theorem State.recoveredFrom_recoverPort :
    (s.port p).RecoveredFrom ((s.recoverPort p).port p) (if s.asleep then .off else .listen) s.policy.ceiling := by
  have h := (s.port p).recoveredFrom_recovered s.asleep s.policy.ceiling
  rw [← s.spine_recoverPort p] at h
  exact h

theorem State.test_recoverPort : ((s.recoverPort p).port p).test = none ∨ ((s.recoverPort p).port p).test = (s.port p).test := by
  have h : ((s.recoverPort p).port p).spine.test = ((s.port p).recovered s.asleep s.policy.ceiling).spine.test :=
    congrArg Port.test (s.spine_recoverPort p)
  have htest : ((s.port p).recovered s.asleep s.policy.ceiling).spine.test = (s.port p).left.test := by
    unfold Port.recovered
    split <;> rfl
  rw [show ((s.recoverPort p).port p).test = (s.port p).left.test from h.trans htest]
  unfold Port.left
  split
  · exact .inl rfl
  · exact .inr rfl

end

/-! ## RECOVER of the targets (R171) -/

section
variable (s : State)

theorem State.anywhere_recoverTile (i : TileId) : (s.recoverTile i).anywhere = s.anywhere := by
  unfold State.recoverTile
  split
  · rfl
  · next p _ => exact State.anywhere_of_elsewhere (s.elsewhere_recoverPort p)

/-- A port of no target stays. -/
theorem State.port_recoverTile_of_ne {i : TileId} {p : PortId} (h : (s.tile i).geom.port ≠ some p) :
    (s.recoverTile i).port p = s.port p := by
  unfold State.recoverTile
  split
  · rfl
  · next q hq => exact State.port_of_elsewhere (s.elsewhere_recoverPort q) fun e => h (e ▸ hq)

theorem State.recoverTile_of_port {i : TileId} {p : PortId} (h : (s.tile i).geom.port = some p) :
    s.recoverTile i = s.recoverPort p := by
  unfold State.recoverTile
  rw [h]

theorem State.causes_recoverTile (i : TileId) (h : s.causes.tile = true) : (s.recoverTile i).causes.tile = true := by
  unfold State.recoverTile
  split
  · exact h
  · rw [State.causes_recoverPort]
    split
    · rfl
    · exact h

/-- What RECOVERs so far have made of port `p`. -/
def State.Recovering (s u : State) (p : PortId) : Prop :=
  (s.port p).RecoveredFrom (u.port p) (if s.asleep then .off else .listen) s.policy.ceiling ∧
  ((s.port p).link = .up ∨ (s.port p).link = .lost → u.causes.tile = true)

variable {s}

theorem State.Recovering.next {u : State} {p : PortId} (h : s.Recovering u p) (hu : u.anywhere = s.anywhere) (i : TileId) :
    s.Recovering (u.recoverTile i) p := by
  obtain ⟨hport, hcause⟩ := h
  refine ⟨?_, fun hlink => State.causes_recoverTile u i (hcause hlink)⟩
  by_cases hi : (u.tile i).geom.port = some p
  · rw [State.recoverTile_of_port u hi]
    have hagain := u.recoveredFrom_recoverPort p
    rw [State.asleep_of_anywhere hu, State.policy_of_anywhere hu] at hagain
    obtain ⟨hlink, hcauseLost, htally, hattempts, hstability, hgrade, hwindow, hctr, hind⟩ := hagain
    obtain ⟨-, -, -, -, -, -, -, hctr', hind'⟩ := hport
    exact ⟨hlink, hcauseLost, htally, hattempts, hstability, hgrade, hwindow, hctr.trans hctr', hind.trans hind'⟩
  · rw [State.port_recoverTile_of_ne u hi]
    exact hport

theorem State.anywhere_recoverTiles (ids : List TileId) (s : State) :
    (s.forEach ids fun t u => u.recoverTile t).anywhere = s.anywhere :=
  State.forEach_keeps State.anywhere (fun t u => u.recoverTile t) (fun t u => u.anywhere_recoverTile t) ids s

theorem State.Recovering.rest {u : State} {p : PortId} (h : s.Recovering u p) (hu : u.anywhere = s.anywhere) (ids : List TileId) :
    s.Recovering (u.forEach ids fun t u => u.recoverTile t) p :=
  (State.forEach_invariant (P := fun v => s.Recovering v p ∧ v.anywhere = s.anywhere) (fun t u => u.recoverTile t)
    (fun t v hv => ⟨hv.1.next hv.2 t, (v.anywhere_recoverTile t).trans hv.2⟩) ids u ⟨h, hu⟩).1

theorem State.port_recoverTiles_of_ne {p : PortId} (ids : List TileId) {s : State} (h : ∀ i ∈ ids, (s.tile i).geom.port ≠ some p) :
    (s.forEach ids fun t u => u.recoverTile t).port p = s.port p := by
  unfold State.forEach
  induction ids generalizing s with
  | nil => rfl
  | cons i ids ih =>
    have htiles := State.tiles_of_anywhere (s.anywhere_recoverTile i)
    rw [List.foldl_cons, ih fun k hk => State.tile_of_tiles htiles k ▸ h k (List.mem_cons_of_mem i hk),
      State.port_recoverTile_of_ne s (h i List.mem_cons_self)]

/-- The port of a target is recovered; the rounds before its first leave it alone. -/
theorem State.recovering_forEach {ids : List TileId} {i : TileId} {p : PortId} (hi : i ∈ ids) {s : State}
    (hport : (s.tile i).geom.port = some p) : s.Recovering (s.forEach ids fun t u => u.recoverTile t) p := by
  induction ids generalizing s with
  | nil => exact nomatch hi
  | cons k ids ih =>
    have hsplit : (s.forEach (k :: ids) fun t u => u.recoverTile t) = (s.recoverTile k).forEach ids fun t u => u.recoverTile t := rfl
    have hany := s.anywhere_recoverTile k
    rw [hsplit]
    by_cases hk : (s.tile k).geom.port = some p
    · refine State.Recovering.rest ?_ hany ids
      rw [State.recoverTile_of_port s hk]
      refine ⟨s.recoveredFrom_recoverPort p, fun hlink => ?_⟩
      rw [State.causes_recoverPort, if_pos hlink]
    · have hmem : i ∈ ids := (List.mem_cons.mp hi).resolve_left fun e => hk (e ▸ hport)
      have hrest := ih hmem (s := s.recoverTile k) (by rw [State.tile_of_tiles (State.tiles_of_anywhere hany)]; exact hport)
      obtain ⟨hrecovered, hcause⟩ := hrest
      rw [State.port_recoverTile_of_ne s hk] at hrecovered hcause
      rw [State.asleep_of_anywhere hany, State.policy_of_anywhere hany] at hrecovered
      exact ⟨hrecovered, hcause⟩

/-- A LINK_TEST's job is not the one that RECOVER runs. -/
theorem State.spares_recoverTiles {a : Word} (ids : List TileId) {s : State} (h : s.untested a) :
    s.Spares a (s.forEach ids fun t u => u.recoverTile t) := by
  refine (State.forEach_invariant (P := fun v => s.Spares a v ∧ v.untested a) (fun t u => u.recoverTile t) (fun t v hv => ?_) ids s
    ⟨State.Spares.refl a s, h⟩).1
  obtain ⟨hspares, huntested⟩ := hv
  unfold State.recoverTile
  split
  · exact ⟨hspares, huntested⟩
  · next p _ => exact ⟨hspares.trans (State.spares_recoverPort a v (huntested p)),
      State.untested_of_elsewhere (v.elsewhere_recoverPort p) (v.test_recoverPort p) huntested⟩

end

/-- Settles O32: each target's port in its own rounds, the others in none. -/
theorem recoverRestartsItsTargets : Obligations.RecoverRestartsItsTargets := by
  intro s j hs
  obtain ⟨hj, -, -⟩ := (s.startedControl_eq_some_iff .recover j).mp hs
  dsimp only
  refine ⟨fun hnone => ?_, fun hsome => ?_⟩
  · simp only [exec, execRecover, hs, if_pos hnone, State.settled]
  · let ids := idsOf (s.targets (j.mask 16))
    let u := s.forEach ids fun t u => u.recoverTile t
    let r := plainResult .ok (detailMasks (s.targets (j.mask 16)) (s.targetsIn (s.targets (j.mask 16)) .lost)
      (s.targetsIn (s.targets (j.mask 16)) .up))
    have hexec : exec .recover s = .next (u.completeControl r).settle := by
      simp only [exec, execRecover, hs, if_neg hsome, State.settled]
      rfl
    obtain ⟨js, hdone⟩ := u.completeControl_keeps r
    have hany : u.anywhere = s.anywhere := State.anywhere_recoverTiles ids s
    refine ⟨_, hexec, ?_, ?_, fun i p hi hport => ?_, fun p hp => ?_, fun hnodup htest => ?_⟩
    · rw [hdone]
      exact (State.tiles_of_anywhere hany :)
    · rw [hdone]
    · obtain ⟨⟨hlink, hcauseLost, htally, hattempts, hstability, hgrade, hwindow, hctr, hind⟩, hcause⟩ :=
        State.recovering_forEach (mem_idsOf.mpr hi) hport
      rw [hdone]
      refine ⟨hlink.trans ?_, hcauseLost, htally, hattempts, hstability, hgrade, hwindow, hctr, hind, hcause⟩
      unfold State.asleep
      simp only [beq_iff_eq]
    · rw [hdone]
      exact State.port_recoverTiles_of_ne ids fun i hi => hp i (mem_idsOf.mp hi)
    · exact State.result_of_spares hnodup hj (State.spares_recoverTiles ids htest) r

end Sys2Proof.Machine

/-! O40, the end of a wake's settle: the ports that listen, the POWER, and the control lane (R143, R158). -/
namespace Sys2Proof.Machine

/-- An OFF port of a MAPPED tile goes to LISTEN (R143). -/
def State.wakePort (p : PortId) (s : State) : State :=
  if (s.port p).link = .off ∧ s.portMapped p = true then s.enterListen p else s

/-- Awake, with the reference INTERNAL, before the ports and the lane are looked at (R143). -/
def State.awake (s : State) (target : PowerState) : State :=
  { s with ref := { s.ref with state := .intern, source := .intern, frameTimer := some 0, frameLength := s.ref.period }
           power := { s.power with state := target, phase := .steady, settleTimer := none } }

section
variable {s : State}

theorem State.endSettle_eq {target : PowerState} (h : s.power.phase = .settling target) :
    s.endSettle = (((s.awake target).forEach allIds State.wakePort).completePower .sleep target).lookControl := by
  unfold State.endSettle
  rw [h]
  rfl

theorem State.elsewhere_wakePort (p : PortId) (s : State) : (s.wakePort p).elsewhere p = s.elsewhere p :=
  ite_keeps (State.elsewhere · p) (s.elsewhere_enterListen p) rfl

theorem State.spares_wakePorts (a : Word) (s : State) : s.Spares a (s.forEach allIds State.wakePort) :=
  State.forEach_invariant (P := s.Spares a) State.wakePort
    (fun p u hu => hu.trans (ite_spares (u.spares_enterListen a p) (State.Spares.refl a u))) allIds s (State.Spares.refl a s)

theorem State.jobs_wakePorts (h : s.frameRun = .idle) :
    (s.forEach allIds State.wakePort).frameRun = .idle ∧ (s.forEach allIds State.wakePort).jobs = s.jobs := by
  refine State.forEach_invariant (P := fun u => u.frameRun = .idle ∧ u.jobs = s.jobs) State.wakePort (fun p u hu => ?_) allIds s
    ⟨h, rfl⟩
  unfold State.wakePort
  split
  · rw [State.enterListen_of_idle hu.1]
    exact hu
  · exact hu

theorem State.link_wakePorts (s : State) (p : PortId) : ((s.forEach allIds State.wakePort).port p).link =
    if (s.port p).link = .off ∧ s.portMapped p = true then .listen else (s.port p).link := by
  obtain ⟨u, -, hany, hport, hround, -⟩ := State.port_forEach (f := State.wakePort) State.elsewhere_wakePort nodup_allIds
    (mem_allIds p) s (P := fun _ => True) (fun _ _ _ _ => trivial) trivial
  rw [hround, ← hport, ← State.portMapped_of_tiles (State.tiles_of_anywhere hany)]
  unfold State.wakePort
  split
  · exact Port.link_of_spine (u.spine_enterListen p)
  · rfl

theorem State.completePower_of_power (h : s.controlRun = .power) (before after : PowerState) :
    s.completePower before after = s.completeControl (plainResult .ok (detailPower before after)) := by
  unfold State.completePower
  rw [h]

theorem State.completePower_of_ne (h : s.controlRun ≠ .power) (before after : PowerState) : s.completePower before after = s := by
  unfold State.completePower
  split
  · next hpower => exact absurd hpower h
  all_goals rfl

theorem State.completePower_keeps (s : State) (before after : PowerState) :
    ∃ js c, s.completePower before after = { s with jobs := js, controlRun := c } := by
  unfold State.completePower
  split
  · obtain ⟨js, h⟩ := s.completeControl_keeps (plainResult .ok (detailPower before after))
    exact ⟨js, _, h⟩
  all_goals exact ⟨_, _, rfl⟩

/-- A result that has been handed over stays when the lane is looked at. -/
theorem State.result_lookControl {a : Word} {r : Result} (h : (s.findJob a).bind Job.result = some r) :
    (s.lookControl.findJob a).bind Job.result = some r := by
  obtain ⟨k, hk, hr⟩ := Option.bind_eq_some_iff.mp h
  rw [State.findJob_lookControl hk fun hdue => nomatch hr.symm.trans hdue.2.2]
  exact hr

theorem State.completePower_look_keeps (s : State) (before after : PowerState) :
    ∃ js f c, (s.completePower before after).lookControl = { s with jobs := js, frameRun := f, controlRun := c } := by
  obtain ⟨js, c, hpower⟩ := s.completePower_keeps before after
  rw [hpower]
  exact State.lookControl_keeps _

end

/-! ## The ports that a wake has restarted -/

/-- Awake, and every OFF port of a MAPPED tile in LISTEN (R143). -/
def State.woken (s : State) (target : PowerState) : State := (s.awake target).forEach allIds State.wakePort

section
variable (s : State) (target : PowerState)

theorem State.anywhere_woken : (s.woken target).anywhere = (s.awake target).anywhere :=
  State.anywhere_forEach State.elsewhere_wakePort allIds (s.awake target)

theorem State.woken_fields : (s.woken target).power = (s.awake target).power ∧ (s.woken target).ref = (s.awake target).ref ∧
    (s.woken target).tiles = s.tiles ∧ (s.woken target).controlRun = s.controlRun ∧ (s.woken target).halted = s.halted := by
  have h := s.anywhere_woken target
  have href := congrArg State.ref h
  have hhalted := congrArg State.halted h
  have hpower := State.power_of_anywhere h
  have htiles := State.tiles_of_anywhere h
  have hcontrol := State.controlRun_of_anywhere h
  generalize s.woken target = u at *
  exact ⟨hpower, href, htiles, hcontrol, hhalted⟩

theorem State.link_woken (p : PortId) : ((s.woken target).port p).link =
    if (s.port p).link = .off ∧ s.portMapped p = true then .listen else (s.port p).link :=
  State.link_wakePorts (s.awake target) p

variable {s target}

theorem State.outcomeOf_woken {j : Job} (hpower : s.controlRun = .power) (hj : s.running .control = some j)
    (hnodup : (s.jobs.map Job.addr).Nodup) :
    (((s.woken target).completePower .sleep target).lookControl).outcomeOf j.addr = some .ok := by
  obtain ⟨-, -, -, hcontrol, -⟩ := s.woken_fields target
  rw [State.completePower_of_power (hcontrol.trans hpower)]
  refine State.outcomeOf_of_result (State.result_lookControl (r := plainResult .ok (detailPower .sleep target)) ?_)
  exact State.result_of_spares (s := s.awake target) hnodup hj (State.spares_wakePorts j.addr _) _

/-- Without a frame job the Job List is that of before, and the lane is looked at (R158). -/
theorem State.looked_woken (hidle : s.frameRun = .idle) :
    let awake : State := { s with power := { s.power with state := target, phase := .steady, settleTimer := none } }
    let t := ((s.woken target).completePower .sleep target).lookControl
    (s.controlRun ≠ .power → Looked .control awake t) ∧
    (∀ j, s.controlRun = .power → s.running .control = some j → Looked .control { awake with
      controlRun := .idle
      jobs := s.jobs.map (fun k => if k.addr = j.addr then k.hand (plainResult .ok (detailPower .sleep target)) else k) } t) := by
  obtain ⟨hpower, -, -, hcontrol, hhalted⟩ := s.woken_fields target
  obtain ⟨hrun, hjobs⟩ := State.jobs_wakePorts (s := s.awake target) hidle
  have hrun : (s.woken target).frameRun = s.frameRun := Eq.trans hrun hidle.symm
  have hjobs : (s.woken target).jobs = s.jobs := hjobs
  generalize s.woken target = u at hpower hcontrol hhalted hrun hjobs
  dsimp only
  refine ⟨fun hne => ?_, fun j hpow hj => ?_⟩
  · rw [State.completePower_of_ne (hcontrol ▸ hne)]
    exact looked_congr (looked_lookControl u) hjobs.symm hrun.symm hcontrol.symm hhalted.symm hpower.symm rfl rfl rfl
  · have hrunning : u.running .control = some j := (State.running_of_jobs hjobs .control).trans hj
    rw [State.completePower_of_power (hcontrol.trans hpow), State.completeControl_eq hrunning]
    refine looked_congr (looked_lookControl { u.hand j.addr (plainResult .ok (detailPower .sleep target)) with controlRun := .idle })
      ?_ hrun.symm rfl hhalted.symm hpower.symm rfl rfl rfl
    dsimp only
    rw [← hjobs]
    rfl

end

/-- Settles O40: the ports in their rounds, then the POWER and the lane. -/
theorem wakeSettleEnds : Obligations.WakeSettleEnds := by
  intro s target hphase
  have hexec : exec .wakeSettleEnd s = .next ((s.woken target).completePower .sleep target).lookControl.settle := by
    show State.settled s.endSettle = _
    rw [State.endSettle_eq hphase]
    rfl
  obtain ⟨hpower, href, htiles, -⟩ := s.woken_fields target
  have hlink := s.link_woken target
  have houtcome {j : Job} := State.outcomeOf_woken (s := s) (target := target) (j := j)
  have hlooked := State.looked_woken (s := s) (target := target)
  generalize s.woken target = u at *
  obtain ⟨js, f, c, hdone⟩ := u.completePower_look_keeps .sleep target
  refine ⟨_, hexec, ?_, ?_, ?_, ?_, ?_, ?_, ?_, ?_, ?_, fun p => ⟨fun hoff hmapped => ?_, fun hstays => ?_⟩,
    fun j hrun hj hnodup => houtcome hrun hj hnodup, hlooked⟩
  iterate 3
    · rw [hdone]
      dsimp only
      rw [hpower]
      rfl
  iterate 5
    · rw [hdone]
      dsimp only
      rw [href]
      rfl
  · rw [hdone]
    exact htiles
  · rw [hdone]
    exact (hlink p).trans (if_pos ⟨hoff, hmapped⟩)
  · rw [hdone]
    refine (hlink p).trans (if_neg fun h => ?_)
    rcases hstays with hne | hunmapped
    · exact hne h.1
    · exact Bool.false_ne_true (hunmapped.symm.trans h.2)

end Sys2Proof.Machine

/-! O38, a POWER that is judged: what an entry into STANDBY ends, and a wake from STANDBY (R140, R141, R158). -/
namespace Sys2Proof.Machine

/-! ## Picture work stops (R141, R142) -/

section
variable {s : State}

theorem State.jobs_stopWork_cases (s : State) (o : JobOutcome) :
    (s.frameRun = .idle ∧ (s.stopWork o).jobs = endWaiting o s.jobs) ∨
      ∃ r : Result, r.outcome = .aborted ∧ (s.stopWork o).jobs = endWaiting o (handRunning .frame r s.jobs) := by
  rw [State.jobs_stopWork]
  by_cases hidle : s.frameRun = .idle
  · rw [State.abortFrameJob_of_idle hidle]
    exact .inl ⟨hidle, rfl⟩
  · obtain ⟨r, hr, hjobs⟩ := s.jobs_abortFrameJob hidle
    exact .inr ⟨r, hr, congrArg _ hjobs⟩

theorem State.addrs_stopWork (s : State) (o : JobOutcome) : (s.stopWork o).jobs.map Job.addr = s.jobs.map Job.addr := by
  rcases s.jobs_stopWork_cases o with ⟨-, h⟩ | ⟨r, -, h⟩
  · rw [h, addrs_endWaiting]
  · rw [h, addrs_endWaiting, addrs_handRunning]

/-- A WAITING frame job without a result is handed the outcome. -/
theorem State.outcomeOf_stopWork (o : JobOutcome) (hnodup : (s.jobs.map Job.addr).Nodup) {k : Job} (hk : k ∈ s.jobs)
    (hlane : k.lane = some .frame) (hstatus : k.status = .waiting) (hresult : k.result = none) :
    (s.stopWork o).outcomeOf k.addr = some o := by
  have hmem : k.hand (plainResult o detailZero) ∈ (s.stopWork o).jobs := by
    rcases s.jobs_stopWork_cases o with ⟨-, hjobs⟩ | ⟨r, -, hjobs⟩
    · rw [hjobs]
      exact mem_endWaiting_of_waiting hk hlane hstatus
    · rw [hjobs]
      refine mem_endWaiting_of_waiting (mem_handRunning_of_nodup hnodup hk fun hrunning => ?_) hlane hstatus
      exact nomatch hstatus.symm.trans hrunning.2
  rw [Job.hand_of_none hresult] at hmem
  rw [State.outcomeOf_eq (State.findJob_of_mem (by rw [State.addrs_stopWork]; exact hnodup) hmem)]
  rfl

/-- The RUNNING frame job is handed ABORTED. -/
theorem State.aborted_stopWork (o : JobOutcome) (hnodup : (s.jobs.map Job.addr).Nodup) (hrun : s.frameRun ≠ .idle) {k : Job}
    (hk : s.running .frame = some k) : (s.stopWork o).outcomeOf k.addr = some .aborted := by
  obtain ⟨-, -, hstatus, hnone⟩ := State.running_iff hk
  rcases s.jobs_stopWork_cases o with ⟨hidle, -⟩ | ⟨r, hr, hjobs⟩
  · exact absurd hidle hrun
  · have hmem : k.hand r ∈ (s.stopWork o).jobs := by
      rw [hjobs]
      refine mem_endWaiting (mem_handRunning_of_running hk) fun hw => ?_
      rw [(Job.hand_lane k r).2, hstatus] at hw
      exact nomatch hw.2
    have hfind := State.findJob_of_mem (by rw [State.addrs_stopWork]; exact hnodup) hmem
    rw [Job.hand_addr] at hfind
    rw [State.outcomeOf_eq hfind, Job.hand_of_none hnone]
    exact congrArg some hr

/-- A block of no frame job is spared. -/
theorem State.spares_stopWork {a : Word} (hlanes : ∀ k ∈ s.jobs, k.addr = a → k.lane ≠ some .frame) (o : JobOutcome) :
    s.Spares a (s.stopWork o) := by
  have hinert : (s.stopWork o).inert := by
    unfold State.inert
    rw [State.frameRun_stopWork]
    decide
  have hended (u : State) {k : Job} (hk : k.addr = a → k.lane ≠ some .frame) : k.After (fun j => u.calm a ∧ j.addr = a)
      (if k.lane = some .frame ∧ k.status = .waiting then k.hand (plainResult o detailZero) else k) := by
    split
    · next hwaiting => exact Job.after_hand (fun hkept => hk hkept.2 hwaiting.1) _
    · exact Job.After.refl _ _
  rcases s.jobs_stopWork_cases o with ⟨-, hjobs⟩ | ⟨r, -, hjobs⟩
  · exact State.spares_of_map hjobs (fun k hk => hended s (hlanes k hk)) fun _ => hinert
  · cases hrun : s.running .frame with
    | none =>
      have hsame : handRunning .frame r s.jobs = s.jobs := by
        unfold State.running at hrun
        unfold handRunning
        rw [hrun]
      rw [hsame] at hjobs
      exact State.spares_of_map hjobs (fun k hk => hended s (hlanes k hk)) fun _ => hinert
    | some m =>
      have hhanded : handRunning .frame r s.jobs = s.jobs.map fun k => if k.addr = m.addr then k.hand r else k := by
        unfold State.running at hrun
        unfold handRunning
        rw [hrun]
      obtain ⟨hm, hlane, -⟩ := State.running_iff hrun
      rw [hhanded] at hjobs
      have hfirst : s.Spares a { s with jobs := s.jobs.map fun k => if k.addr = m.addr then k.hand r else k } := by
        refine State.spares_of_map rfl (fun k hk => ?_) id
        split
        · next haddr => exact Job.after_hand (fun hkept => hlanes m hm (haddr.symm.trans hkept.2) hlane) r
        · exact Job.After.refl _ _
      have hlanes' := forall₂_lanes hfirst.2 hlanes
      exact hfirst.trans (State.spares_of_map hjobs (fun k hk => hended _ (hlanes' k hk)) fun _ => hinert)

theorem State.engine_stopWork (s : State) (o : JobOutcome) : (s.stopWork o).composer.engine = .free := rfl

end

/-! ## POWER (R140) -/

/-- A result that has been handed over stays when the frame lane is looked at. -/
theorem State.result_lookFrame {s : State} {a : Word} {r : Result} (h : (s.findJob a).bind Job.result = some r) :
    (s.lookFrame.findJob a).bind Job.result = some r := by
  obtain ⟨k, hk, hr⟩ := Option.bind_eq_some_iff.mp h
  rw [State.findJob_lookFrame hk fun hdue => nomatch hr.symm.trans hdue.2.2]
  exact hr

theorem powerOf_of_bad {n : Nat} (h : n = 0 ∨ 3 < n) : powerOf n = none := by
  unfold powerOf
  simp only [beq_iff_eq]
  rw [if_neg (by omega), if_neg (by omega), if_neg (by omega)]

section
variable {s : State} {j : Job} (hs : s.startedControl .power = some j)
include hs

theorem exec_power_badField (h : j.byte 16 = 0 ∨ 3 < j.byte 16) :
    exec .power s = .next (s.completeControl (invalidResult .badField none none)).settle := by
  simp only [exec, execPower, hs, powerOf_of_bad h, State.settled]

theorem exec_power_redundant {w : PowerState} (hw : powerOf (j.byte 16) = some w) (hstate : s.power.state = w) :
    exec .power s = .next (s.completeControl (plainResult .redundant (detailPower w w))).settle := by
  simp only [exec, execPower, hs, hw, if_pos hstate, State.settled]

theorem exec_power_changes {w : PowerState} (hw : powerOf (j.byte 16) = some w) (hstate : s.power.state ≠ w) :
    exec .power s = .next (({ s with controlRun := .power } : State).changePower w).settle := by
  simp only [exec, execPower, hs, hw, if_neg hstate, State.settled]

end

section
variable {s : State} {j : Job} (hj : s.running .control = some j) (hnodup : (s.jobs.map Job.addr).Nodup)

/-- In STANDBY, before the POWER completes (R141). -/
def State.stopped (s : State) : State :=
  { ({ s with controlRun := .power } : State).stopWork .notRunning with power := { s.power with state := .standby } }

theorem State.stopped_keeps (s : State) : s.stopped.controlRun = .power ∧ s.stopped.ref = s.ref ∧ s.stopped.frameRun = .idle ∧
    s.stopped.composer.engine = .free ∧ (∀ p : PortId, (s.stopped.port p).link = (s.port p).link) ∧
    ∃ v : State, v.jobs = s.jobs ∧ v.frameRun = s.frameRun ∧ s.stopped.jobs = (v.stopWork .notRunning).jobs := by
  have hquiet := State.quiet_stopWork { s with controlRun := .power } .notRunning
  have hcontrol := congrArg State.controlRun hquiet
  have href := congrArg State.ref hquiet
  have hlink (p : PortId) := Port.link_of_spine (State.spine_of_quiet hquiet p)
  have hidle := State.frameRun_stopWork { s with controlRun := .power } .notRunning
  have hfree := State.engine_stopWork { s with controlRun := .power } .notRunning
  have hjobs : ∃ v : State, v.jobs = s.jobs ∧ v.frameRun = s.frameRun ∧
      (({ s with controlRun := .power } : State).stopWork .notRunning).jobs = (v.stopWork .notRunning).jobs :=
    ⟨{ s with controlRun := .power }, rfl, rfl, rfl⟩
  unfold State.stopped
  generalize ({ s with controlRun := .power } : State).stopWork .notRunning = u at *
  exact ⟨hcontrol, href, hidle, hfree, hlink, hjobs⟩

theorem State.enterStandby_eq (s : State) :
    ({ s with controlRun := .power } : State).enterStandby = s.stopped.completePower s.power.state .standby := by
  have hquiet := State.quiet_stopWork { s with controlRun := .power } .notRunning
  have hpower := congrArg State.power hquiet
  unfold State.enterStandby State.stopped
  generalize ({ s with controlRun := .power } : State).stopWork .notRunning = u at *
  dsimp only
  rw [show u.power = s.power from hpower]

theorem State.changePower_standby (hrun : s.power.state = .run) : ({ s with controlRun := .power } : State).changePower .standby =
    s.stopped.completeControl (plainResult .ok (detailPower .run .standby)) := by
  have hchange : ({ s with controlRun := .power } : State).changePower .standby =
      ({ s with controlRun := .power } : State).enterStandby := by
    unfold State.changePower
    rw [hrun]
  obtain ⟨hcontrol, -⟩ := s.stopped_keeps
  rw [hchange, State.enterStandby_eq, hrun]
  exact State.completePower_of_power hcontrol _ _

theorem State.changePower_run (hstandby : s.power.state = .standby) : ({ s with controlRun := .power } : State).changePower .run =
    (({ s with controlRun := .power, power := { s.power with state := .run } } : State).completeControl
      (plainResult .ok (detailPower .standby .run))).lookFrame := by
  unfold State.changePower
  rw [hstandby]
  rfl

theorem State.changePower_sleep (hsleep : s.power.state = .sleep) {w : PowerState} (hw : w ≠ .sleep) :
    ({ s with controlRun := .power } : State).changePower w = { s with
      controlRun := .power
      power := { s.power with phase := .settling w, settleTimer := some 2000000 } } := by
  unfold State.changePower
  rw [hsleep]
  cases w with
  | run => rfl
  | standby => rfl
  | sleep => exact absurd rfl hw

include hj hnodup

/-- No frame job is a namesake of the RUNNING control job. -/
theorem State.lanes_of_control : ∀ k ∈ s.jobs, k.addr = j.addr → k.lane ≠ some .frame :=
  fun _ hk ha hlane => nomatch (State.control_of_nodup hnodup hj hk ha).symm.trans hlane

/-- What a POWER into STANDBY leaves of the Job List (R141). -/
theorem State.jobs_stopped {u : State} (hjobs : u.jobs = (s.stopWork .notRunning).jobs) (hidle : u.frameRun = .idle) (r : Result) :
    ((u.completeControl r).findJob j.addr).bind Job.result = some r ∧
    (∀ k ∈ (u.completeControl r).jobs, k.lane = some .frame → k.status = .waiting → k.result.isSome = true) ∧
    (∀ k ∈ s.jobs, k.lane = some .frame → k.status = .waiting → k.result = none →
      (u.completeControl r).outcomeOf k.addr = some .notRunning) ∧
    (∀ k, s.running .frame = some k → s.frameRun ≠ .idle → (u.completeControl r).outcomeOf k.addr = some .aborted) := by
  have hlanes := State.lanes_of_control hj hnodup
  have hspares : s.Spares j.addr u := by
    refine (State.spares_stopWork hlanes .notRunning).then ?_
    unfold State.jobRun
    rw [hjobs, hidle, State.frameRun_stopWork]
  obtain ⟨i, hi, hentry, -⟩ := hspares.running (State.calm_of_running hnodup hj) hj rfl
  have haddr := (Job.addr_of_entry hentry).1
  have hother {k : Job} (hk : k ∈ s.jobs) (hlane : k.lane = some .frame) :
      (u.completeControl r).outcomeOf k.addr = (s.stopWork .notRunning).outcomeOf k.addr := by
    unfold State.outcomeOf
    rw [State.findJob_completeControl_of_ne hi r fun e => hlanes k hk (e.trans haddr) hlane, State.findJob_of_jobs hjobs]
  refine ⟨State.result_of_spares hnodup hj hspares r, fun k hk hlane hstatus => ?_, fun k hk hlane hstatus hnone => ?_,
    fun k hk hrun => ?_⟩
  · rw [State.completeControl_eq hi] at hk
    obtain ⟨m, hm, rfl⟩ := List.mem_map.mp hk
    rw [hjobs, State.jobs_stopWork] at hm
    by_cases haddr : m.addr = i.addr
    · rw [if_pos haddr]
      exact Job.hand_isSome m r
    · rw [if_neg haddr] at hlane hstatus ⊢
      exact isSome_of_mem_endWaiting hm hlane hstatus
  · rw [hother hk hlane]
    exact State.outcomeOf_stopWork .notRunning hnodup hk hlane hstatus hnone
  · obtain ⟨hmem, hlane, -⟩ := State.running_iff hk
    rw [hother hmem hlane]
    exact State.aborted_stopWork .notRunning hnodup hrun hk

end

/-- Settles O38: the table of R140, row by row. -/
theorem powerIsJudged : Obligations.PowerIsJudged := by
  intro s j hs hnodup
  obtain ⟨hj, -, -⟩ := (s.startedControl_eq_some_iff .power j).mp hs
  refine ⟨fun hbad => exec_power_badField hs hbad, fun w hw hstate => exec_power_redundant hs hw hstate,
    fun hrun hcode => ?_, fun hstandby hcode => ?_, fun hsleep w hw hne => ?_⟩
  · have hexec := exec_power_changes hs (w := .standby) (by rw [hcode]; rfl) (by rw [hrun]; decide)
    rw [State.changePower_standby hrun] at hexec
    obtain ⟨-, href, hidle, hfree, hlink, v, hv, hvrun, hjobs⟩ := s.stopped_keeps
    obtain ⟨hresult, hwaiting, hended, haborted⟩ := State.jobs_stopped ((State.running_of_jobs hv .control).trans hj)
      (by rw [hv]; exact hnodup) hjobs hidle (plainResult .ok (detailPower .run .standby))
    rw [hv] at hended
    rw [State.running_of_jobs hv, hvrun] at haborted
    have hpower : s.stopped.power.state = .standby := rfl
    generalize s.stopped = u at *
    obtain ⟨js, hdone⟩ := u.completeControl_keeps (plainResult .ok (detailPower .run .standby))
    refine ⟨_, hexec, ?_, State.outcomeOf_of_result hresult, ?_, ?_, ?_, ?_, hwaiting, hended, haborted⟩
    all_goals rw [hdone]
    · exact hpower
    · exact hidle
    · exact hfree
    · exact href
    · exact hlink
  · have hexec := exec_power_changes hs (w := .run) (by rw [hcode]; rfl) (by rw [hstandby]; decide)
    rw [State.changePower_run hstandby] at hexec
    generalize hu : ({ s with controlRun := .power, power := { s.power with state := .run } } : State) = u at hexec
    have hjobs : u.jobs = s.jobs := by rw [← hu]
    have hrunning : u.running .control = some j := (State.running_of_jobs hjobs .control).trans hj
    have hfound : u.findJob j.addr = some j :=
      (State.findJob_of_jobs hjobs j.addr).trans (State.findJob_of_mem hnodup (State.running_iff hj).1)
    have hresult := State.result_lookFrame (State.result_completeControl hrunning hfound (State.running_iff hj).2.2.2
      (plainResult .ok (detailPower .standby .run)))
    refine ⟨_, hexec, ?_, State.outcomeOf_of_result hresult, ?_, ?_, ?_, ?_⟩
    iterate 4
      · rw [State.completeControl_eq hrunning]
        obtain ⟨js, f, c, hlook⟩ := State.lookFrame_keeps
          { u.hand j.addr (plainResult .ok (detailPower .standby .run)) with controlRun := .idle }
        rw [hlook, ← hu]
        rfl
    · rw [State.completeControl_eq hrunning]
      exact looked_congr (looked_lookFrame
        { u.hand j.addr (plainResult .ok (detailPower .standby .run)) with controlRun := .idle })
        (by rw [← hu]; rfl) (by rw [← hu]; rfl) rfl (by rw [← hu]; rfl) (by rw [← hu]; rfl) rfl rfl rfl
  · have hexec := exec_power_changes hs hw (by rw [hsleep]; exact Ne.symm hne)
    rw [State.changePower_sleep hsleep hne] at hexec
    exact hexec

end Sys2Proof.Machine

/-! O39, the entry into SLEEP: the rounds over the ports, the reference that stops, and what the LINK_TESTs' jobs are handed
(R95, R142, R178). -/
namespace Sys2Proof.Machine

/-! ## Entries that are handed one outcome -/

/-- The first entry of block `a` is in lane `l`, and if it has a result, its outcome is `o`. -/
def Ending (o : JobOutcome) (l : Option Lane) (a : Word) (js : List Job) : Prop :=
  ∃ m, js.find? (fun j => j.addr == a) = some m ∧ m.lane = l ∧ ∀ r ∈ m.result, r.outcome = o

/-- The first entry of block `a` has been handed outcome `o`. -/
def Ended (o : JobOutcome) (a : Word) (js : List Job) : Prop :=
  ∃ m, js.find? (fun j => j.addr == a) = some m ∧ m.result.map Result.outcome = some o

theorem find?_map_addr {f : Job → Job} (hf : ∀ k, (f k).addr = k.addr) (js : List Job) (a : Word) :
    (js.map f).find? (fun j => j.addr == a) = (js.find? fun j => j.addr == a).map f := by
  rw [List.find?_map]
  refine congrArg (Option.map f) (congrArg (js.find? ·) ?_)
  funext k
  simp only [Function.comp, hf]

section
variable {o : JobOutcome} {l : Option Lane} {a : Word} {js : List Job} {f : Job → Job} {k : Job} {x : Result}

theorem Ending.map (h : Ending o l a js) (hf : ∀ k, (f k).addr = k.addr) (hlane : ∀ k, (f k).lane = k.lane)
    (hresult : ∀ k, k.lane = l → (∀ r ∈ k.result, r.outcome = o) → ∀ r ∈ (f k).result, r.outcome = o) :
    Ending o l a (js.map f) := by
  obtain ⟨m, hm, hl, hr⟩ := h
  exact ⟨f m, by rw [find?_map_addr hf, hm]; rfl, (hlane m).trans hl, hresult m hl hr⟩

theorem Ended.map (h : Ended o a js) (hf : ∀ k, (f k).addr = k.addr)
    (hresult : ∀ k, k.result ≠ none → (f k).result = k.result) : Ended o a (js.map f) := by
  obtain ⟨m, hm, hr⟩ := h
  refine ⟨f m, by rw [find?_map_addr hf, hm]; rfl, ?_⟩
  rw [hresult m fun hnone => by rw [hnone] at hr; cases hr]
  exact hr

/-- What a job is handed where it has no result yet. -/
theorem Job.outcome_hand (hx : x.outcome = o) (hk : ∀ r ∈ k.result, r.outcome = o) :
    (k.hand x).result.map Result.outcome = some o := by
  unfold Job.hand
  split
  · exact congrArg some hx
  · next r hr =>
    rw [hr]
    exact congrArg some (hk r hr)

theorem Job.ending_hand (hx : x.outcome = o) (hk : ∀ r ∈ k.result, r.outcome = o) : ∀ r ∈ (k.hand x).result, r.outcome = o :=
  fun r hr => by
  have h := Job.outcome_hand hx hk
  rw [Option.mem_def.mp hr] at h
  exact Option.some.inj h

variable {s : State}

theorem State.outcomeOf_of_ended (h : Ended o a s.jobs) : s.outcomeOf a = some o := by
  obtain ⟨m, hm, hr⟩ := h
  rw [State.outcomeOf_eq hm]
  exact hr

/-- Any hand of the outcome. -/
theorem State.ending_hand (h : Ending o l a s.jobs) (b : Word) (hx : x.outcome = o) : Ending o l a (s.hand b x).jobs := by
  refine Ending.map (f := fun k => if k.addr = b then k.hand x else k) h (fun k => ?_) (fun k => ?_) fun k _ hk => ?_
  · split
    · exact Job.hand_addr k x
    · rfl
  · split
    · exact (Job.hand_lane k x).1
    · rfl
  · split
    · exact Job.ending_hand hx hk
    · exact hk

/-- Any hand at all. -/
theorem State.ended_hand (h : Ended o a s.jobs) (b : Word) (x : Result) : Ended o a (s.hand b x).jobs := by
  refine Ended.map (f := fun k => if k.addr = b then k.hand x else k) h (fun k => ?_) fun k hk => ?_
  · split
    · exact Job.hand_addr k x
    · rfl
  · split
    · rw [Job.hand_result hk]
    · rfl

/-- The hand itself. -/
theorem State.ended_of_hand (h : Ending o l a s.jobs) (hx : x.outcome = o) : Ended o a (s.hand a x).jobs := by
  obtain ⟨m, hm, -, hr⟩ := h
  refine ⟨m.hand x, ?_, Job.outcome_hand hx hr⟩
  have hmap := State.findJob_modJob s a a (fun k => k.hand x) fun k => Job.hand_addr k x
  have hm : s.findJob a = some m := hm
  rw [hm, Option.map_some, if_pos (State.addr_of_findJob hm)] at hmap
  exact hmap

/-- The WAITING frame jobs' hands leave the control lane alone. -/
theorem ending_endWaiting (h : Ending o (some .control) a js) (w : JobOutcome) : Ending o (some .control) a (endWaiting w js) := by
  refine Ending.map h (fun k => ?_) (fun k => ?_) fun k hlane hk => ?_
  · split
    · exact Job.hand_addr k _
    · rfl
  · split
    · exact (Job.hand_lane k _).1
    · rfl
  · rw [if_neg fun hw => absurd (hlane.symm.trans hw.1) (by decide)]
    exact hk

/-- Picture work that stops hands an entry of the control lane nothing but ABORTED. -/
theorem State.ending_stopWork (h : Ending .aborted (some .control) a s.jobs) (w : JobOutcome) :
    Ending .aborted (some .control) a (s.stopWork w).jobs := by
  rcases s.jobs_stopWork_cases w with ⟨-, hjobs⟩ | ⟨r, hr, hjobs⟩
  · rw [hjobs]
    exact ending_endWaiting h w
  · rw [hjobs]
    refine ending_endWaiting ?_ w
    unfold handRunning
    split
    · exact h
    · next m _ => exact State.ending_hand h m.addr hr

end

/-! ## The ports, one after the other -/

/-- A port's LINK_TEST ends and its notice falls due (R142). -/
def State.noticePort (p : PortId) (s : State) : State := (s.endTest p .aborted).modPort p Port.dueNotice

/-- No frame job runs and the engine is free. -/
def State.workless (s : State) : Prop := s.frameRun = .idle ∧ s.composer.engine = .free

section
variable {s : State} (p : PortId)

theorem State.elsewhere_noticePort (p : PortId) (s : State) : (s.noticePort p).elsewhere p = s.elsewhere p := by
  unfold State.noticePort
  rw [State.elsewhere_modPort, State.elsewhere_endTest]

theorem State.spine_noticePort (s : State) : ((s.noticePort p).port p).spine = ({ s.port p with test := none } : Port).dueNotice.spine := by
  unfold State.noticePort
  rw [State.port_modPort_self]
  refine Port.congr_spine (g := fun x => x.dueNotice.spine) (fun x => ?_) (s.spine_endTestWith p .aborted _)
  by_cases hup : x.link = .up
  · rw [Port.dueNotice, Port.dueNotice, if_pos (show x.spine.link = .up from hup), if_pos hup]
    rfl
  · rw [Port.dueNotice, Port.dueNotice, if_neg (show x.spine.link ≠ .up from hup), if_neg hup]
    rfl

theorem State.workless_noticePort (h : s.workless) : (s.noticePort p).workless := by
  unfold State.noticePort State.endTest State.endTestWith
  split
  · exact h
  · exact h

/-- Whose job ends with the port's LINK_TEST (R178). -/
theorem State.jobs_noticePort (s : State) : (s.noticePort p).jobs = match (s.port p).test with
    | none => s.jobs
    | some k => (s.hand k.job (plainResult .aborted k.detail)).jobs := by
  unfold State.noticePort State.endTest State.endTestWith
  cases (s.port p).test <;> rfl

theorem State.workless_goOff (h : s.workless) : (s.goOff p).workless ∧ (s.goOff p).jobs = s.jobs := by
  obtain ⟨hidle, hfree⟩ := h
  have hreleased : ((s.modPort p fun x => x.switchedOff).modPort p Port.flush).releaseEngine p =
      (s.modPort p fun x => x.switchedOff).modPort p Port.flush := by
    unfold State.releaseEngine
    rw [show ((s.modPort p fun x => x.switchedOff).modPort p Port.flush).composer.engine = .free from hfree]
  have hflushed : (s.modPort p fun x => x.switchedOff).flushPort p = (s.modPort p fun x => x.switchedOff).modPort p Port.flush := by
    unfold State.flushPort
    rw [hreleased]
    dsimp only
    rw [show ((s.modPort p fun x => x.switchedOff).modPort p Port.flush).scene = none by
      unfold State.scene
      rw [show ((s.modPort p fun x => x.switchedOff).modPort p Port.flush).frameRun = .idle from hidle]]
  have hoff : s.goOff p = (s.modPort p fun x => x.switchedOff).modPort p Port.flush := by
    show State.portLeft ((s.modPort p fun x => x.switchedOff).flushPort p) p = _
    rw [hflushed]
    exact State.portLeft_of_idle (s := (s.modPort p fun x => x.switchedOff).modPort p Port.flush) hidle p
  rw [hoff]
  exact ⟨⟨hidle, hfree⟩, rfl⟩

theorem State.workless_sleepPort (h : s.workless) : (s.sleepPort p).workless ∧ (s.sleepPort p).jobs = s.jobs := by
  unfold State.sleepPort
  split
  iterate 3 · exact State.workless_goOff p h
  all_goals exact ⟨h, rfl⟩

/-- A port after its notice and its way to SLEEP (R142). -/
def Port.bedded (x : Port) : Port :=
  let y := ({ x with test := none } : Port).dueNotice
  if y.link = .listen ∨ y.link = .offer ∨ y.link = .train then y.switchedOff else y

theorem State.spine_sleepPort (s : State) : ((s.sleepPort p).port p).spine =
    (if (s.port p).link = .listen ∨ (s.port p).link = .offer ∨ (s.port p).link = .train then (s.port p).switchedOff else s.port p).spine := by
  unfold State.sleepPort
  split
  iterate 3
    · next hlink =>
      rw [if_pos (by rw [hlink]; decide)]
      exact s.spine_goOff p
  all_goals
    next hlink =>
    rw [if_neg (by rw [hlink]; decide)]

end

/-! ## All ports -/

/-- The round of one port on the way to SLEEP. -/
def State.bedPort (p : PortId) (s : State) : State := s.sleepPort p

/-- Every port's notice, then every port's way to SLEEP (R142). -/
def State.bed (s : State) : State := (s.forEach allIds State.noticePort).forEach allIds State.bedPort

section
variable {s : State}

theorem State.anywhere_bed (s : State) : s.bed.anywhere = s.anywhere :=
  (State.anywhere_forEach (f := State.bedPort) (fun p u => u.elsewhere_sleepPort p) allIds _).trans
    (State.anywhere_forEach State.elsewhere_noticePort allIds s)

theorem State.workless_notices (h : s.workless) : (s.forEach allIds State.noticePort).workless :=
  State.forEach_invariant (P := State.workless) State.noticePort (fun p _ hu => State.workless_noticePort p hu) allIds s h

theorem State.jobs_bed (h : s.workless) : s.bed.workless ∧ s.bed.jobs = (s.forEach allIds State.noticePort).jobs :=
  State.forEach_invariant (P := fun u => u.workless ∧ u.jobs = (s.forEach allIds State.noticePort).jobs) State.bedPort
    (fun p _ hu => ⟨(State.workless_sleepPort p hu.1).1, (State.workless_sleepPort p hu.1).2.trans hu.2⟩) allIds _
    ⟨State.workless_notices h, rfl⟩

theorem State.spine_bed (s : State) (p : PortId) : (s.bed.port p).spine = (s.port p).bedded.spine := by
  obtain ⟨u, -, -, hport, hround, -⟩ := State.port_forEach (f := State.noticePort) State.elsewhere_noticePort nodup_allIds
    (mem_allIds p) s (P := fun _ => True) (fun _ _ _ _ => trivial) trivial
  obtain ⟨v, -, -, hport', hround', -⟩ := State.port_forEach (f := State.bedPort) (fun p u => u.elsewhere_sleepPort p) nodup_allIds
    (mem_allIds p) (s.forEach allIds State.noticePort) (P := fun _ => True) (fun _ _ _ _ => trivial) trivial
  unfold State.bed
  rw [hround']
  show ((v.sleepPort p).port p).spine = _
  rw [State.spine_sleepPort, hport', hround]
  have hnoticed := u.spine_noticePort p
  rw [hport] at hnoticed
  refine Port.congr_spine (g := fun x : Port =>
    (if x.link = .listen ∨ x.link = .offer ∨ x.link = .train then x.switchedOff else x).spine) (fun x => ?_) hnoticed
  rw [show x.spine.link = x.link from rfl]
  split <;> rfl

/-- A LINK_TEST's job is handed ABORTED in its port's round (R178). -/
theorem State.aborted_notices {p : PortId} {k : LinkTest} (hk : (s.port p).test = some k) (h : Ending .aborted (some .control) k.job s.jobs) :
    Ended .aborted k.job (s.forEach allIds State.noticePort).jobs := by
  obtain ⟨u, hu, -, hport, -, rest, -, hrest⟩ := State.port_forEach (f := State.noticePort) State.elsewhere_noticePort nodup_allIds
    (mem_allIds p) s (P := fun u => Ending .aborted (some .control) k.job u.jobs) (fun q u _ hu => by
      rw [State.jobs_noticePort]
      split
      · exact hu
      · exact State.ending_hand hu _ rfl) h
  rw [hrest]
  refine State.forEach_invariant (P := fun u => Ended .aborted k.job u.jobs) State.noticePort (fun q u hu => ?_) rest _ ?_
  · rw [State.jobs_noticePort]
    split
    · exact hu
    · exact State.ended_hand hu _ _
  · rw [State.jobs_noticePort, hport, hk]
    exact State.ended_of_hand hu rfl

theorem State.spares_notices {a : Word} (h : s.untested a) : s.Spares a (s.forEach allIds State.noticePort) := by
  refine (State.forEach_invariant (P := fun v => s.Spares a v ∧ v.untested a) State.noticePort (fun p v hv => ?_) allIds s
    ⟨State.Spares.refl a s, h⟩).1
  obtain ⟨hspares, huntested⟩ := hv
  refine ⟨hspares.trans ((State.spares_endTestWith a v (huntested p) .aborted LinkTest.detail).then rfl),
    State.untested_of_elsewhere (v.elsewhere_noticePort p) (.inl ?_) huntested⟩
  have htest := congrArg Port.test (v.spine_noticePort p)
  refine htest.trans ?_
  show (({ v.port p with test := none } : Port).dueNotice).test = none
  unfold Port.dueNotice
  split <;> rfl

theorem State.spares_bed {a : Word} (hwork : s.workless) (h : s.untested a) : s.Spares a s.bed := by
  obtain ⟨⟨hidle, -⟩, hjobs⟩ := State.jobs_bed hwork
  refine (State.spares_notices h).then ?_
  unfold State.jobRun
  rw [hjobs, hidle, (State.workless_notices hwork).1]

end

/-! ## The reference stops (R142) -/

/-- The reference in SLEEP. -/
def Reference.slept (r : Reference) : Reference :=
  { r with state := .stopped, frameTimer := none, lossTimer := none, switch := none, lockTimer := none, sincePulse := none, lockCount := 0 }

theorem State.stopReference_eq (s : State) : ∃ x : Result, x.outcome = .aborted ∧ s.stopReference = { s with
    ref := s.ref.slept
    causes := { s.causes with reference := s.causes.reference || (s.ref.state == .stalled || s.ref.startingUp) }
    jobs := s.jobs.map (s.ref.handSwitch x) } := by
  have hstalled : (if s.ref.state = .stalled then s.raiseReference else s) =
      { s with causes := { s.causes with reference := s.causes.reference || s.ref.state == .stalled } } := by
    split
    · next h =>
      rw [h, beq_self_eq_true, Bool.or_true]
      rfl
    · next h => rw [beq_eq_false_iff_ne.mpr h, Bool.or_false]
  obtain ⟨x, hx, hended⟩ := State.endSwitch_eq { s with
    causes := { s.causes with reference := s.causes.reference || s.ref.state == .stalled }
    ref := { s.ref with state := .stopped, frameTimer := none, lossTimer := none } } (o := .aborted) (by decide)
  refine ⟨x, hx, ?_⟩
  unfold State.stopReference
  rw [hstalled]
  dsimp only
  rw [hended]
  dsimp only
  rw [Bool.or_assoc]
  have hreleased (r : Reference) : ({ r.released with lockCount := 0, lockTimer := none, sincePulse := none } : Reference) =
      { r with switch := none, lockCount := 0, lockTimer := none, sincePulse := none } := by
    unfold Reference.released
    cases hw : r.switch with
    | none =>
      rw [if_neg (by simp), ← hw]
    | some w => rfl
  rw [hreleased]
  rfl

end Sys2Proof.Machine

/-! O39, the entry into SLEEP: the statement (R142). -/
namespace Sys2Proof.Machine

/-- On the way to SLEEP, before the ports are told (R142). -/
def State.unrested (s : State) : State :=
  { ({ s with controlRun := .power } : State).stopWork .notRunning with
    power := { s.power with phase := .enteringSleep, before := s.power.state } }

theorem State.unrested_keeps (s : State) : s.unrested.controlRun = .power ∧ s.unrested.ref = s.ref ∧ s.unrested.causes = s.causes ∧
    s.unrested.workless ∧ (∀ p : PortId, (s.unrested.port p).spine = (s.port p).spine) ∧
    ∃ v : State, v.jobs = s.jobs ∧ v.frameRun = s.frameRun ∧ s.unrested.jobs = (v.stopWork .notRunning).jobs := by
  have hquiet := State.quiet_stopWork { s with controlRun := .power } .notRunning
  have hcontrol := congrArg State.controlRun hquiet
  have href := congrArg State.ref hquiet
  have hcauses := congrArg State.causes hquiet
  have hspine (p : PortId) := State.spine_of_quiet hquiet p
  have hidle := State.frameRun_stopWork { s with controlRun := .power } .notRunning
  have hfree := State.engine_stopWork { s with controlRun := .power } .notRunning
  have hjobs : ∃ v : State, v.jobs = s.jobs ∧ v.frameRun = s.frameRun ∧
      (({ s with controlRun := .power } : State).stopWork .notRunning).jobs = (v.stopWork .notRunning).jobs :=
    ⟨{ s with controlRun := .power }, rfl, rfl, rfl⟩
  unfold State.unrested
  generalize ({ s with controlRun := .power } : State).stopWork .notRunning = u at *
  exact ⟨hcontrol, href, hcauses, ⟨hidle, hfree⟩, hspine, hjobs⟩

theorem State.sleepPorts_of_entering {s : State} (h : s.power.phase = .enteringSleep) :
    s.sleepPorts = s.forEach allIds State.bedPort := if_pos h

theorem State.enterSleep_eq (s : State) :
    ({ s with controlRun := .power } : State).enterSleep = s.unrested.bed.stopReference := by
  have hquiet := State.quiet_stopWork { s with controlRun := .power } .notRunning
  have hpower := congrArg State.power hquiet
  unfold State.enterSleep State.unrested
  generalize ({ s with controlRun := .power } : State).stopWork .notRunning = u at *
  have hpower : u.power = s.power := hpower
  dsimp only
  rw [hpower]
  generalize hw : ({ u with power := { s.power with phase := .enteringSleep, before := s.power.state } } : State) = w
  have hphase : (w.forEach allIds State.noticePort).power.phase = .enteringSleep := by
    rw [State.power_of_anywhere (State.anywhere_forEach State.elsewhere_noticePort allIds w), ← hw]
  unfold State.bed
  rw [← State.sleepPorts_of_entering hphase]
  rfl

theorem State.changePower_intoSleep {s : State} (h : s.power.state ≠ .sleep) :
    ({ s with controlRun := .power } : State).changePower .sleep = s.unrested.bed.stopReference := by
  rw [← State.enterSleep_eq]
  unfold State.changePower
  cases hstate : s.power.state with
  | run => rfl
  | standby => rfl
  | sleep => exact absurd hstate h

/-! ## SLEEP is reached at once (R142) -/

section
variable {t : State} (hphase : t.power.phase = .enteringSleep) (hports : ∀ p : PortId, (t.port p).link = .off ∨ (t.port p).link = .lost)
include hphase hports

theorem State.sleepPorts_of_off : t.sleepPorts = t := by
  unfold State.sleepPorts
  rw [if_pos hphase]
  refine State.forEach_invariant (P := fun u => u = t) (fun p u => u.sleepPort p) (fun p u hu => ?_) allIds t rfl
  subst hu
  unfold State.sleepPort
  rcases hports p with h | h <;> rw [h]

theorem State.settle_of_off : t.settle = t.settleSleep := by
  have hpump : t.pump = t := by
    refine State.forEach_invariant (P := fun u => u = t) (fun p u => u.transmit p none) (fun p u hu => ?_) allIds t rfl
    subst hu
    unfold State.transmit
    dsimp only
    cases (u.port p).tx with
    | some _ => rfl
    | none => rcases hports p with h | h <;> rw [h]
  have hidle : t.arbitrate = t := by
    unfold State.arbitrate State.mayCompose State.pictureWorkStopped
    rw [hphase]
    refine if_neg fun h => ?_
    simp at h
  unfold State.settle
  rw [State.sleepPorts_of_off hphase hports, hpump, hpump, State.sleepPorts_of_off hphase hports, hidle]

theorem State.settleSleep_of_off : t.settleSleep =
    ({ t with power := { t.power with state := .sleep, phase := .steady } } : State).completePower t.power.before .sleep := by
  unfold State.settleSleep
  refine if_pos ⟨hphase, List.all_eq_true.mpr fun p _ => ?_⟩
  rcases hports p with h | h <;> rw [h] <;> rfl

end

/-- The link of a port on the way to SLEEP (R95, R142). -/
theorem Port.bedded_keeps (x : Port) : (x.link = .up → x.bedded.link = .up ∧ x.bedded.noticeDue = true ∧ x.bedded.test = none) ∧
    (x.link = .lost → x.bedded.link = .lost) ∧ (x.link ≠ .up → x.link ≠ .lost → x.bedded.link = .off) := by
  unfold Port.bedded Port.dueNotice
  refine ⟨fun h => ?_, fun h => ?_, fun hup hlost => ?_⟩
  · rw [if_pos (show ({ x with test := none } : Port).link = .up from h)]
    rw [if_neg (by rw [show ({ x with test := none, noticeDue := true } : Port).link = .up from h]; decide)]
    exact ⟨h, rfl, rfl⟩
  · rw [if_neg (show ({ x with test := none } : Port).link ≠ .up by rw [show ({ x with test := none } : Port).link = .lost from h]; decide)]
    rw [if_neg (by rw [show ({ x with test := none } : Port).link = .lost from h]; decide)]
    exact h
  · rw [if_neg (show ({ x with test := none } : Port).link ≠ .up from hup)]
    show (ite (x.link = .listen ∨ x.link = .offer ∨ x.link = .train) ({ x with test := none } : Port).switchedOff { x with test := none }).link = .off
    cases hl : x.link with
    | up => exact absurd hl hup
    | lost => exact absurd hl hlost
    | off =>
      rw [if_neg (by decide)]
    | listen | offer | train =>
      rw [if_pos (by decide)]
      rfl

theorem Port.spine_bedded (x : Port) : x.spine.bedded.spine = x.bedded.spine := by
  unfold Port.bedded Port.dueNotice
  cases hl : x.link with
  | up => simp [Port.spine, hl]
  | off | lost => simp [Port.spine, hl]
  | listen | offer | train => simp [Port.spine, Port.switchedOff, Port.stopTimers, Port.clearDue, hl]

/-! ## What SLEEP is entered with -/

/-- On the way to SLEEP, the reference stopped. -/
def State.slept (s : State) : State := s.unrested.bed.stopReference

section
variable (s : State)

theorem State.ref_of_anywhere {s t : State} (h : t.anywhere = s.anywhere) : t.ref = s.ref := by
  have href := congrArg State.ref h
  exact href

theorem State.slept_eq : ∃ x : Result, x.outcome = .aborted ∧ s.slept = { s.unrested.bed with
    ref := s.ref.slept
    causes := { s.unrested.bed.causes with
      reference := s.unrested.bed.causes.reference || (s.ref.state == .stalled || s.ref.startingUp) }
    jobs := s.unrested.bed.jobs.map (s.ref.handSwitch x) } := by
  obtain ⟨x, hx, hstopped⟩ := s.unrested.bed.stopReference_eq
  have href : s.unrested.bed.ref = s.ref := by
    obtain ⟨-, href, -⟩ := s.unrested_keeps
    exact (State.ref_of_anywhere s.unrested.anywhere_bed).trans href
  rw [href] at hstopped
  exact ⟨x, hx, hstopped⟩

theorem State.jobs_slept : ∃ x : Result, x.outcome = .aborted ∧ s.slept.jobs = s.unrested.bed.jobs.map (s.ref.handSwitch x) ∧
    s.slept.frameRun = s.unrested.bed.frameRun := by
  obtain ⟨x, hx, h⟩ := s.slept_eq
  exact ⟨x, hx, by rw [h], by rw [h]⟩

theorem State.slept_fields : s.slept.power = { s.power with phase := .enteringSleep, before := s.power.state } ∧
    s.slept.controlRun = .power ∧ s.slept.frameRun = .idle ∧ s.slept.composer.engine = .free ∧ s.slept.ref = s.ref.slept ∧
    (s.ref.state = .stalled ∨ (∃ w, s.ref.switch = some w ∧ w.job = none) → s.slept.causes.reference = true) ∧
    ∀ p : PortId, (s.slept.port p).spine = (s.port p).bedded.spine := by
  obtain ⟨hcontrol, -, -, hwork, hspine, -⟩ := s.unrested_keeps
  have hany := s.unrested.anywhere_bed
  have hpower : s.unrested.bed.power = { s.power with phase := .enteringSleep, before := s.power.state } := State.power_of_anywhere hany
  have hcontrol' := (State.controlRun_of_anywhere hany).trans hcontrol
  obtain ⟨⟨hidle, hfree⟩, -⟩ := State.jobs_bed hwork
  have hport (p : PortId) : (s.unrested.bed.port p).spine = (s.port p).bedded.spine := by
    rw [State.spine_bed]
    exact Port.congr_spine (g := fun x => x.bedded.spine) Port.spine_bedded (hspine p)
  obtain ⟨x, -, hslept⟩ := s.slept_eq
  rw [hslept]
  generalize s.unrested.bed = u at *
  refine ⟨hpower, hcontrol', hidle, hfree, rfl, fun h => ?_, hport⟩
  dsimp only
  rcases h with hstalled | ⟨w, hw, hjob⟩
  · rw [hstalled, beq_self_eq_true, Bool.true_or, Bool.or_true]
  · have hstart : s.ref.startingUp = true := by
      unfold Reference.startingUp
      rw [hw, Option.any_some, hjob]
      rfl
    rw [hstart, Bool.or_true, Bool.or_true]

/-- A LINK_TEST's job is handed ABORTED (R178). -/
theorem State.aborted_slept {p : PortId} {k : LinkTest} {x : Job} (hk : (s.port p).test = some k) (hx : s.findJob k.job = some x)
    (hlane : x.lane = some .control) (hnone : x.result = none) : s.slept.outcomeOf k.job = some .aborted := by
  obtain ⟨-, -, -, hwork, hspine, v, hv, -, hjobs⟩ := s.unrested_keeps
  obtain ⟨r, -, hslept, -⟩ := s.jobs_slept
  generalize s.slept = t at *
  generalize s.unrested = u at *
  have hstops : Ending .aborted (some .control) k.job v.jobs := by
    rw [hv]
    exact ⟨x, hx, hlane, by rw [hnone]; exact nofun⟩
  have htest : (u.port p).test = some k := (congrArg Port.test (hspine p)).trans hk
  have haborted : Ended .aborted k.job u.bed.jobs := by
    obtain ⟨-, hbed⟩ := State.jobs_bed hwork
    rw [hbed]
    refine State.aborted_notices htest ?_
    rw [hjobs]
    exact State.ending_stopWork hstops .notRunning
  refine State.outcomeOf_of_ended ?_
  rw [hslept]
  refine Ended.map haborted (fun k => (s.ref.handSwitch_keeps r k).1) fun m hm => ?_
  unfold Reference.handSwitch
  split
  · rw [Job.hand_result hm]
  · rfl

variable {s} {j : Job}

/-- The POWER itself is handed nothing. -/
theorem State.spares_slept (hj : s.running .control = some j) (hnodup : (s.jobs.map Job.addr).Nodup)
    (htest : s.untested j.addr) (hother : ∀ w, s.ref.switch = some w → w.job ≠ some j.addr) : s.Spares j.addr s.slept := by
  obtain ⟨-, -, -, hwork, hspine, v, hv, hvrun, hjobs⟩ := s.unrested_keeps
  obtain ⟨x, -, hslept, hsleptRun⟩ := s.jobs_slept
  generalize s.slept = t at *
  generalize s.unrested = u at *
  have hrun {a b : State} (hj : a.jobs = b.jobs) (hf : a.frameRun = b.frameRun) : a.jobRun = b.jobRun := by
    unfold State.jobRun
    rw [hj, hf]
  have hstops : s.Spares j.addr u := by
    have hlanes := State.lanes_of_control ((State.running_of_jobs hv .control).trans hj) (by rw [hv]; exact hnodup)
    refine (State.spares_of_jobRun (hrun hv hvrun)).trans ((State.spares_stopWork hlanes .notRunning).then ?_)
    exact hrun hjobs (hwork.1.trans (State.frameRun_stopWork v .notRunning).symm)
  have huntested : u.untested j.addr := fun p k hk => htest p k ((congrArg Port.test (hspine p)).symm.trans hk)
  refine (hstops.trans (State.spares_bed hwork huntested)).trans ?_
  refine State.spares_of_map hslept (fun k _ => ?_) fun h => by
    unfold State.inert at h ⊢
    rw [hsleptRun]
    exact h
  unfold Reference.handSwitch
  split
  · next hswitch =>
    obtain ⟨w, hw, hjob⟩ := Option.bind_eq_some_iff.mp hswitch
    refine Job.after_hand (fun hkept => ?_) x
    obtain ⟨-, haddr⟩ := hkept
    exact hother w hw (haddr ▸ hjob)
  · exact Job.After.refl _ _

end

/-- Settles O39: picture work, the ports, the reference, and SLEEP itself where no port is UP. -/
theorem sleepIsEntered : Obligations.SleepIsEntered := by
  intro s j hs hcode hawake
  obtain ⟨hj, -, -⟩ := (s.startedControl_eq_some_iff .power j).mp hs
  have hexec := exec_power_changes hs (w := .sleep) (by rw [hcode]; rfl) hawake
  rw [State.changePower_intoSleep hawake] at hexec
  obtain ⟨hpower, hcontrol, hidle, hfree, href, hcauses, hspine⟩ := s.slept_fields
  have hlink (p : PortId) := (s.port p).bedded_keeps
  have htests {p : PortId} {k : LinkTest} {x : Job} := s.aborted_slept (p := p) (k := k) (x := x)
  have hspares := State.spares_slept hj
  have hexec : exec .power s = .next s.slept.settle := hexec
  generalize s.slept = t at *
  refine ⟨t, hexec, ?_, ?_, hidle, hfree, ?_, ?_, ?_, ?_, ?_, ?_, fun p => ⟨fun hup => ?_, fun hlost => ?_, fun hup hlost => ?_⟩,
    fun p k x hk hx hlane hnone => htests hk hx hlane hnone, hcauses, fun hdown => ?_⟩
  iterate 2
    · rw [hpower]
  iterate 6
    · rw [href]
      rfl
  · obtain ⟨hl, hn, ht⟩ := (hlink p).1 hup
    exact ⟨(Port.link_of_spine (hspine p)).trans hl, (congrArg Port.noticeDue (hspine p)).trans hn,
      (congrArg Port.test (hspine p)).trans ht⟩
  · exact (Port.link_of_spine (hspine p)).trans ((hlink p).2.1 hlost)
  · exact (Port.link_of_spine (hspine p)).trans ((hlink p).2.2 hup hlost)
  · have hports (p : PortId) : (t.port p).link = .off ∨ (t.port p).link = .lost := by
      rw [Port.link_of_spine (hspine p)]
      by_cases hlost : (s.port p).link = .lost
      · exact .inr ((hlink p).2.1 hlost)
      · exact .inl ((hlink p).2.2 (hdown p) hlost)
    have hphase : t.power.phase = .enteringSleep := by rw [hpower]
    have hcontrol' : ({ t with power := { t.power with state := .sleep, phase := .steady } } : State).controlRun = .power := hcontrol
    have hbefore : t.power.before = s.power.state := by rw [hpower]
    rw [State.settle_of_off hphase hports, State.settleSleep_of_off hphase hports, State.completePower_of_power hcontrol', hbefore]
    refine ⟨?_, fun hnodup htest hother => ?_⟩
    · obtain ⟨js, hdone⟩ := ({ t with power := { t.power with state := .sleep, phase := .steady } } : State).completeControl_keeps
        (plainResult .ok (detailPower s.power.state .sleep))
      rw [hdone]
    · have hlast := (hspares hnodup htest hother).then
        (u := { t with power := { t.power with state := .sleep, phase := .steady } }) rfl
      exact State.result_of_spares hnodup hj hlast _

end Sys2Proof.Machine

/-! O34, a WITHDRAW by its target (R14, R172, R173). -/
namespace Sys2Proof.Machine

section
variable {s : State} {j : Job} (hs : s.startedControl .withdraw = some j)
include hs

theorem exec_withdraw_misaligned (h : (j.word 16).toNat % 64 ≠ 0) :
    exec .withdraw s = .next (s.completeControl (invalidResult .badAlign none none)).settle := by
  have hmis : misaligned64 (j.word 16) = true := by simpa [misaligned64] using h
  simp only [exec, execWithdraw, hs, hmis, if_true, State.settled]

section
variable (haligned : (j.word 16).toNat % 64 = 0)
include haligned

theorem exec_withdraw_absent (h : s.findJob (j.word 16) = none) :
    exec .withdraw s = .next (s.completeControl (plainResult .notFound detailZero)).settle := by
  have hmis : ¬misaligned64 (j.word 16) = true := by simpa [misaligned64] using haligned
  simp only [exec, execWithdraw, hs, if_neg hmis, h, State.settled, detailWithdraw]

variable {k : Job} (hk : s.findJob (j.word 16) = some k)
include hk

theorem exec_withdraw_withdraw (h : kindOf k.kind = some .withdraw) :
    exec .withdraw s = .next (s.completeControl (invalidResult .badField none none)).settle := by
  have hmis : ¬misaligned64 (j.word 16) = true := by simpa [misaligned64] using haligned
  simp only [exec, execWithdraw, hs, if_neg hmis, hk, if_pos h, State.settled]

/-- What has been done to the target, and the WITHDRAW's own completion (R172). -/
theorem exec_withdraw_target (h : kindOf k.kind ≠ some .withdraw) {t : State} {o : JobOutcome} (ht : s.withdrawTarget k = (t, o)) :
    exec .withdraw s =
      .next (t.completeControl (plainResult o (detailWithdraw (if o = .notFound then none else some k)))).settle := by
  have hmis : ¬misaligned64 (j.word 16) = true := by simpa [misaligned64] using haligned
  simp only [exec, execWithdraw, hs, if_neg hmis, hk, if_neg h, ht, State.settled]

end

end

/-! ## What is done to the target (R172, R173) -/

section
variable (s : State) {k : Job}

theorem State.withdrawTarget_waiting (hresult : k.result = none) (hstatus : k.status = .waiting) :
    s.withdrawTarget k = (s.hand k.addr (plainResult .withdrawn detailZero), .ok) := by
  unfold State.withdrawTarget
  rw [hresult, hstatus]

theorem State.withdrawTarget_scene (hresult : k.result = none) (hstatus : k.status = .running) (hkind : kindOf k.kind = some .scene)
    {r : SceneRec} (hr : s.frameRun = .scene r) :
    s.withdrawTarget k = if r.stage = .flipScheduled then (s, .tooLate) else (s.endSceneEarly .withdrawn, .ok) := by
  unfold State.withdrawTarget
  rw [hresult, hstatus, hkind, hr]

/-- A scene before LAYERS_READ. -/
theorem State.withdrawTarget_reading (hresult : k.result = none) (hstatus : k.status = .running) (hkind : kindOf k.kind = some .scene)
    (hr : s.frameRun = .started ∨ ∃ ls, s.frameRun = .layers ls) :
    s.withdrawTarget k = (s.completeFrame (plainResult .withdrawn detailZero), .ok) := by
  unfold State.withdrawTarget
  rw [hresult, hstatus, hkind]
  rcases hr with h | ⟨ls, h⟩ <;> rw [h]

theorem State.withdrawTarget_running (hresult : k.result = none) (hstatus : k.status = .running) (hkind : kindOf k.kind ≠ some .scene) :
    s.withdrawTarget k = (s, .tooLate) := by
  unfold State.withdrawTarget
  rw [hresult, hstatus]
  split <;> simp_all

/-- A target whose completion has been taken (R14, R173). -/
theorem State.withdrawTarget_completed {r : Result} (hresult : k.result = some r) : s.withdrawTarget k = (s,
    if kindOf k.kind = some .tileMap ∧ k.status = .running ∧ r.outcome = .ok then .tooLate else .notFound) := by
  unfold State.withdrawTarget
  rw [hresult]
  split
  · next hr hstatus hkind =>
    obtain rfl := Option.some.inj hr
    by_cases hok : r.outcome = .ok
    · rw [if_pos hok, if_pos ⟨hkind, hstatus, hok⟩]
    · rw [if_neg hok, if_neg fun h => hok h.2.2]
  · next hother =>
    rw [if_neg fun h => hother h.2.1 h.1]
  all_goals contradiction

/-- A hand to another entry leaves the RUNNING control job as it is. -/
theorem State.running_hand_of_ne {s : State} {j : Job} {l : Lane} (hj : s.running l = some j) {b : Word} (hb : j.addr ≠ b) (r : Result) :
    (s.hand b r).running l = some j := by
  refine State.running_of_map (f := fun k => if k.addr = b then k.hand r else k) rfl (fun k => ?_) hj (if_neg hb)
  split
  · exact (k.hand_keeps r).2
  · exact ⟨rfl, rfl, id⟩

theorem State.findJob_hand_of_ne {s : State} {a b : Word} (h : a ≠ b) (r : Result) : (s.hand b r).findJob a = s.findJob a := by
  have hmap := State.findJob_modJob s b a (fun k => k.hand r) fun k => Job.hand_addr k r
  refine hmap.trans ?_
  cases hk : s.findJob a with
  | none => rfl
  | some k => rw [Option.map_some, if_neg fun e => h ((State.addr_of_findJob hk).symm.trans e)]

end

/-- Settles O34: the rows of R172 and R173. -/
theorem withdrawByItsTarget : Obligations.WithdrawByItsTarget := by
  intro s j hs hfind
  dsimp only
  obtain ⟨hj, -, -⟩ := (s.startedControl_eq_some_iff .withdraw j).mp hs
  refine ⟨fun h => exec_withdraw_misaligned hs h, fun haligned h => exec_withdraw_absent hs haligned h, fun haligned k hk => ?_⟩
  have htarget {t : State} {o : JobOutcome} (h : kindOf k.kind ≠ some .withdraw) (ht : s.withdrawTarget k = (t, o)) :=
    exec_withdraw_target hs haligned hk h ht
  have haddr : k.addr = j.word 16 := State.addr_of_findJob hk
  refine ⟨fun h => exec_withdraw_withdraw hs haligned hk h, fun hkind hresult hwaiting => ?_, fun hrunning hresult hkinds => ?_,
    fun hrunning hkind hresult r hr hstage => ?_, fun r hresult hkind => ⟨fun htile hrunning hok => ?_, fun hother => ?_⟩⟩
  · have hne : j.addr ≠ k.addr := fun e => by
      rw [haddr] at e
      rw [← e, hfind] at hk
      obtain ⟨-, -, hrunning, -⟩ := State.running_iff hj
      rw [Option.some.inj hk, hwaiting] at hrunning
      exact nomatch hrunning
    have hj' := State.running_hand_of_ne hj hne (plainResult .withdrawn detailZero)
    have hfind' := (State.findJob_hand_of_ne hne (plainResult .withdrawn detailZero)).trans hfind
    refine ⟨_, htarget hkind (s.withdrawTarget_waiting hresult hwaiting), ?_, State.outcomeOf_completeControl hj' hfind' _, ?_⟩
    · rw [State.findJob_completeControl_of_ne hj' _ (haddr ▸ hne.symm), ← haddr, State.findJob_hand (haddr ▸ hk) hresult]
      rfl
    · rw [State.completeControl_eq hj']
      exact ⟨rfl, rfl, rfl⟩
  · have hwithdraw : kindOf k.kind ≠ some .withdraw := by rcases hkinds with h | h | h <;> rw [h] <;> decide
    have hscene : kindOf k.kind ≠ some .scene := by rcases hkinds with h | h | h <;> rw [h] <;> decide
    exact htarget hwithdraw (s.withdrawTarget_running hresult hrunning hscene)
  · refine htarget (by rw [hkind]; decide) ((s.withdrawTarget_scene hresult hrunning hkind hr).trans ?_)
    exact if_pos hstage
  · exact htarget hkind ((s.withdrawTarget_completed hresult).trans (by rw [if_pos ⟨htile, hrunning, hok⟩]))
  · refine htarget hkind ((s.withdrawTarget_completed hresult).trans ?_)
    rw [if_neg fun h => ?_]
    obtain ⟨htile, hrunning, hok⟩ := h
    rcases hother with h | h | h
    · exact h htile
    · exact h hrunning
    · exact h hok

end Sys2Proof.Machine

/-! O35, a WITHDRAW of what can be stopped: a scene, a switch of the reference, a LINK_TEST (R69, R136, R172, R178). -/
namespace Sys2Proof.Machine

/-! ## The DISCARDs of a scene that ends early (R70) -/

/-- A participant whose record holds the epoch has its DISCARD waiting or outstanding (R48, R70). -/
theorem State.hasDiscard_endAtTile {s : State} {t : TileId} {p : PortId} (hport : (s.tile t).geom.port = some p)
    (hlink : (s.port p).link ≠ .off) {e : Epoch} (hholds : (s.tile t).back.holds e = true) :
    ((s.endAtTile e t).port p).hasDiscard e = true := by
  have htile := State.tile_of_sheet (s.sheet_freeTile t) t
  have hqueued {u : State} (hu : u.tile t = s.tile t) (hulink : (u.port p).link = (s.port p).link) :
      ((if (u.tile t).back.holds e then u.queueDiscard t e else u).port p).hasDiscard e = true := by
    rw [hu, if_pos hholds]
    exact State.hasDiscard_queueDiscard (hu ▸ hport) (hulink ▸ hlink) e
  unfold State.endAtTile
  dsimp only
  rw [htile, hport]
  have hlink' := (s.gains_freeTile t p).1
  refine hqueued (ite_keeps (fun u => u.tile t) htile ((State.tile_modPort ..).trans htile))
    (ite_keeps (fun u => (u.port p).link) hlink' ?_)
  rw [State.port_modPort_self]
  exact hlink'

theorem State.hasDiscard_endedAtTiles {s : State} {r : SceneRec} {t : TileId} (ht : Mask.has r.participants t = true) {p : PortId}
    (hport : (s.tile t).geom.port = some p) (hlink : (s.port p).link ≠ .off) (hholds : (s.tile t).back.holds r.epoch = true) :
    ((s.endedAtTiles r).port p).hasDiscard r.epoch = true := by
  have hmem := mem_idsOf.mpr ht
  unfold State.endedAtTiles
  generalize idsOf r.participants = ids at hmem
  induction ids generalizing s with
  | nil => exact nomatch hmem
  | cons i ids ih =>
    rw [List.foldl_cons]
    by_cases hi : i = t
    · subst hi
      exact (State.gains_foldl _ _ (fun u b => u.gains_endAtTile r.epoch b) ids p).2 _ (State.hasDiscard_endAtTile hport hlink hholds)
    · have htile := State.tile_of_sheet (s.sheet_endAtTile r.epoch i) t
      refine ih (by rw [htile]; exact hport) ?_ (by rw [htile]; exact hholds) ((List.mem_cons.mp hmem).resolve_left (Ne.symm hi))
      rw [(s.gains_endAtTile r.epoch i p).1]
      exact hlink

/-! ## Hands to one block -/

section
variable {s t : State} {j k : Job} {f : Job → Job}

/-- A change of the list that hands outcomes to block `b` alone. -/
def HandsOnly (b : Word) (f : Job → Job) : Prop := (∀ m, (f m).addr = m.addr ∧ (f m).lane = m.lane ∧ (f m).status = m.status ∧
  (m.result ≠ none → (f m).result ≠ none)) ∧ ∀ m, m.addr ≠ b → f m = m

theorem handsOnly_hand (b : Word) (x : Result) : HandsOnly b (fun m => if m.addr = b then m.hand x else m) := by
  refine ⟨fun m => ?_, fun m hm => if_neg hm⟩
  dsimp only
  split
  · exact m.hand_keeps x
  · exact ⟨rfl, rfl, rfl, id⟩

/-- The RUNNING control job after hands to another block is still there and completes. -/
theorem State.withdraws (hj : s.running .control = some j) (hfind : s.findJob j.addr = some j) {b : Word} (hb : j.addr ≠ b)
    (hf : HandsOnly b f) (hjobs : t.jobs = s.jobs.map f) (r : Result) : t.running .control = some j ∧
    (t.completeControl r).outcomeOf j.addr = some r.outcome ∧ (t.completeControl r).findJob b = t.findJob b := by
  obtain ⟨hkeeps, hother⟩ := hf
  have hj' : t.running .control = some j := State.running_of_map hjobs (fun m => (hkeeps m).2) hj (hother j hb)
  have hfind' : t.findJob j.addr = some j := by
    rw [State.findJob_of_map hjobs (fun m => (hkeeps m).1), hfind, Option.map_some, hother j hb]
  exact ⟨hj', State.outcomeOf_completeControl hj' hfind' r, State.findJob_completeControl_of_ne hj' r hb.symm⟩

/-- The RUNNING frame job that ends is handed a result, and no other block (R160). -/
theorem handsOnly_handRunning {x : Result} (hk : s.running .frame = some k) :
    ∃ f, HandsOnly k.addr f ∧ handRunning .frame x s.jobs = s.jobs.map f := by
  refine ⟨_, handsOnly_hand k.addr x, ?_⟩
  unfold handRunning
  unfold State.running at hk
  rw [hk]

theorem Reference.handsOnly_handSwitch {r : Reference} {b : Word} (h : r.switch.bind Switch.job = some b) (x : Result) :
    HandsOnly b (r.handSwitch x) :=
  ⟨fun _ => r.handSwitch_keeps x _, fun _ hm => r.handSwitch_of_ne (fun e => hm (Option.some.inj (e.symm.trans h))) x⟩

end

/-! ## The LINK_TESTs of a job (R178) -/

/-- The LINK_TEST of a port ends WITHDRAWN where it is block `a`'s (R172). -/
def State.withdrawTest (a : Word) (p : PortId) (s : State) : State :=
  match (s.port p).test with
  | none => s
  | some k => if k.job = a then s.endTest p .withdrawn else s

theorem HandsOnly.id (b : Word) : HandsOnly b id := ⟨fun _ => ⟨rfl, rfl, rfl, fun h => h⟩, fun _ _ => rfl⟩

theorem HandsOnly.comp {b : Word} {f g : Job → Job} (hg : HandsOnly b g) (hf : HandsOnly b f) : HandsOnly b (g ∘ f) := by
  obtain ⟨hkeeps, hother⟩ := hf
  obtain ⟨hkeeps', hother'⟩ := hg
  refine ⟨fun m => ?_, fun m hm => ?_⟩
  · obtain ⟨haddr, hlane, hstatus, hresult⟩ := hkeeps m
    obtain ⟨haddr', hlane', hstatus', hresult'⟩ := hkeeps' (f m)
    exact ⟨haddr'.trans haddr, hlane'.trans hlane, hstatus'.trans hstatus, fun h => hresult' (hresult h)⟩
  · show g (f m) = m
    rw [hother m hm, hother' m hm]

section
variable (a : Word)

/-- What is handed to the block in one round. -/
theorem State.jobs_withdrawTest (p : PortId) (s : State) : ((s.port p).test.map LinkTest.job ≠ some a ∧ s.withdrawTest a p = s) ∨
    ((s.port p).test.map LinkTest.job = some a ∧ s.withdrawTest a p = s.endTest p .withdrawn ∧
      ∃ x : Result, x.outcome = .withdrawn ∧ (s.withdrawTest a p).jobs = (s.hand a x).jobs) := by
  unfold State.withdrawTest
  cases htest : (s.port p).test with
  | none => exact .inl ⟨nofun, rfl⟩
  | some k =>
    dsimp only
    by_cases hjob : k.job = a
    · rw [if_pos hjob]
      refine .inr ⟨congrArg some hjob, rfl, plainResult .withdrawn k.detail, rfl, ?_⟩
      unfold State.endTest State.endTestWith
      rw [htest, ← hjob]
      rfl
    · rw [if_neg hjob]
      exact .inl ⟨fun h => hjob (Option.some.inj h), rfl⟩

theorem State.elsewhere_withdrawTest (p : PortId) (s : State) : (s.withdrawTest a p).elsewhere p = s.elsewhere p := by
  rcases s.jobs_withdrawTest a p with ⟨-, h⟩ | ⟨-, h, -⟩
  · rw [h]
  · rw [h, State.elsewhere_endTest]

variable {a}

/-- The list of the block's hands and nothing else. -/
theorem State.handsOnly_withdrawTests {s : State} :
    ∃ f, HandsOnly a f ∧ (s.forEach allIds (State.withdrawTest a)).jobs = s.jobs.map f := by
  refine State.forEach_invariant (P := fun u => ∃ f, HandsOnly a f ∧ u.jobs = s.jobs.map f) (State.withdrawTest a) (fun p u hu => ?_)
    allIds s ⟨id, HandsOnly.id a, (List.map_id _).symm⟩
  obtain ⟨f, hf, hjobs⟩ := hu
  rcases u.jobs_withdrawTest a p with ⟨-, h⟩ | ⟨-, -, x, -, h⟩
  · rw [h]
    exact ⟨f, hf, hjobs⟩
  · refine ⟨_, (handsOnly_hand a x).comp hf, ?_⟩
    rw [h, ← List.map_map, ← hjobs]
    rfl

/-- The job of a port's test ends, and the test with it. -/
theorem State.ended_withdrawTests {s : State} {p : PortId} {l : Option Lane} (hjob : (s.port p).test.map LinkTest.job = some a)
    (h : Ending .withdrawn l a s.jobs) : Ended .withdrawn a (s.forEach allIds (State.withdrawTest a)).jobs ∧
    ((s.forEach allIds (State.withdrawTest a)).port p).test = none := by
  obtain ⟨u, hu, -, hport, hround, rest, -, hrest⟩ := State.port_forEach (f := State.withdrawTest a) (State.elsewhere_withdrawTest a)
    nodup_allIds (mem_allIds p) s (P := fun u => Ending .withdrawn l a u.jobs) (fun q u _ hu => by
      rcases u.jobs_withdrawTest a q with ⟨-, h⟩ | ⟨-, -, x, hx, h⟩
      · rw [h]
        exact hu
      · rw [h]
        exact State.ending_hand hu a hx) h
  rcases u.jobs_withdrawTest a p with ⟨hne, -⟩ | ⟨-, hended, x, hx, hjobs⟩
  · rw [hport] at hne
    exact absurd hjob hne
  · constructor
    · rw [hrest]
      refine State.forEach_invariant (P := fun u => Ended .withdrawn a u.jobs) (State.withdrawTest a) (fun q u hu => ?_) rest _ ?_
      · rcases u.jobs_withdrawTest a q with ⟨-, h⟩ | ⟨-, -, y, -, h⟩
        · rw [h]
          exact hu
        · rw [h]
          exact State.ended_hand hu a y
      · rw [hjobs]
        exact State.ended_of_hand hu hx
    · rw [hround, hended]
      exact congrArg Port.test (u.spine_endTestWith p .withdrawn _)

end

/-! ## The cases of R172 -/

section
variable {s : State} {j k : Job} (hs : s.startedControl .withdraw = some j) (hfind : s.findJob j.addr = some j)
  (haligned : (j.word 16).toNat % 64 = 0) (hk : s.findJob (j.word 16) = some k) (hresult : k.result = none)
include hs hfind haligned hk

theorem exec_withdraw_stops (hkind : kindOf k.kind ≠ some .withdraw) {t : State} (ht : s.withdrawTarget k = (t, .ok)) :
    s.running .control = some j ∧ j.addr ≠ k.addr ∧ s.findJob k.addr = some k ∧
    exec .withdraw s = .next (t.completeControl (plainResult .ok (detailWithdraw (some k)))).settle := by
  obtain ⟨hj, -, hwithdraw⟩ := (s.startedControl_eq_some_iff .withdraw j).mp hs
  have haddr := State.addr_of_findJob hk
  refine ⟨hj, fun e => hkind ?_, haddr ▸ hk, exec_withdraw_target hs haligned hk hkind ht⟩
  rw [haddr] at e
  rw [← e, hfind] at hk
  exact Option.some.inj hk ▸ hwithdraw

include hresult

theorem withdraw_stops_scene (hkind : kindOf k.kind = some .scene) (hrun : s.running .frame = some k) {r : SceneRec}
    (hr : s.frameRun = .scene r) (hstage : r.stage ≠ .flipScheduled) :
    ∃ t : State, exec .withdraw s = .next t.settle ∧ t.outcomeOf k.addr = some .withdrawn ∧ t.outcomeOf j.addr = some .ok ∧
      t.frameRun = .idle ∧ t.composer.active = none ∧
      (t.findJob k.addr).bind (fun x => x.result.map Result.flags) = some .clear ∧
      (∀ i : TileId, ∀ q, Mask.has r.participants i = true → (s.tile i).geom.port = some q → (s.port q).link ≠ .off →
        (s.tile i).back.holds r.epoch = true → (t.port q).hasDiscard r.epoch = true) := by
  obtain ⟨-, -, hstatus, -⟩ := State.running_iff hrun
  let x : Result := { outcome := .withdrawn, flags := r.flagsFor .withdrawn, detail := r.detailFor .withdrawn }
  have hearly : s.endSceneEarly .withdrawn = s.endSceneWith r x := by
    unfold State.endSceneEarly
    rw [State.scene_eq_some.mpr hr]
  have htarget : s.withdrawTarget k = (s.endSceneWith r x, .ok) := by
    rw [s.withdrawTarget_scene hresult hstatus hkind hr, ← hearly]
    exact if_neg hstage
  obtain ⟨hj, hne, hkfind, hexec⟩ := exec_withdraw_stops hs hfind haligned hk (by rw [hkind]; decide) htarget
  have hjobs := s.jobs_endSceneWith r x
  obtain ⟨f, hf, hmap⟩ := handsOnly_handRunning (x := x) hrun
  obtain ⟨-, hok, hsame⟩ := State.withdraws hj hfind hne hf (hjobs.trans hmap) (plainResult .ok (detailWithdraw (some k)))
  have hentry := State.findJob_of_handRunning hjobs hrun hkfind
  obtain ⟨js, hdone⟩ := (s.endSceneWith r x).completeControl_keeps (plainResult .ok (detailWithdraw (some k)))
  refine ⟨_, hexec, ?_, hok, ?_, ?_, ?_, fun i q hi hport hlink hholds => ?_⟩
  · refine State.outcomeOf_of_result (r := x) ?_
    rw [hsame, hentry]
    rfl
  · rw [hdone]
    exact State.frameRun_completeScene _ _
  · rw [hdone]
    exact State.active_completeScene _ _
  · rw [hsame, hentry]
    have hflags : r.flagsFor .withdrawn = .clear := by
      unfold SceneRec.flagsFor
      exact if_pos rfl
    exact congrArg some hflags
  · rw [hdone]
    have hports : (s.endSceneWith r x).port q = (s.endedAtTiles r).port q :=
      State.port_of_ports (State.ports_completeScene (s.endedAtTiles r) x) q
    show ((s.endSceneWith r x).port q).hasDiscard r.epoch = true
    rw [hports]
    exact State.hasDiscard_endedAtTiles hi hport hlink hholds

theorem withdraw_stops_reading (hkind : kindOf k.kind = some .scene) (hrun : s.running .frame = some k)
    (hr : s.frameRun = .started ∨ ∃ ls, s.frameRun = .layers ls) :
    ∃ t : State, exec .withdraw s = .next t.settle ∧
      (t.findJob k.addr).bind Job.result = some (plainResult .withdrawn detailZero) ∧ t.outcomeOf j.addr = some .ok ∧
      t.frameRun = .idle ∧ t.composer = s.composer ∧ t.epochCounter = s.epochCounter ∧ t.ports = s.ports ∧ t.tiles = s.tiles := by
  obtain ⟨-, -, hstatus, -⟩ := State.running_iff hrun
  have htarget : s.withdrawTarget k = (s.completeFrame (plainResult .withdrawn detailZero), .ok) :=
    s.withdrawTarget_reading hresult hstatus hkind hr
  obtain ⟨hj, hne, hkfind, hexec⟩ := exec_withdraw_stops hs hfind haligned hk (by rw [hkind]; decide) htarget
  have hjobs := s.jobs_completeFrame (plainResult .withdrawn detailZero)
  obtain ⟨f, hf, hmap⟩ := handsOnly_handRunning (x := plainResult .withdrawn detailZero) hrun
  obtain ⟨-, hok, hsame⟩ := State.withdraws hj hfind hne hf (hjobs.trans hmap) (plainResult .ok (detailWithdraw (some k)))
  have hentry := State.findJob_of_handRunning hjobs hrun hkfind
  obtain ⟨js, hdone⟩ := (s.completeFrame (plainResult .withdrawn detailZero)).completeControl_keeps
    (plainResult .ok (detailWithdraw (some k)))
  refine ⟨_, hexec, ?_, hok, ?_⟩
  · rw [hsame, hentry]
    rfl
  · rw [hdone]
    exact ⟨s.completeFrame_frameRun _, s.completeFrame_composer _, s.completeFrame_epochCounter _, s.completeFrame_ports _,
      s.tiles_completeScene _⟩

theorem withdraw_stops_switch (hkind : kindOf k.kind = some .reference) (hflight : k.status = .inFlight) {target : Source}
    (hswitch : s.ref.switch = some { target := target, job := some k.addr }) :
    ∃ t : State, exec .withdraw s = .next t.settle ∧ t.outcomeOf k.addr = some .withdrawn ∧ t.outcomeOf j.addr = some .ok ∧
      t.ref.switch = none ∧ t.ref.lockTimer = none ∧ t.ref.lockCount = 0 ∧ t.ref.source = s.ref.source := by
  have htarget : s.withdrawTarget k = (s.endSwitch .withdrawn, .ok) := by
    unfold State.withdrawTarget
    rw [hresult, hflight, hkind]
  obtain ⟨hj, hne, hkfind, hexec⟩ := exec_withdraw_stops hs hfind haligned hk (by rw [hkind]; decide) htarget
  obtain ⟨x, hx, hended⟩ := s.endSwitch_eq (o := .withdrawn) (by decide)
  have hjob : s.ref.switch.bind Switch.job = some k.addr := by rw [hswitch]; rfl
  have hjobs : (s.endSwitch .withdrawn).jobs = s.jobs.map (s.ref.handSwitch x) := by rw [hended]
  have href : (s.endSwitch .withdrawn).ref = s.ref.released := by rw [hended]
  obtain ⟨-, hok, hsame⟩ := State.withdraws hj hfind hne (Reference.handsOnly_handSwitch hjob x) hjobs
    (plainResult .ok (detailWithdraw (some k)))
  obtain ⟨js, hdone⟩ := (s.endSwitch .withdrawn).completeControl_keeps (plainResult .ok (detailWithdraw (some k)))
  have hreleased : s.ref.released = { s.ref with switch := none, lockTimer := none, sincePulse := none, lockCount := 0 } := by
    unfold Reference.released
    rw [hswitch]
    rfl
  refine ⟨_, hexec, ?_, hok, ?_⟩
  · refine (State.outcomeOf_of_result (r := x) ?_).trans (congrArg some hx)
    rw [hsame, State.findJob_of_map hjobs fun m => (s.ref.handSwitch_keeps x m).1, hkfind, Option.map_some, Reference.handSwitch,
      if_pos hjob, Job.hand_of_none hresult]
    rfl
  · rw [hdone]
    dsimp only
    rw [href, hreleased]
    exact ⟨rfl, rfl, rfl, rfl⟩

theorem withdraw_stops_test (hkind : kindOf k.kind = some .linkTest) (hflight : k.status = .inFlight) {p : PortId} {test : LinkTest}
    (htest : (s.port p).test = some test) (hjob : test.job = k.addr) :
    ∃ t : State, exec .withdraw s = .next t.settle ∧ t.outcomeOf k.addr = some .withdrawn ∧ t.outcomeOf j.addr = some .ok ∧
      (t.port p).test = none := by
  have htarget : s.withdrawTarget k = (s.forEach allIds (State.withdrawTest k.addr), .ok) := by
    unfold State.withdrawTarget
    rw [hresult, hflight, hkind]
    rfl
  obtain ⟨hj, hne, hkfind, hexec⟩ := exec_withdraw_stops hs hfind haligned hk (by rw [hkind]; decide) htarget
  obtain ⟨f, hf, hjobs⟩ := State.handsOnly_withdrawTests (a := k.addr) (s := s)
  obtain ⟨hended, hnone⟩ := State.ended_withdrawTests (s := s) (p := p) (a := k.addr) (l := k.lane) (by rw [htest, ← hjob]; rfl)
    ⟨k, hkfind, rfl, by rw [hresult]; exact nofun⟩
  obtain ⟨-, hok, hsame⟩ := State.withdraws hj hfind hne hf hjobs (plainResult .ok (detailWithdraw (some k)))
  generalize s.forEach allIds (State.withdrawTest k.addr) = u at *
  obtain ⟨js, hdone⟩ := u.completeControl_keeps (plainResult .ok (detailWithdraw (some k)))
  refine ⟨_, hexec, ?_, hok, ?_⟩
  · refine Eq.trans ?_ (State.outcomeOf_of_ended hended)
    unfold State.outcomeOf
    rw [hsame]
  · rw [hdone]
    exact hnone

end

/-- Settles O35: each kind of target in its own lemma. -/
theorem withdrawStopsItsTarget : Obligations.WithdrawStopsItsTarget := by
  intro s j k hs hfind haligned hk hresult
  exact ⟨fun hkind hrun r hr hstage => withdraw_stops_scene hs hfind haligned hk hresult hkind hrun hr hstage,
    fun hkind hrun hr => withdraw_stops_reading hs hfind haligned hk hresult hkind hrun hr,
    fun hkind hflight target hswitch => withdraw_stops_switch hs hfind haligned hk hresult hkind hflight hswitch,
    fun hkind hflight p test htest hjob => withdraw_stops_test hs hfind haligned hk hresult hkind hflight htest hjob⟩

end Sys2Proof.Machine

/-! O29, a surface that the bus does not read: the scene, or the VERIFY, ends BUS_ERROR (R25, R71, R181). -/
namespace Sys2Proof.Machine

/-! ## The engine of a scene that ends -/

/-- The engine composes for no VERIFY. -/
def State.unverifying (s : State) : Prop := ∀ t p b, s.composer.engine ≠ .verify t p b

section
variable {s : State} (h : s.unverifying)
include h

theorem State.unverifying_freeTile (t : TileId) : (s.freeTile t).unverifying := by
  unfold State.freeTile
  split
  · exact h
  · next p _ =>
    have hport : (s.modPort p Port.freeUnsent).unverifying := h
    unfold State.releaseEngine
    split
    · exact hport
    all_goals
      split
      · exact nofun
      · exact hport

theorem State.unverifying_endAtTile (e : Epoch) (t : TileId) : (s.endAtTile e t).unverifying := by
  have hfreed := State.unverifying_freeTile h t
  have hqueued {u : State} (hu : u.unverifying) : (if (u.tile t).back.holds e then u.queueDiscard t e else u).unverifying := by
    split
    · unfold State.unverifying
      rw [State.composer_queueDiscard]
      exact hu
    · exact hu
  unfold State.endAtTile
  refine hqueued ?_
  split
  · exact hfreed
  · split <;> exact hfreed

theorem State.engine_endSceneWith (r : SceneRec) (x : Result) : (s.endSceneWith r x).composer.engine = .free := by
  have hended : (s.endedAtTiles r).unverifying := by
    unfold State.endedAtTiles
    generalize idsOf r.participants = ids
    induction ids generalizing s with
    | nil => exact h
    | cons i ids ih => exact ih (State.unverifying_endAtTile h r.epoch i)
  rw [State.endSceneWith_eq]
  unfold State.completeScene
  dsimp only
  rw [State.completeFrame_composer]
  split
  · rfl
  · rfl
  · next t p b hengine => exact absurd hengine (hended t p b)

end

/-! ## A VERIFY that stops -/

/-- What `stopVerify` does, where the engine composes for it (R181). -/
theorem State.stopVerify_eq {s : State} {t : TileId} {p : PortId} {b : BufId} (h : s.composer.engine = .verify t p b) (f) :
    s.stopVerify f = { (s.mapPorts fun _ x => x.dropQueued f).modPort p fun x => x.freeBuf b with
      composer := { s.composer with engine := .free } } := by
  have hdropped : s.dropQueuedAll f = s.mapPorts fun _ x => x.dropQueued f := State.forEach_modPort s fun _ x => x.dropQueued f
  unfold State.stopVerify
  rw [hdropped]
  dsimp only
  rw [show (s.mapPorts fun _ x => x.dropQueued f).composer = s.composer from rfl, h]

theorem Port.queue_freeBuf (x : Port) (b : BufId) : (x.freeBuf b).queue = x.queue := by
  unfold Port.freeBuf Port.setBuf
  cases b <;> split <;> rfl

/-- Settles O29: the scene and the VERIFY. -/
theorem surfaceBusErrorsEndTheJob : Obligations.SurfaceBusErrorsEndTheJob := by
  refine ⟨fun s i p b tab r id j layer hengine hactive hr hbuf hj hfind hreads => ?_,
    fun s i p b tab r j layer hengine hr htable hj hfind hreads => ?_⟩
  · let x : Result := { outcome := .busError, flags := r.flags, detail := detailBusError .surface layer (some i) id.number r.epoch }
    have hexec : exec (.surfaceBusError layer) s = .next (s.endSceneWith r x).settle := by
      simp only [exec, execSurfaceBusError, hengine, hactive, State.scene_eq_some.mpr hr, hbuf, if_pos hreads, State.settled]
      rfl
    have hentry := State.findJob_of_handRunning (s.jobs_endSceneWith r x) hj hfind
    have hquiet := s.quiet_endSceneWith r x
    have hhalted := congrArg State.halted hquiet
    refine ⟨_, hexec, ?_, ?_, State.frameRun_completeScene _ _, State.active_completeScene _ _,
      State.engine_endSceneWith (by intro t p b h; rw [hengine] at h; exact nomatch h) r x, hhalted, ?_, fun k q hk hport hlink hholds => ?_⟩
    · refine State.outcomeOf_of_result (r := x) ?_
      rw [hentry]
      rfl
    · rw [hentry]
      rfl
    · rw [State.endSceneWith_eq, State.epochCounter_completeScene]
      have hsheet := congrArg State.epochCounter (s.sheet_endedAtTiles r)
      exact hsheet
    · rw [State.endSceneWith_eq, State.port_of_ports (State.ports_completeScene _ x) q]
      exact State.hasDiscard_endedAtTiles hk hport hlink hholds
  · let x : Result := { outcome := .busError, flags := r.flags, detail := detailBusError .surface layer (some i) r.stripe 0 }
    have hexec : exec (.verifySurfaceBusError layer) s =
        .next ((s.stopVerify (Reliable.isCheckOf r.serial)).completeFrame x).settle := by
      simp only [exec, execVerifySurfaceBusError, hengine, State.verify_eq_some.mpr hr, htable, if_pos hreads, State.settled]
      rfl
    have hjobs : ((s.stopVerify (Reliable.isCheckOf r.serial)).completeFrame x).jobs = handRunning .frame x s.jobs := by
      rw [State.jobs_completeFrame, State.jobs_stopVerify]
    have hentry := State.findJob_of_handRunning hjobs hj hfind
    have hquiet := (State.quiet_completeFrame _ x).trans (s.quiet_stopVerify (Reliable.isCheckOf r.serial))
    have hhalted := congrArg State.halted hquiet
    refine ⟨_, hexec, ?_, ?_, State.completeFrame_frameRun _ _, ?_, hhalted, fun q k hk => ?_⟩
    · refine State.outcomeOf_of_result (r := x) ?_
      rw [hentry]
      rfl
    · rw [hentry]
      rfl
    · rw [State.completeFrame_composer, State.stopVerify_eq hengine]
    · rw [State.port_of_ports (State.completeFrame_ports _ x) q, State.stopVerify_eq hengine] at hk
      have hqueue : k ∈ ((s.port q).dropQueued (Reliable.isCheckOf r.serial)).queue := by
        have hport : ((({ (s.mapPorts fun _ x => x.dropQueued (Reliable.isCheckOf r.serial)).modPort p fun x => x.freeBuf b with
            composer := { s.composer with engine := .free } } : State).port q)).queue =
            ((s.port q).dropQueued (Reliable.isCheckOf r.serial)).queue := by
          show (((s.mapPorts fun _ x => x.dropQueued (Reliable.isCheckOf r.serial)).modPort p fun x => x.freeBuf b).port q).queue = _
          rw [State.port_modPort, State.port_mapPorts]
          split
          · next hq =>
            subst hq
            rw [Port.queue_freeBuf]
          · rfl
        rw [hport] at hk
        exact hk
      have hkept := (List.mem_filter.mp hqueue).2
      simpa using hkept

end Sys2Proof.Machine

/-! SUPPORT. A port that a TILE_MAP restarts: what is left of it, where the frame job has neither a scene nor targets (R13, R77,
R95), and the rounds of a restart. -/
namespace Sys2Proof.Machine

/-! ## Nothing of the frame job hangs on a port -/

section
variable {s t : State} (h : s.inert)
include h

theorem State.scene_of_inert : s.scene = none := by
  cases hr : s.scene with
  | none => rfl
  | some r => exact absurd h (State.not_inert_of_scene hr)

theorem State.lut_of_inert : s.lut = none := by
  cases hr : s.lut with
  | none => rfl
  | some r => exact absurd h (State.not_inert_of_lut hr)

theorem State.verify_of_inert : s.verify = none := by
  cases hr : s.verify with
  | none => rfl
  | some r => exact absurd h (State.not_inert_of_verify hr)

theorem State.inert_of_kind (hkind : t.frameRun.kind = s.frameRun.kind) : t.inert := by
  unfold State.inert at h ⊢
  rw [hkind]
  exact h

theorem State.portLeft_of_inert (p : PortId) : s.portLeft p = s := by
  unfold State.portLeft
  split
  · rfl
  · unfold State.leaveTargets State.lutSkip
    rw [State.lut_of_inert h]
    unfold State.verifyMiss
    rw [State.verify_of_inert h]

theorem State.flushPort_of_inert (p : PortId) : s.flushPort p = (s.modPort p Port.flush).releaseEngine p := by
  have hinert : ((s.modPort p Port.flush).releaseEngine p).inert :=
    State.inert_of_kind h (congrArg Prod.snd (State.jobRun_releaseEngine (s.modPort p Port.flush) p))
  unfold State.flushPort
  dsimp only
  rw [State.scene_of_inert hinert]

theorem State.enterListen_of_inert (p : PortId) : s.enterListen p = s.modPort p Port.listening :=
  State.portLeft_of_inert (s := s.modPort p Port.listening) h p

theorem State.goOff_of_inert (p : PortId) :
    s.goOff p = ((s.modPort p Port.switchedOff).modPort p Port.flush).releaseEngine p := by
  have hoff : (s.modPort p Port.switchedOff).inert := h
  have hflushed : (s.modPort p Port.switchedOff).flushPort p =
      ((s.modPort p Port.switchedOff).modPort p Port.flush).releaseEngine p := State.flushPort_of_inert hoff p
  have hinert : (((s.modPort p Port.switchedOff).modPort p Port.flush).releaseEngine p).inert :=
    State.inert_of_kind hoff (congrArg Prod.snd (State.jobRun_releaseEngine _ p))
  show ((s.modPort p Port.switchedOff).flushPort p).portLeft p = _
  rw [hflushed]
  exact State.portLeft_of_inert hinert p

theorem State.inert_leaveForRequest (p : PortId) : (s.leaveForRequest p).inert := by
  refine State.inert_of_kind h ?_
  unfold State.leaveForRequest
  split
  · unfold State.exitUp State.endTest State.endTestWith
    have hflushed : (((s.port p).requeue.foldl State.noteTable (s.raiseTile.modPort p fun x =>
        { x.clearStream with silenceTimer := none, stability := 0 })).flushPort p).frameRun.kind = s.frameRun.kind :=
      congrArg Prod.snd ((State.jobRun_flushPort _ p).trans (foldl_keeps State.jobRun _ State.jobRun_noteTable _ _))
    dsimp only
    split <;> exact hflushed
  all_goals rfl

end

/-! ## The port -/

theorem State.port_releaseEngine (s : State) (p q : PortId) : (s.releaseEngine p).port q = s.port q := by
  unfold State.releaseEngine
  split
  · rfl
  all_goals split <;> rfl

theorem Port.buf_flush (x : Port) : x.flush.bufA = .free ∧ x.flush.bufB = .free := by
  unfold Port.flush Port.freeBuf Port.setBuf Port.buf Port.dropQueued
  dsimp only
  split <;> split <;> simp_all

/-- A port that a restart has reset (R95). -/
def Port.restarted (x : Port) (ceiling : Grade) : Port :=
  { x.switchedOff.flush with tally := 0, attempts := 0, stability := 0, ind := .clear, grade := ceiling }

theorem State.port_restartPort {s : State} (h : s.inert) (p : PortId) : (s.restartPort p).port p =
    let y := ((s.leaveForRequest p).port p).restarted s.policy.ceiling
    if s.portMapped p && !s.asleep then y.listening else y := by
  have hleft := State.inert_leaveForRequest h p
  have helse := State.elsewhere_leaveForRequest s p
  generalize hu : s.leaveForRequest p = u at hleft helse
  have hgone : (u.goOff p).elsewhere p = s.elsewhere p := (State.elsewhere_goOff u p).trans helse
  have hany := State.anywhere_of_elsewhere hgone
  have hport : (u.goOff p).port p = (u.port p).switchedOff.flush := by
    rw [State.goOff_of_inert hleft, State.port_releaseEngine, State.port_modPort_self, State.port_modPort_self]
  have hinert : (u.goOff p).inert := by
    rw [State.goOff_of_inert hleft]
    exact State.inert_of_kind hleft (congrArg Prod.snd (State.jobRun_releaseEngine _ p))
  unfold State.restartPort
  rw [hu]
  dsimp only
  generalize u.goOff p = v at hgone hany hport hinert
  have hpolicy := State.policy_of_anywhere hany
  have hreset : (v.modPort p fun x => { x with tally := 0, attempts := 0, stability := 0, ind := .clear, grade := v.policy.ceiling }).port p =
      (u.port p).restarted s.policy.ceiling := by
    rw [State.port_modPort_self, hport, hpolicy]
    rfl
  have hcond : (v.modPort p fun x => { x with tally := 0, attempts := 0, stability := 0, ind := .clear, grade := v.policy.ceiling }).portMapped p
      = s.portMapped p := State.portMapped_of_tiles (State.tiles_of_anywhere hany) p
  have hasleep : (v.modPort p fun x => { x with tally := 0, attempts := 0, stability := 0, ind := .clear, grade := v.policy.ceiling }).asleep
      = s.asleep := State.asleep_of_anywhere hany
  rw [hcond, hasleep]
  split
  · rw [State.enterListen_of_inert, State.port_modPort_self, hreset]
    exact hinert
  · exact hreset

theorem State.inert_restartPort {s : State} (h : s.inert) (p : PortId) : (s.restartPort p).inert := by
  have hleft := State.inert_leaveForRequest h p
  have hgone : ((s.leaveForRequest p).goOff p).inert := by
    rw [State.goOff_of_inert hleft]
    exact State.inert_of_kind hleft (congrArg Prod.snd (State.jobRun_releaseEngine _ p))
  unfold State.restartPort
  dsimp only
  split
  · rw [State.enterListen_of_inert]
    · exact hgone
    · exact hgone
  · exact hgone

/-- What a restart leaves of a port, from what it was (R95). -/
def Port.RestartedFrom (x y : Port) (l : LinkState) (g : Grade) : Prop :=
  y.link = l ∧ y.lostCause = none ∧ y.tally = 0 ∧ y.attempts = 0 ∧ y.ind = .clear ∧ y.grade = g ∧ y.window = [] ∧
  y.bufA = .free ∧ y.bufB = .free ∧ y.ctr = x.ctr

theorem State.restartedFrom_restartPort {s : State} (h : s.inert) (p : PortId) : (s.port p).RestartedFrom ((s.restartPort p).port p)
    (if s.portMapped p && !s.asleep then .listen else .off) s.policy.ceiling := by
  have hctr : ((s.leaveForRequest p).port p).ctr = (s.port p).ctr := by
    have hspine := congrArg Port.ctr (s.spine_leaveForRequest p)
    refine Eq.trans hspine ?_
    show (s.port p).left.ctr = _
    unfold Port.left
    split <;> rfl
  have hflushed (x : Port) : x.switchedOff.flush.spine = x.switchedOff.spine := Port.spine_flush _
  have hlink := congrArg Port.link (hflushed ((s.leaveForRequest p).port p))
  have hcause := congrArg Port.lostCause (hflushed ((s.leaveForRequest p).port p))
  have hwindow := congrArg Port.window (hflushed ((s.leaveForRequest p).port p))
  have hcounts := congrArg Port.ctr (hflushed ((s.leaveForRequest p).port p))
  obtain ⟨hA, hB⟩ := Port.buf_flush ((s.leaveForRequest p).port p).switchedOff
  rw [State.port_restartPort h]
  dsimp only
  split
  · exact ⟨rfl, rfl, rfl, rfl, rfl, rfl, hwindow, hA, hB, hcounts.trans hctr⟩
  · exact ⟨hlink, hcause, rfl, rfl, rfl, rfl, hwindow, hA, hB, hcounts.trans hctr⟩

/-- A restart ends the port's test or leaves it. -/
theorem State.test_restartPort {s : State} (h : s.inert) (p : PortId) :
    ((s.restartPort p).port p).test = none ∨ ((s.restartPort p).port p).test = (s.port p).test := by
  have htest : ((s.restartPort p).port p).test = (s.port p).left.test := by
    have hleft := congrArg Port.test (s.spine_leaveForRequest p)
    have hflushed := congrArg Port.test (Port.spine_flush ((s.leaveForRequest p).port p).switchedOff)
    rw [State.port_restartPort h]
    dsimp only
    split
    · exact hflushed.trans hleft
    · exact hflushed.trans hleft
  rw [htest]
  unfold Port.left
  split
  · exact .inl rfl
  · exact .inr rfl

end Sys2Proof.Machine

/-! SUPPORT. The entries of a TILE_MAP: their checks, and the map they give (R2, R9, R10, R11). -/
namespace Sys2Proof.Machine

theorem sizeOk_iff (n : Nat) : sizeOk n = true ↔ 64 ≤ n ∧ n ≤ 1024 ∧ n % 8 = 0 := by
  simp [sizeOk, and_assoc]

theorem MapEntry.inRange_iff (e : MapEntry) : e.inRange = true ↔ e.tile ≤ 11 ∧ e.port ≤ 11 ∧ e.stripeCode ≠ 3 ∧
    64 ≤ e.width ∧ e.width ≤ 1024 ∧ e.width % 8 = 0 ∧ 64 ≤ e.height ∧ e.height ≤ 1024 ∧ e.height % 8 = 0 ∧
    e.originX + e.width ≤ 8192 ∧ e.originY + e.height ≤ 8192 := by
  unfold MapEntry.inRange
  simp only [Bool.and_eq_true, decide_eq_true_eq, bne_iff_ne, sizeOk_iff, and_assoc]
  exact Iff.rfl

theorem MapEntry.collision_eq (e f : MapEntry) : e.collision f =
    if e.tile = f.tile ∨ e.port = f.port then some .duplicate
    else if e.excluded = false ∧ f.excluded = false ∧ e.originX < f.originX + f.width ∧ f.originX < e.originX + e.width ∧
      e.originY < f.originY + f.height ∧ f.originY < e.originY + e.height then some .overlap
    else none := by
  unfold MapEntry.collision MapEntry.overlaps
  by_cases htile : e.tile = f.tile
  · rw [if_pos htile, if_pos (.inl htile)]
  · by_cases hport : e.port = f.port
    · rw [if_neg htile, if_pos hport, if_pos (.inr hport)]
    · rw [if_neg htile, if_neg hport, if_neg (c := e.tile = f.tile ∨ e.port = f.port) fun h => h.elim htile hport]
      simp only [Bool.and_eq_true, Bool.not_eq_true', decide_eq_true_eq, and_assoc]

/-- What the first collision with the entries of a list says, counted from `n` (R10). -/
theorem MapEntry.firstCollision_eq_none (e : MapEntry) (n : Nat) (fs : List MapEntry) :
    e.firstCollision n fs = none ↔ ∀ f ∈ fs, e.collision f = none := by
  induction fs generalizing n with
  | nil => simp [MapEntry.firstCollision]
  | cons f fs ih =>
    unfold MapEntry.firstCollision
    cases hf : e.collision f with
    | none => simp [ih, hf]
    | some r => simp [hf]

theorem MapEntry.firstCollision_eq_some (e : MapEntry) (n : Nat) (fs : List MapEntry) (r : Reason) (i : Nat) :
    e.firstCollision n fs = some (r, i) ↔ ∃ m f, i = n + m ∧ fs[m]? = some f ∧ e.collision f = some r ∧
      ∀ k < m, ∀ g, fs[k]? = some g → e.collision g = none := by
  induction fs generalizing n with
  | nil => simp [MapEntry.firstCollision]
  | cons f fs ih =>
    unfold MapEntry.firstCollision
    cases hf : e.collision f with
    | some x =>
      dsimp only
      constructor
      · rintro h
        obtain ⟨rfl, rfl⟩ := Prod.mk.inj (Option.some.inj h)
        exact ⟨0, f, rfl, rfl, hf, fun k hk => absurd hk (Nat.not_lt_zero k)⟩
      · rintro ⟨m, g, rfl, hg, hcollide, hclear⟩
        cases m with
        | zero =>
          obtain rfl := Option.some.inj (List.getElem?_cons_zero.symm.trans hg)
          rw [hf] at hcollide
          rw [Option.some.inj hcollide]
          rfl
        | succ m => exact nomatch hf.symm.trans (hclear 0 (Nat.succ_pos m) f rfl)
    | none =>
      dsimp only
      rw [ih]
      constructor
      · rintro ⟨m, g, rfl, hg, hcollide, hclear⟩
        refine ⟨m + 1, g, by omega, hg, hcollide, fun k hk y hy => ?_⟩
        cases k with
        | zero =>
          obtain rfl := Option.some.inj (List.getElem?_cons_zero.symm.trans hy)
          exact hf
        | succ k => exact hclear k (by omega) y hy
      · rintro ⟨m, g, rfl, hg, hcollide, hclear⟩
        cases m with
        | zero =>
          obtain rfl := Option.some.inj (List.getElem?_cons_zero.symm.trans hg)
          exact nomatch hf.symm.trans hcollide
        | succ m =>
          exact ⟨m, g, by omega, hg, hcollide, fun k hk y hy => hclear (k + 1) (by omega) y hy⟩

/-- What is wrong with an entry after the earlier ones: its reason and the earlier entry met (R9, R10). -/
def MapEntry.fault (e : MapEntry) (earlier : List MapEntry) : Option (Reason × Option Nat) :=
  if !e.inRange then some (.badEntry, none) else (e.firstCollision 0 earlier).map fun x => (x.1, some x.2)

theorem entriesFault_cons (earlier : List MapEntry) (e : MapEntry) (es : List MapEntry) :
    entriesFault earlier (e :: es) = match e.fault earlier with
      | some x => some (x.1, earlier.length, x.2)
      | none => entriesFault (earlier ++ [e]) es := by
  conv_lhs => unfold entriesFault
  unfold MapEntry.fault
  split
  · rfl
  · cases hcollision : e.firstCollision 0 earlier with
    | none => rfl
    | some x => rfl

/-- The first entry at fault. -/
theorem entriesFault_eq_some (earlier es : List MapEntry) (r : Reason) (i : Nat) (met : Option Nat) :
    entriesFault earlier es = some (r, i, met) ↔ ∃ n e, i = earlier.length + n ∧ es[n]? = some e ∧
      e.fault (earlier ++ es.take n) = some (r, met) ∧ ∀ k < n, ∀ f, es[k]? = some f → f.fault (earlier ++ es.take k) = none := by
  induction es generalizing earlier with
  | nil => simp [entriesFault]
  | cons e es ih =>
    rw [entriesFault_cons]
    cases hfault : e.fault earlier with
    | some x =>
      dsimp only
      constructor
      · intro h
        obtain ⟨rfl, rfl, rfl⟩ : x.1 = r ∧ earlier.length = i ∧ x.2 = met := by simpa using h
        refine ⟨0, e, rfl, rfl, ?_, fun k hk => absurd hk (Nat.not_lt_zero k)⟩
        rw [List.take_zero, List.append_nil]
        exact hfault
      · rintro ⟨n, f, rfl, hf, hbad, hclear⟩
        cases n with
        | zero =>
          obtain rfl := Option.some.inj (List.getElem?_cons_zero.symm.trans hf)
          rw [List.take_zero, List.append_nil, hfault] at hbad
          rw [Option.some.inj hbad]
          rfl
        | succ n =>
          have h := hclear 0 (Nat.succ_pos n) e rfl
          rw [List.take_zero, List.append_nil, hfault] at h
          exact nomatch h
    | none =>
      dsimp only
      have hmoved (n : Nat) : earlier ++ (e :: es).take (n + 1) = earlier ++ [e] ++ es.take n := by simp
      rw [ih]
      constructor
      · rintro ⟨n, f, rfl, hf, hbad, hclear⟩
        refine ⟨n + 1, f, by simp; omega, hf, by rw [hmoved]; exact hbad, fun k hk g hg => ?_⟩
        cases k with
        | zero =>
          obtain rfl := Option.some.inj (List.getElem?_cons_zero.symm.trans hg)
          rw [List.take_zero, List.append_nil]
          exact hfault
        | succ k =>
          rw [hmoved]
          exact hclear k (by omega) g hg
      · rintro ⟨n, f, rfl, hf, hbad, hclear⟩
        cases n with
        | zero =>
          obtain rfl := Option.some.inj (List.getElem?_cons_zero.symm.trans hf)
          rw [List.take_zero, List.append_nil, hfault] at hbad
          exact nomatch hbad
        | succ n =>
          rw [hmoved] at hbad
          refine ⟨n, f, by simp; omega, hf, hbad, fun k hk g hg => ?_⟩
          have h := hclear (k + 1) (by omega) g hg
          rw [hmoved] at h
          exact h

/-- No entry before place `n` is met by entry `k` (R10). -/
def ClearOf (es : List MapEntry) (k n : Nat) : Prop :=
  ∀ m < n, ∀ e f, es[k]? = some e → es[m]? = some f → e.collision f = none

theorem MapEntry.fault_eq_none {es : List MapEntry} {k : Nat} {e : MapEntry} (he : es[k]? = some e) :
    e.fault (es.take k) = none ↔ e.inRange = true ∧ ClearOf es k k := by
  unfold MapEntry.fault ClearOf
  cases e.inRange with
  | false => simp
  | true =>
    simp only [Bool.not_true, Bool.false_eq_true, if_false, Option.map_eq_none_iff, MapEntry.firstCollision_eq_none, true_and]
    constructor
    · intro h m hm x f hx hf
      obtain rfl := Option.some.inj (he.symm.trans hx)
      exact h f (List.mem_iff_getElem?.mpr ⟨m, by rw [List.getElem?_take_of_lt hm]; exact hf⟩)
    · intro h f hf
      obtain ⟨m, hm⟩ := List.mem_iff_getElem?.mp hf
      rw [List.getElem?_take] at hm
      split at hm
      · next hlt => exact h m hlt e f he hm
      · exact nomatch hm

theorem MapEntry.fault_eq_some {es : List MapEntry} {i : Nat} {e : MapEntry} (he : es[i]? = some e) (r : Reason) (met : Option Nat) :
    e.fault (es.take i) = some (r, met) ↔ e.inRange = false ∧ r = .badEntry ∧ met = none ∨
      e.inRange = true ∧ ∃ m f, m < i ∧ es[m]? = some f ∧ e.collision f = some r ∧ met = some m ∧ ClearOf es i m := by
  unfold MapEntry.fault
  cases e.inRange with
  | false =>
    simp only [Bool.not_false, if_true, Option.some.injEq, Prod.mk.injEq, true_and, Bool.false_eq_true, false_and, or_false]
    exact ⟨fun h => ⟨h.1.symm, h.2.symm⟩, fun h => ⟨h.1.symm, h.2.symm⟩⟩
  | true =>
    simp only [Bool.not_true, Bool.false_eq_true, if_false, Bool.true_eq_false, false_and, true_and, false_or, Option.map_eq_some_iff]
    constructor
    · rintro ⟨⟨x, m⟩, hcollision, hpair⟩
      obtain ⟨rfl, rfl⟩ := Prod.mk.inj hpair
      obtain ⟨m, f, rfl, hf, hcollide, hclear⟩ := (e.firstCollision_eq_some ..).mp hcollision
      rw [List.getElem?_take] at hf
      split at hf
      · next hlt =>
        refine ⟨m, f, hlt, hf, hcollide, by simp, fun k hk y g hy hg => ?_⟩
        obtain rfl := Option.some.inj (he.symm.trans hy)
        exact hclear k hk g (by rw [List.getElem?_take_of_lt (by omega)]; exact hg)
      · exact nomatch hf
    · rintro ⟨m, f, hlt, hf, hcollide, rfl, hclear⟩
      refine ⟨(r, m), (e.firstCollision_eq_some ..).mpr ⟨m, f, by simp, ?_, hcollide, fun k hk g hg => ?_⟩, rfl⟩
      · rw [List.getElem?_take_of_lt hlt]
        exact hf
      · rw [List.getElem?_take_of_lt (by omega)] at hg
        exact hclear k hk e g he hg

/-- The first entry that fails its checks (R9, R10). -/
theorem entriesFault_iff (es : List MapEntry) (r : Reason) (i : Nat) (met : Option Nat) :
    entriesFault [] es = some (r, i, met) ↔
      (∀ k < i, ClearOf es k k ∧ ∀ e, es[k]? = some e → e.inRange = true) ∧
      ∃ e, es[i]? = some e ∧
        (e.inRange = false ∧ r = .badEntry ∧ met = none ∨
          e.inRange = true ∧ ∃ m f, m < i ∧ es[m]? = some f ∧ e.collision f = some r ∧ met = some m ∧ ClearOf es i m) := by
  rw [entriesFault_eq_some]
  simp only [List.length_nil, Nat.zero_add, List.nil_append]
  constructor
  · rintro ⟨n, e, rfl, he, hbad, hclear⟩
    refine ⟨fun k hk => ⟨fun m hm x f hx hf => ?_, fun x hx => ?_⟩, e, he, (MapEntry.fault_eq_some he r met).mp hbad⟩
    · exact ((MapEntry.fault_eq_none hx).mp (hclear k hk x hx)).2 m hm x f hx hf
    · exact ((MapEntry.fault_eq_none hx).mp (hclear k hk x hx)).1
  · rintro ⟨hclear, e, he, hbad⟩
    exact ⟨i, e, rfl, he, (MapEntry.fault_eq_some he r met).mpr hbad, fun k hk f hf =>
      (MapEntry.fault_eq_none hf).mpr ⟨(hclear k hk).2 f hf, (hclear k hk).1⟩⟩

/-- The ports that the changed tiles name (R13). -/
theorem State.restartMask_iff (s : State) (es : List MapEntry) (p : PortId) : (s.restartMask es).getLsbD p.val = true ↔
    ∃ i : TileId, mapGeometry es i ≠ (s.tile i).geom ∧ ((s.tile i).geom.port = some p ∨ (mapGeometry es i).port = some p) := by
  have hmask := Mask.has_maskOf (fun p => allIds.any (fun t =>
    mapGeometry es t != (s.tile t).geom && ((s.tile t).geom.port == some p || (mapGeometry es t).port == some p))) p
  unfold State.restartMask
  rw [show BitVec.getLsbD (maskOf _) p.val = _ from hmask]
  simp only [List.any_eq_true, Bool.and_eq_true, bne_iff_ne, Bool.or_eq_true, beq_iff_eq]
  exact ⟨fun ⟨i, _, h⟩ => ⟨i, h⟩, fun ⟨i, h⟩ => ⟨i, mem_allIds i, h⟩⟩

end Sys2Proof.Machine

/-! O22, a TILE_MAP's entries: the reads and checks, and the map that is replaced in one step (R8–R14). -/
namespace Sys2Proof.Machine

/-! ## The tiles (R11, R12) -/

/-- A changed tile's record is replaced (R12). -/
def State.retile (changed : Mask) (es : List MapEntry) (t : TileId) (s : State) : State :=
  if Mask.has changed t then s.setTile t (changedTile (mapGeometry es t)) else s

/-- The state with these tiles. -/
def State.withTiles (ts : Vector Tile 12) (s : State) : State := { s with tiles := ts }

theorem State.tile_setTile (s : State) (i t : TileId) (x : Tile) : (s.setTile i x).tile t = if i = t then x else s.tile t := by
  unfold State.setTile State.tile
  simp only [Vector.getElem_set, Fin.ext_iff]

theorem State.tile_retile (changed : Mask) (es : List MapEntry) (i t : TileId) (s : State) : (s.retile changed es i).tile t =
    if Mask.has changed t = true ∧ i = t then changedTile (mapGeometry es t) else s.tile t := by
  unfold State.retile
  by_cases hi : i = t
  · subst hi
    by_cases hchanged : Mask.has changed i = true
    · rw [if_pos hchanged, if_pos ⟨hchanged, rfl⟩, State.tile_setTile, if_pos rfl]
    · rw [if_neg hchanged, if_neg fun h => hchanged h.1]
  · rw [if_neg (c := Mask.has changed t = true ∧ i = t) fun h => hi h.2]
    exact ite_keeps (fun u : State => u.tile t) ((State.tile_setTile ..).trans (if_neg hi)) rfl

theorem State.tile_retiles (changed : Mask) (es : List MapEntry) (ids : List TileId) (s : State) (t : TileId) :
    (s.forEach ids fun i u => u.retile changed es i).tile t =
      if Mask.has changed t = true ∧ t ∈ ids then changedTile (mapGeometry es t) else s.tile t := by
  unfold State.forEach
  induction ids generalizing s with
  | nil => rw [if_neg fun h => nomatch h.2]; rfl
  | cons i ids ih =>
    rw [List.foldl_cons, ih, State.tile_retile]
    by_cases hchanged : Mask.has changed t = true
    · simp only [hchanged, true_and, List.mem_cons]
      by_cases hmem : t ∈ ids
      · rw [if_pos hmem, if_pos (.inr hmem)]
      · rw [if_neg hmem]
        by_cases hi : i = t
        · rw [if_pos hi, if_pos (.inl hi.symm)]
        · rw [if_neg hi, if_neg fun h => h.elim (fun e => hi e.symm) hmem]
    · rw [if_neg fun h => hchanged h.1, if_neg fun h => hchanged h.1, if_neg fun h => hchanged h.1]

/-- The map, replaced, before the ports restart (R11, R12). -/
def State.remapped (s : State) (es : List MapEntry) : State :=
  let u := s.forEach allIds fun t u => u.retile (s.changedBy es) es t
  { u with composer := { u.composer with order := mapOrder es, pointer := 0 } }

section
variable (s : State) (es : List MapEntry)

theorem State.remapped_keeps : s.remapped es = { s with
    tiles := (s.remapped es).tiles, composer := { s.composer with order := mapOrder es, pointer := 0 } } := by
  have hkept := State.forEach_keeps (State.withTiles s.tiles) (fun t u => u.retile (s.changedBy es) es t)
    (fun t u => by unfold State.retile; split <;> rfl) allIds s
  unfold State.remapped
  generalize s.forEach allIds (fun t u => u.retile (s.changedBy es) es t) = u at hkept
  have hcomposer := congrArg State.composer hkept
  have hrest : { u with tiles := s.tiles } = s := hkept
  dsimp only
  rw [show u.composer = s.composer from hcomposer]
  have hset := congrArg
    (fun v : State => ({ v with tiles := u.tiles, composer := { s.composer with order := mapOrder es, pointer := 0 } } : State)) hrest
  exact hset

theorem State.remapped_fields : (s.remapped es).policy = s.policy ∧ (s.remapped es).power = s.power ∧
    (s.remapped es).ports = s.ports ∧ (s.remapped es).jobRun = s.jobRun := by
  have hkept := s.remapped_keeps es
  have hpolicy := congrArg State.policy hkept
  have hpower := congrArg State.power hkept
  have hports := congrArg State.ports hkept
  have hjobRun := congrArg State.jobRun hkept
  generalize s.remapped es = u at *
  exact ⟨hpolicy, hpower, hports, hjobRun⟩

theorem State.tile_remapped (i : TileId) : (s.remapped es).tile i =
    if mapGeometry es i = (s.tile i).geom then s.tile i else changedTile (mapGeometry es i) := by
  have htile := State.tile_retiles (s.changedBy es) es allIds s i
  have hchanged : Mask.has (s.changedBy es) i = (mapGeometry es i != (s.tile i).geom) := Mask.has_maskOf _ i
  rw [hchanged] at htile
  refine htile.trans ?_
  by_cases h : mapGeometry es i = (s.tile i).geom
  · rw [if_pos h, if_neg fun k => ?_]
    exact absurd h (bne_iff_ne.mp k.1)
  · rw [if_neg h, if_pos ⟨bne_iff_ne.mpr h, mem_allIds i⟩]

theorem State.geom_remapped (i : TileId) : ((s.remapped es).tile i).geom = mapGeometry es i := by
  rw [State.tile_remapped]
  split
  · next h => exact h.symm
  · rfl

/-! ## The ports (R13, R95) -/

/-- The round of one port. -/
def State.restart (p : PortId) (s : State) : State := s.restartPort p

/-- The map replaced and the ports restarted, before the job completes (R11–R13). -/
def State.rewalled : State := (s.remapped es).forEach (idsOf (s.restartMask es)) State.restart

theorem State.anywhere_rewalled : (s.rewalled es).anywhere = (s.remapped es).anywhere :=
  State.anywhere_forEach (f := State.restart) (fun p u => u.elsewhere_restartPort p) _ _

theorem State.rewalled_fields : (s.rewalled es).tiles = (s.remapped es).tiles ∧ (s.rewalled es).composer.order = mapOrder es ∧
    (s.rewalled es).composer.pointer = 0 ∧ (s.rewalled es).composer.shown = s.composer.shown ∧
    (s.rewalled es).epochCounter = s.epochCounter ∧ (s.rewalled es).presented = s.presented := by
  have hany := s.anywhere_rewalled es
  have hkept := s.remapped_keeps es
  have hcomposer := congrArg (fun u : State => (u.composer.order, u.composer.pointer, u.composer.shown)) hany
  have hepoch := congrArg State.epochCounter hany
  have hpresented := congrArg State.presented hany
  have htiles := State.tiles_of_anywhere hany
  have hcomposer' := congrArg (fun u : State => (u.composer.order, u.composer.pointer, u.composer.shown)) hkept
  have hepoch' := congrArg State.epochCounter hkept
  have hpresented' := congrArg State.presented hkept
  generalize s.remapped es = v at *
  generalize s.rewalled es = u at *
  have hsame := Eq.trans hcomposer hcomposer'
  simp only [Prod.mk.injEq] at hsame
  obtain ⟨horder, hpointer, hshown⟩ := hsame
  exact ⟨htiles, horder, hpointer, hshown, Eq.trans hepoch hepoch', Eq.trans hpresented hpresented'⟩

/-! ## The reads (R8) -/

section
variable {j : Job} (hr : s.frameRun = .entries es) (hj : s.running .frame = some j)
include hr hj

theorem exec_tileMapEntryRead_fails : exec (.tileMapEntryRead none) s =
    .next (s.completeFrame (plainResult .busError (detailBusError .entryList es.length none 0 0))).settle := by
  simp only [exec, execTileMapEntryRead, hr, hj, State.settled]

theorem exec_tileMapEntryRead (bs : Vector Byte 16) : exec (.tileMapEntryRead (some bs)) s =
    if es.length + 1 < j.byte 20 then .next { s with frameRun := .entries (es ++ [decodeEntry bs.toList]) }
    else (s.checkEntries (es ++ [decodeEntry bs.toList])).settled := by
  simp only [exec, execTileMapEntryRead, hr, hj, List.length_append, List.length_singleton]

end

/-- The map replaced, and the job's completion (R14). -/
theorem State.replaceMap_eq : s.replaceMap es = (s.rewalled es).completeFrame (plainResult .ok (detailMasks
    (maskOf (fun i => mapGeometry es i != (s.tile i).geom)) (maskOf (fun i => (mapGeometry es i).mapping == .mapped))
    (maskOf (fun i => (mapGeometry es i).mapping == .excluded)))) := by
  have hgeom (i : TileId) : ((s.rewalled es).tile i).geom = mapGeometry es i := by
    rw [State.tile_of_tiles (State.tiles_of_anywhere (s.anywhere_rewalled es)), State.geom_remapped]
  have hmapped : (s.rewalled es).mappedMask = maskOf fun i => (mapGeometry es i).mapping == .mapped := by
    unfold State.mappedMask
    exact congrArg maskOf (funext fun i => by unfold State.isMapped; rw [hgeom])
  have hexcluded : maskOf (fun i => ((s.rewalled es).tile i).geom.mapping == .excluded) =
      maskOf fun i => (mapGeometry es i).mapping == .excluded := congrArg maskOf (funext fun i => by rw [hgeom])
  rw [← hmapped, ← hexcluded]
  rfl

section
variable {s es}

theorem State.inert_of_entries (hr : s.frameRun = .entries es) (fs : List MapEntry) : (s.remapped fs).inert := by
  rw [State.remapped_keeps]
  unfold State.inert
  dsimp only
  rw [hr]
  exact ⟨(by decide : (4 : Nat) ≠ 3), (by decide : (4 : Nat) ≠ 6), (by decide : (4 : Nat) ≠ 7)⟩

/-- A port of a changed tile, after its own round. -/
theorem State.restartedFrom_rewalled {fs : List MapEntry} (hinert : (s.remapped fs).inert) {p : PortId}
    (hp : Mask.has (s.restartMask fs) p = true) : (s.port p).RestartedFrom ((s.rewalled fs).port p)
      (if (s.rewalled fs).portMapped p && !s.asleep then .listen else .off) s.policy.ceiling := by
  obtain ⟨u, hu, hany, hport, hround, -⟩ := State.port_forEach (f := State.restart) (fun p u => u.elsewhere_restartPort p)
    (nodup_idsOf _) (mem_idsOf.mpr hp) (s.remapped fs) (P := State.inert) (fun q u _ hu => State.inert_restartPort hu q) hinert
  have hafter := State.restartedFrom_restartPort hu p
  obtain ⟨hpolicy, hpower, hports, -⟩ := s.remapped_fields fs
  have hasleep : (s.remapped fs).asleep = s.asleep := by
    unfold State.asleep
    rw [hpower]
  have hmapped : u.portMapped p = (s.rewalled fs).portMapped p :=
    (State.portMapped_of_tiles (State.tiles_of_anywhere hany) p).trans
      (State.portMapped_of_tiles (State.tiles_of_anywhere (s.anywhere_rewalled fs)) p).symm
  rw [State.asleep_of_anywhere hany, State.policy_of_anywhere hany, hport, hmapped, hasleep, hpolicy, State.port_of_ports hports] at hafter
  have hround' : (s.rewalled fs).port p = (u.restartPort p).port p := hround
  rw [hround']
  exact hafter

/-- A port of no changed tile. -/
theorem State.port_rewalled {fs : List MapEntry} {p : PortId} (hp : Mask.has (s.restartMask fs) p = false) :
    (s.rewalled fs).port p = s.port p := by
  obtain ⟨-, -, hports, -⟩ := s.remapped_fields fs
  have hsame := State.port_forEach_of_not_mem (f := State.restart) (fun p u => u.elsewhere_restartPort p)
    (ids := idsOf (s.restartMask fs)) (p := p) (fun h => Bool.false_ne_true (hp.symm.trans (mem_idsOf.mp h))) (s.remapped fs)
  exact hsame.trans (State.port_of_ports hports p)

/-- The TILE_MAP itself is handed nothing by the restarts. -/
theorem State.spares_rewalled {a : Word} {fs : List MapEntry} (hinert : (s.remapped fs).inert) (htest : s.untested a) :
    s.Spares a (s.rewalled fs) := by
  obtain ⟨-, -, hports, hjobRun⟩ := s.remapped_fields fs
  refine (State.spares_of_jobRun hjobRun).trans ?_
  have huntested : (s.remapped fs).untested a := fun p k hk => htest p k (State.port_of_ports hports p ▸ hk)
  refine (State.forEach_invariant (P := fun v => (s.remapped fs).Spares a v ∧ v.untested a ∧ v.inert) State.restart (fun p v hv => ?_)
    _ _ ⟨State.Spares.refl a _, huntested, hinert⟩).1
  obtain ⟨hspares, huntested, hinert⟩ := hv
  exact ⟨hspares.trans (State.spares_restartPort a v (huntested p)),
    State.untested_of_elsewhere (v.elsewhere_restartPort p) (State.test_restartPort hinert p) huntested, State.inert_restartPort hinert p⟩

/-- The RUNNING frame job, if it is spared, completes with what it is handed. -/
theorem State.result_completeFrame_of_spares {j : Job} {u : State} (hcalm : s.calm j.addr) (hj : s.running .frame = some j)
    (hfind : s.findJob j.addr = some j) (h : s.Spares j.addr u) (r : Result) :
    ((u.completeFrame r).findJob j.addr).bind Job.result = some r := by
  obtain ⟨-, -, -, hnone⟩ := State.running_iff hj
  obtain ⟨k, hk, hentry, -⟩ := h.running hcalm hj rfl
  obtain ⟨m, hm, -, hresult⟩ := h.found hfind (.inl ⟨hcalm, rfl⟩)
  have haddr := (Job.addr_of_entry hentry).1
  have hjobs : (u.completeFrame r).jobs = u.jobs.map fun x => if x.addr = k.addr then x.hand r else x := by
    rw [State.jobs_completeFrame]
    unfold State.running at hk
    unfold handRunning
    rw [hk]
  rw [State.findJob_of_map hjobs (fun x => ((handsOnly_hand k.addr r).1 x).1), hm, Option.map_some,
    if_pos ((State.addr_of_findJob hm).trans haddr.symm), Job.hand_of_none (hresult.trans hnone)]
  rfl

end

end

section
variable {s : State} {j : Job} {es : List MapEntry} (hr : s.frameRun = .entries es) (hj : s.running .frame = some j)
include hr hj

theorem tileMapEntryRead_judged : s.listRead = some { address := (j.word 16).toNat + 16 * es.length, length := 16 } ∧
    exec (.tileMapEntryRead none) s =
      .next (s.completeFrame (plainResult .busError (detailBusError .entryList es.length none 0 0))).settle ∧
    ∀ bs : Vector Byte 16,
      (es.length + 1 < j.byte 20 →
        exec (.tileMapEntryRead (some bs)) s = .next { s with frameRun := .entries (es ++ [decodeEntry bs.toList]) }) ∧
      (j.byte 20 ≤ es.length + 1 → ∀ r i earlier, entriesFault [] (es ++ [decodeEntry bs.toList]) = some (r, i, earlier) →
        exec (.tileMapEntryRead (some bs)) s = .next (s.completeFrame (invalidResult r (some i) earlier)).settle) ∧
      (∀ r : Result, (s.completeFrame r).tiles = s.tiles ∧ (s.completeFrame r).ports = s.ports ∧
        (s.completeFrame r).composer = s.composer) := by
  refine ⟨?_, exec_tileMapEntryRead_fails s es hr hj, fun bs => ⟨fun hmore => ?_, fun hlast r i earlier hfault => ?_,
    fun r => ⟨s.tiles_completeScene r, s.completeFrame_ports r, s.completeFrame_composer r⟩⟩⟩
  · unfold State.listRead
    rw [hr, hj]
    rfl
  · rw [exec_tileMapEntryRead s es hr hj, if_pos hmore]
  · rw [exec_tileMapEntryRead s es hr hj, if_neg (Nat.not_lt.mpr hlast)]
    unfold State.checkEntries
    rw [hfault]
    rfl

theorem tileMapEntryRead_replaces {bs : Vector Byte 16} (hlast : j.byte 20 ≤ es.length + 1)
    (hclear : entriesFault [] (es ++ [decodeEntry bs.toList]) = none) :
    exec (.tileMapEntryRead (some bs)) s = .next (s.replaceMap (es ++ [decodeEntry bs.toList])).settle := by
  rw [exec_tileMapEntryRead s es hr hj, if_neg (Nat.not_lt.mpr hlast)]
  unfold State.checkEntries
  rw [hclear]
  rfl

end

/-- Settles O22: the reads, the replacement, and the checks in words. -/
theorem tileMapEntriesReplaceTheMap : Obligations.TileMapEntriesReplaceTheMap := by
  refine ⟨fun s j es hr hj => tileMapEntryRead_judged hr hj, fun s j es bs hr hj hlast hclear => ?_,
    fun e f => ⟨e.inRange_iff, e.collision_eq f⟩, fun es r i met => entriesFault_iff es r i met,
    fun s es p => s.restartMask_iff es p⟩
  dsimp only
  have hexec := tileMapEntryRead_replaces hr hj hlast hclear
  have hinert := State.inert_of_entries hr (es ++ [decodeEntry bs.toList])
  generalize es ++ [decodeEntry bs.toList] = list at hexec hinert
  rw [State.replaceMap_eq] at hexec
  have htile (i : TileId) := s.tile_remapped list i
  obtain ⟨htiles, horder, hpointer, hshown, hepoch, hpresented⟩ := s.rewalled_fields list
  have hstays {p : PortId} := State.port_rewalled (s := s) (fs := list) (p := p)
  have hrestarts {p : PortId} := State.restartedFrom_rewalled hinert (p := p)
  have hcalm (a : Word) : s.calm a := .inl (State.inert_of_kind hinert (congrArg Prod.snd (s.remapped_fields list).2.2.2).symm)
  have hspares {a : Word} := State.spares_rewalled (s := s) (a := a) hinert
  generalize s.rewalled list = u at *
  let r := plainResult .ok (detailMasks (maskOf (fun i => mapGeometry list i != (s.tile i).geom))
    (maskOf (fun i => (mapGeometry list i).mapping == .mapped)) (maskOf (fun i => (mapGeometry list i).mapping == .excluded)))
  have hports : (u.completeFrame r).ports = u.ports := u.completeFrame_ports r
  have htilesDone : (u.completeFrame r).tiles = u.tiles := u.tiles_completeScene r
  have hcomposer : (u.completeFrame r).composer = u.composer := u.completeFrame_composer r
  refine ⟨_, hexec, fun i => ?_, ?_, ?_, ?_, ?_, ?_, fun p hp => ?_, fun p hp => ?_, u.completeFrame_frameRun r,
    fun hfind htest => State.result_completeFrame_of_spares (hcalm j.addr) hj hfind (hspares htest) r⟩
  · rw [State.tile_of_tiles htilesDone, State.tile_of_tiles htiles]
    exact htile i
  · rw [hcomposer]
    exact horder
  · rw [hcomposer]
    exact hpointer
  · rw [hcomposer]
    exact hshown
  · exact (u.completeFrame_epochCounter r).trans hepoch
  · exact (u.presented_completeScene r).trans hpresented
  · exact (State.port_of_ports hports p).trans (hstays hp)
  · rw [State.port_of_ports hports p, State.portMapped_of_tiles htilesDone]
    exact hrestarts hp

end Sys2Proof.Machine

/-! SUPPORT. A ceiling that is applied to a port (R92, R180): the port, TILE, and RETRIED of a VERIFY. -/
namespace Sys2Proof.Machine

/-! ## The port -/

/-- The grade that a ceiling leaves a port (R81, R92). -/
def Port.gradeUnder (x : Port) (ceiling : Grade) : Grade := (usableGrade x.identity.abilities ceiling).getD .l1

/-- A port to which a ceiling has been applied, but for its queue and its buffers (R92). -/
def Port.ceiled (x : Port) (c : Policy) : Port :=
  if x.grade.under c.ceiling then x
  else if x.link = .train then ({ x with attempts := 0 } : Port).training (x.gradeUnder c.ceiling) c.train
  else if x.link = .up then ({ x.countRetrain with attempts := 0 } : Port).leftUp.training (x.gradeUnder c.ceiling) c.train
  else x

section
variable {s : State} {p : PortId}

theorem State.applyCeiling_of_under (h : (s.port p).grade.under s.policy.ceiling = true) : s.applyCeiling p = s := if_pos h

theorem State.applyCeiling_of_train (h : ¬(s.port p).grade.under s.policy.ceiling = true) (hlink : (s.port p).link = .train) :
    s.applyCeiling p =
      (s.modPort p fun x => { x with attempts := 0 }).beginAttempt p ((s.port p).gradeUnder s.policy.ceiling) := by
  unfold State.applyCeiling
  dsimp only
  rw [if_neg h, hlink]
  rfl

theorem State.applyCeiling_of_up (h : ¬(s.port p).grade.under s.policy.ceiling = true) (hlink : (s.port p).link = .up) :
    s.applyCeiling p = ((((s.modPort p fun x => { x.countRetrain with attempts := 0 }).exitUp p).beginAttempt p
      ((s.port p).gradeUnder s.policy.ceiling)).noteRetrain p) := by
  unfold State.applyCeiling
  dsimp only
  rw [if_neg h, hlink]
  rfl

theorem State.applyCeiling_of_other (htrain : (s.port p).link ≠ .train) (hup : (s.port p).link ≠ .up) : s.applyCeiling p = s := by
  unfold State.applyCeiling
  dsimp only
  split
  · rfl
  · split
    · next hlink => exact absurd hlink htrain
    · next hlink => exact absurd hlink hup
    all_goals rfl

theorem State.spine_applyCeiling (s : State) (p : PortId) : ((s.applyCeiling p).port p).spine = ((s.port p).ceiled s.policy).spine := by
  unfold Port.ceiled
  by_cases hunder : (s.port p).grade.under s.policy.ceiling = true
  · rw [State.applyCeiling_of_under hunder, if_pos hunder]
  · rw [if_neg hunder]
    by_cases htrain : (s.port p).link = .train
    · rw [State.applyCeiling_of_train hunder htrain, if_pos htrain, State.port_beginAttempt, State.port_modPort_self]
      rfl
    · rw [if_neg htrain]
      by_cases hup : (s.port p).link = .up
      · have hpolicy := State.policy_of_anywhere (State.anywhere_of_elsewhere
          (State.elsewhere_exitUp (s.modPort p fun x => { x.countRetrain with attempts := 0 }) p))
        rw [State.applyCeiling_of_up hunder hup, if_pos hup, State.spine_of_quiet (State.quiet_noteRetrain _ p),
          State.port_beginAttempt, hpolicy]
        have hleft := State.spine_exitUp (s.modPort p fun x => { x.countRetrain with attempts := 0 }) p
        rw [State.port_modPort_self] at hleft
        exact Port.congr_spine (g := fun x => (x.training ((s.port p).gradeUnder s.policy.ceiling) s.policy.train).spine)
          (fun _ => rfl) hleft
      · rw [State.applyCeiling_of_other htrain hup, if_neg hup]

theorem State.test_applyCeiling (s : State) (p : PortId) :
    ((s.applyCeiling p).port p).test = none ∨ ((s.applyCeiling p).port p).test = (s.port p).test := by
  have h := congrArg Port.test (s.spine_applyCeiling p)
  have h : ((s.applyCeiling p).port p).test = ((s.port p).ceiled s.policy).test := h
  rw [h]
  unfold Port.ceiled
  split
  · exact .inr rfl
  · split
    · exact .inr rfl
    · split
      · exact .inl rfl
      · exact .inr rfl

/-- TILE is raised for an UP port above the ceiling (R88, R92). -/
theorem State.causes_applyCeiling (s : State) (p : PortId) : (s.applyCeiling p).causes =
    if (s.port p).link = .up ∧ ¬(s.port p).grade.under s.policy.ceiling = true then { s.causes with tile := true } else s.causes := by
  by_cases hunder : (s.port p).grade.under s.policy.ceiling = true
  · rw [State.applyCeiling_of_under hunder, if_neg fun h => h.2 hunder]
  · by_cases hup : (s.port p).link = .up
    · rw [State.applyCeiling_of_up hunder hup, if_pos ⟨hup, hunder⟩, State.causes_of_quiet (State.quiet_noteRetrain _ p)]
      exact State.causes_exitUp _ p
    · rw [if_neg fun h => hup h.1]
      by_cases htrain : (s.port p).link = .train
      · rw [State.applyCeiling_of_train hunder htrain]
        rfl
      · rw [State.applyCeiling_of_other htrain hup]

end

/-! ## RETRIED of a VERIFY (R180) -/

/-- A VERIFY that goes on: its outstanding targets, and RETRIED if it is set. -/
def VerifyRec.Onward (r v : VerifyRec) : Prop := v.outstanding = r.outstanding ∧ (r.flags.retried = true → v.flags.retried = true)

section
variable {s : State} {r : VerifyRec} (h : s.frameRun = .verify r)
include h

theorem State.frameRun_exitUp_of_verify (p : PortId) : (s.exitUp p).frameRun = .verify r := by
  have hfolded : ((s.port p).requeue.foldl State.noteTable (s.raiseTile.modPort p fun x =>
      { x.clearStream with silenceTimer := none, stability := 0 })).frameRun = .verify r := by
    generalize (s.port p).requeue = ks
    generalize hu : (s.raiseTile.modPort p fun x => { x.clearStream with silenceTimer := none, stability := 0 }) = u
    have hrun : u.frameRun = .verify r := by
      rw [← hu]
      exact h
    clear hu
    induction ks generalizing u with
    | nil => exact hrun
    | cons k ks ih =>
      refine ih _ ?_
      unfold State.noteTable State.modLut
      rw [hrun]
      exact hrun
  unfold State.exitUp State.endTest State.endTestWith
  dsimp only
  generalize (s.port p).requeue.foldl State.noteTable (s.raiseTile.modPort p fun x =>
    { x.clearStream with silenceTimer := none, stability := 0 }) = u at hfolded ⊢
  have hreleased : ((u.modPort p Port.flush).releaseEngine p).frameRun = .verify r := by
    unfold State.releaseEngine
    split
    · exact hfolded
    all_goals exact ite_keeps State.frameRun hfolded hfolded
  have hflushed : (u.flushPort p).frameRun = .verify r := by
    have hscene : ((u.modPort p Port.flush).releaseEngine p).scene = none := by
      unfold State.scene
      rw [hreleased]
    unfold State.flushPort
    dsimp only
    rw [hscene]
    exact hreleased
  split <;> exact hflushed

theorem State.noteRetrain_of_verify (p : PortId) : (s.noteRetrain p).frameRun = .verify (if (s.port p).link = .train ∧
    ∃ t, s.tileOfPort p = some t ∧ Mask.has r.outstanding t = true then { r with flags := r.flags.retry } else r) := by
  unfold State.noteRetrain
  by_cases hlink : (s.port p).link = .train
  · rw [if_pos hlink]
    cases ht : s.tileOfPort p with
    | none =>
      dsimp only
      rw [if_neg fun k => by obtain ⟨-, t, ht, -⟩ := k; cases ht]
      exact h
    | some t =>
      dsimp only
      unfold State.modVerify
      rw [h]
      dsimp only
      by_cases hout : Mask.has r.outstanding t = true
      · rw [if_pos hout, if_pos ⟨hlink, t, rfl, hout⟩]
      · rw [if_neg hout, if_neg fun k => by obtain ⟨-, i, hi, hhas⟩ := k; exact hout (Option.some.inj hi ▸ hhas)]
  · rw [if_neg hlink, if_neg fun k => hlink k.1]
    exact h

/-- A ceiling applied to a port of an outstanding target sets RETRIED where the port leaves UP for TRAIN. -/
theorem State.frameRun_applyCeiling (p : PortId) : ∃ v, (s.applyCeiling p).frameRun = .verify v ∧ r.Onward v ∧
    ((s.port p).link = .up → ¬(s.port p).grade.under s.policy.ceiling = true →
      ∀ t, s.tileOfPort p = some t → Mask.has r.outstanding t = true → v.flags.retried = true) := by
  have hstays : r.Onward r := ⟨rfl, id⟩
  by_cases hunder : (s.port p).grade.under s.policy.ceiling = true
  · rw [State.applyCeiling_of_under hunder]
    exact ⟨r, h, hstays, fun _ k => absurd hunder k⟩
  · by_cases hup : (s.port p).link = .up
    · rw [State.applyCeiling_of_up hunder hup]
      have hleft := State.frameRun_exitUp_of_verify (s := s.modPort p fun x => { x.countRetrain with attempts := 0 }) h p
      have htiles := State.tiles_of_elsewhere (State.elsewhere_exitUp (s.modPort p fun x => { x.countRetrain with attempts := 0 }) p)
      generalize (s.modPort p fun x => { x.countRetrain with attempts := 0 }).exitUp p = u at hleft htiles
      have htiles : u.tiles = s.tiles := htiles
      have hnoted := State.noteRetrain_of_verify (s := u.beginAttempt p ((s.port p).gradeUnder s.policy.ceiling)) hleft p
      refine ⟨_, hnoted, ?_, fun _ _ t ht hhas => ?_⟩
      · split
        · exact ⟨rfl, fun _ => rfl⟩
        · exact hstays
      · rw [if_pos ⟨by rw [State.port_beginAttempt]; rfl, t, (State.tileOfPort_of_tiles (s := s)
          (t := u.beginAttempt p ((s.port p).gradeUnder s.policy.ceiling)) htiles p).trans ht, hhas⟩]
        rfl
    · by_cases htrain : (s.port p).link = .train
      · rw [State.applyCeiling_of_train hunder htrain]
        exact ⟨r, h, hstays, fun k => absurd k hup⟩
      · rw [State.applyCeiling_of_other htrain hup]
        exact ⟨r, h, hstays, fun k => absurd k hup⟩

end

end Sys2Proof.Machine

/-! O30, a POLICY: its checks, and the store that is written (R92, R131, R166, R167). -/
namespace Sys2Proof.Machine

/-! ## The ceiling at every port (R92) -/

/-- The round of one port. -/
def State.ceilPort (p : PortId) (s : State) : State := s.applyCeiling p

/-- The policy is written and its ceiling applied to every port (R92, R167). -/
def State.policed (s : State) (c : Policy) : State := ({ s with policy := c } : State).forEach allIds State.ceilPort

section
variable (s : State) (c : Policy)

theorem State.elsewhere_ceilPort (p : PortId) (s : State) : (s.ceilPort p).elsewhere p = s.elsewhere p := s.elsewhere_applyCeiling p

theorem State.anywhere_policed : (s.policed c).anywhere = ({ s with policy := c } : State).anywhere :=
  State.anywhere_forEach State.elsewhere_ceilPort allIds _

theorem State.policed_fields : (s.policed c).policy = c ∧ (s.policed c).ref = s.ref ∧ (s.policed c).controlRun = s.controlRun := by
  have h := s.anywhere_policed c
  have hpolicy := State.policy_of_anywhere h
  have href := State.ref_of_anywhere h
  have hcontrol := State.controlRun_of_anywhere h
  generalize s.policed c = u at *
  exact ⟨hpolicy, href, hcontrol⟩

/-- A port's own round. -/
theorem State.port_policed (p : PortId) : ∃ u : State, u.policy = c ∧ u.tiles = s.tiles ∧ u.port p = s.port p ∧
    (s.policed c).port p = (u.applyCeiling p).port p ∧
    ∃ rest, s.policed c = (u.applyCeiling p).forEach rest State.ceilPort := by
  obtain ⟨u, -, hany, hport, hround, rest, -, hrest⟩ := State.port_forEach State.elsewhere_ceilPort nodup_allIds (mem_allIds p)
    ({ s with policy := c } : State) (P := fun _ => True) (fun _ _ _ _ => trivial) trivial
  have htiles := State.tiles_of_anywhere hany
  exact ⟨u, State.policy_of_anywhere hany, htiles, hport, hround, rest, hrest⟩

theorem State.spine_policed (p : PortId) : ((s.policed c).port p).spine = ((s.port p).ceiled c).spine := by
  obtain ⟨u, hpolicy, -, hport, hround, -⟩ := s.port_policed c p
  rw [hround, State.spine_applyCeiling, hport, hpolicy]

theorem State.port_policed_of_under {p : PortId} (h : (s.port p).grade.under c.ceiling = true) : (s.policed c).port p = s.port p := by
  obtain ⟨u, hpolicy, -, hport, hround, -⟩ := s.port_policed c p
  rw [hround, State.applyCeiling_of_under (by rw [hport, hpolicy]; exact h), hport]

theorem State.causes_policed {p : PortId} (hup : (s.port p).link = .up) (hover : ¬(s.port p).grade.under c.ceiling = true) :
    (s.policed c).causes.tile = true := by
  obtain ⟨u, hpolicy, -, hport, -, rest, hrest⟩ := s.port_policed c p
  rw [hrest]
  refine State.forEach_invariant (P := fun v => v.causes.tile = true) State.ceilPort (fun q v hv => ?_) rest _ ?_
  · unfold State.ceilPort
    rw [State.causes_applyCeiling]
    split
    · rfl
    · exact hv
  · rw [State.causes_applyCeiling, if_pos (by rw [hport, hpolicy]; exact ⟨hup, hover⟩)]

theorem State.spares_policed {a : Word} (h : s.untested a) : s.Spares a (s.policed c) := by
  have hloop := (State.forEach_invariant (P := fun v => ({ s with policy := c } : State).Spares a v ∧ v.untested a) State.ceilPort
    (fun p v hv => ⟨hv.1.trans (State.spares_applyCeiling a v (hv.2 p)),
      State.untested_of_elsewhere (v.elsewhere_applyCeiling p) (v.test_applyCeiling p) hv.2⟩) allIds _ ⟨State.Spares.refl a _, h⟩).1
  exact (State.spares_of_jobRun (t := { s with policy := c }) rfl).trans hloop

variable {s c}

theorem VerifyRec.Onward.trans {r v w : VerifyRec} (h : r.Onward v) (k : v.Onward w) : r.Onward w := by
  obtain ⟨hout, hretried⟩ := h
  obtain ⟨hout', hretried'⟩ := k
  exact ⟨hout'.trans hout, fun hr => hretried' (hretried hr)⟩

theorem State.frameRun_ceilPorts {r : VerifyRec} (ids : List PortId) (h : s.frameRun = .verify r) :
    ∃ v, (s.forEach ids State.ceilPort).frameRun = .verify v ∧ r.Onward v := by
  refine State.forEach_invariant (P := fun u => ∃ v, u.frameRun = .verify v ∧ r.Onward v) State.ceilPort (fun p u hu => ?_) ids s
    ⟨r, h, rfl, id⟩
  obtain ⟨v, hv, honward⟩ := hu
  obtain ⟨w, hw, hnext, -⟩ := State.frameRun_applyCeiling hv p
  exact ⟨w, hw, honward.trans hnext⟩

/-- RETRIED of a VERIFY that has the tile of a retrained port outstanding (R180). -/
theorem State.retried_policed {p : PortId} {i : TileId} {r : VerifyRec} (hup : (s.port p).link = .up)
    (hover : ¬(s.port p).grade.under c.ceiling = true) (hi : s.tileOfPort p = some i) (hr : s.frameRun = .verify r)
    (hout : Mask.has r.outstanding i = true) : ∃ v, (s.policed c).frameRun = .verify v ∧ v.flags.retried = true := by
  obtain ⟨u, ⟨v, hv, honward⟩, hany, hport, -, rest, -, hrest⟩ := State.port_forEach State.elsewhere_ceilPort nodup_allIds
    (mem_allIds p) ({ s with policy := c } : State) (P := fun u => ∃ v, u.frameRun = .verify v ∧ r.Onward v)
    (fun q u _ hu => by
      obtain ⟨v, hv, honward⟩ := hu
      obtain ⟨w, hw, hnext, -⟩ := State.frameRun_applyCeiling hv q
      exact ⟨w, hw, honward.trans hnext⟩) ⟨r, hr, rfl, id⟩
  have hport : u.port p = s.port p := hport
  obtain ⟨w, hw, -, hset⟩ := State.frameRun_applyCeiling hv p
  have hretried := hset (by rw [hport]; exact hup) (by rw [hport, State.policy_of_anywhere hany]; exact hover) i
    ((State.tileOfPort_of_tiles (State.tiles_of_anywhere hany) p).trans hi) (by rw [honward.1]; exact hout)
  obtain ⟨x, hx, -, hkept⟩ := State.frameRun_ceilPorts rest hw
  refine ⟨x, ?_, hkept hretried⟩
  unfold State.policed
  rw [hrest]
  exact hx

end

/-! ## The fallback that a policy enables (R131) -/

section
variable (s : State)

theorem State.fallBack_eq : s.fallBack = { s.issueFrame with
    ref := { s.issueFrame.ref with state := .intern, source := .intern, frameTimer := some 0, lossTimer := none }
    causes := { s.issueFrame.causes with reference := true } } := rfl

theorem State.policy_failSafeEnabled : s.failSafeEnabled.policy = s.policy := by
  refine ite_keeps State.policy ?_ rfl
  have hquiet := congrArg State.policy s.quiet_issueFrame
  rw [State.fallBack_eq]
  generalize s.issueFrame = u at *
  exact hquiet

theorem State.spine_failSafeEnabled {p : PortId} (h : (s.port p).link ≠ .up) : (s.failSafeEnabled.port p).spine = (s.port p).spine := by
  refine ite_keeps (fun u : State => (u.port p).spine) ?_ rfl
  have hspine := State.spine_of_quiet s.quiet_issueFrame p
  have hport : (s.mapPorts fun _ x => x.takeFrame (s.ref.frameNumber + 1)).port p = s.port p :=
    (s.port_mapPorts _ p).trans (Port.takeFrame_of_ne h _)
  have hspine := hspine.trans (congrArg Port.spine hport)
  rw [State.fallBack_eq]
  generalize s.issueFrame = u at *
  exact hspine

theorem State.causes_failSafeEnabled (h : s.causes.tile = true) : s.failSafeEnabled.causes.tile = true := by
  refine ite_keeps (fun u : State => u.causes.tile) ?_ h
  have hquiet := congrArg State.causes s.quiet_issueFrame
  rw [State.fallBack_eq]
  generalize s.issueFrame = u at *
  have hquiet : u.causes = s.causes := hquiet
  rw [hquiet]
  exact h

theorem State.frameRun_failSafeEnabled {r : VerifyRec} (h : s.frameRun = .verify r) : s.failSafeEnabled.frameRun = .verify r := by
  refine ite_keeps State.frameRun ?_ h
  rw [State.fallBack_of_no_scene (by unfold State.scene; rw [h])]
  exact h

theorem State.ref_failSafeEnabled (hstate : s.ref.state = .stalled) (hsafe : s.policy.failSafe = true) :
    s.failSafeEnabled.ref.state = .intern ∧ s.failSafeEnabled.ref.source = .intern ∧
    s.failSafeEnabled.ref.frameNumber = s.ref.frameNumber + 1 ∧ s.failSafeEnabled.causes.reference = true := by
  have href := s.ref_issueFrame
  have hback : s.failSafeEnabled = s.fallBack := if_pos ⟨hstate, hsafe⟩
  rw [hback, State.fallBack_eq]
  generalize s.issueFrame = u at *
  refine ⟨rfl, rfl, ?_, rfl⟩
  dsimp only
  rw [href]

end

/-! ## The checks (R166) -/

theorem gradeOf_eq_none_iff (n : Nat) : gradeOf n = none ↔ ¬(n = 1 ∨ n = 2 ∨ n = 4) := by
  unfold gradeOf
  simp only [beq_iff_eq]
  split
  · next h => simp [h]
  · split
    · next h => simp [h]
    · split
      · next h => simp [h]
      · next h1 h2 h4 => simp [h1, h2, h4]

theorem gradeOf_code {n : Nat} (h : n = 1 ∨ n = 2 ∨ n = 4) : ((gradeOf n).getD .l1).code = n := by
  rcases h with rfl | rfl | rfl <;> rfl

section
variable {s : State} {j : Job} (hs : s.startedControl .policy = some j)
include hs

theorem exec_policy_invalid {n : Nat} (h : policyFault j = some n) :
    exec .policy s = .next (s.completeControl (invalidResult .badField (some n) none)).settle := by
  simp only [exec, execPolicy, hs, h, State.settled]

theorem exec_policy_writes (h : policyFault j = none) : exec .policy s = .next (((s.policed (newPolicy j)).failSafeEnabled).completeControl
    (plainResult .ok (detailPolicy (maskOf (s.retrained (newPolicy j).ceiling)) (s.ref.state == .stalled && (newPolicy j).failSafe)))).settle := by
  simp only [exec, execPolicy, hs, h, State.settled]
  rfl

end

/-- The fields in their order (R166). -/
theorem policyFault_eq (j : Job) : policyFault j =
    if ¬j.byte 16 ≤ 15 then some 1
    else if ¬(1 ≤ j.byte 17 ∧ j.byte 17 ≤ 8) then some 2
    else if ¬(j.byte 18 = 1 ∨ j.byte 18 = 2 ∨ j.byte 18 = 4) then some 3
    else if ¬(20 ≤ j.half 20 ∧ j.half 20 ≤ 1000) then some 4
    else if ¬(10 ≤ j.half 22 ∧ j.half 22 ≤ 1000) then some 5
    else if ¬(500 ≤ j.half 24 ∧ j.half 24 ≤ 20000) then some 6
    else none := by
  have hout (a b n : Nat) : (n < a ∨ b < n) = ¬(a ≤ n ∧ n ≤ b) := propext (by omega)
  have hgrade := propext (gradeOf_eq_none_iff (j.byte 18))
  unfold policyFault
  simp only [hout, hgrade, Nat.not_le]

/-! ## The state that a POLICY leaves (R167) -/

section
variable {s : State} {c : Policy} {t : State}
  (hkept : t.ports = (s.policed c).failSafeEnabled.ports ∧ t.frameRun = (s.policed c).failSafeEnabled.frameRun ∧
    t.causes = (s.policed c).failSafeEnabled.causes ∧ t.ref = (s.policed c).failSafeEnabled.ref)
include hkept

/-- Without a fallback, the reference and a port under the ceiling are as they were. -/
theorem State.policy_without_fallback (hno : s.ref.state ≠ .stalled ∨ c.failSafe = false) : t.ref = s.ref ∧
    ∀ p : PortId, (s.port p).grade.under c.ceiling = true → t.port p = s.port p := by
  obtain ⟨hports, -, -, href⟩ := hkept
  obtain ⟨hpolicy, hrefKept, -⟩ := s.policed_fields c
  have hsame : (s.policed c).failSafeEnabled = s.policed c := by
    refine if_neg fun h => ?_
    rw [hpolicy, hrefKept] at h
    rcases hno with hstate | hsafe
    · exact hstate h.1
    · exact Bool.false_ne_true (hsafe.symm.trans h.2)
  rw [hsame] at hports href
  exact ⟨href.trans hrefKept, fun p hp => (State.port_of_ports hports p).trans (s.port_policed_of_under c hp)⟩

theorem State.policy_with_fallback (hstate : s.ref.state = .stalled) (hsafe : c.failSafe = true) : t.ref.state = .intern ∧
    t.ref.source = .intern ∧ t.ref.frameNumber = s.ref.frameNumber + 1 ∧ t.causes.reference = true := by
  obtain ⟨-, -, hcauses, href⟩ := hkept
  obtain ⟨hpolicy, hrefKept, -⟩ := s.policed_fields c
  have hback := (s.policed c).ref_failSafeEnabled (by rw [hrefKept]; exact hstate) (by rw [hpolicy]; exact hsafe)
  rw [hcauses, href, ← hrefKept]
  exact hback

variable {p : PortId} {g : Grade} (hover : ¬(s.port p).grade.under c.ceiling = true)
  (hg : usableGrade (s.port p).identity.abilities c.ceiling = some g)
include hover

/-- A port above the ceiling that leaves its grade is in TRAIN, and a frame start finds it so. -/
theorem State.spine_policy (hlink : (s.port p).link = .train ∨ (s.port p).link = .up) :
    (t.port p).spine = ((s.port p).ceiled c).spine := by
  obtain ⟨hports, -⟩ := hkept
  have htrains : ((s.port p).ceiled c).link = .train := by
    unfold Port.ceiled
    rw [if_neg hover]
    rcases hlink with h | h
    · rw [if_pos h]
      rfl
    · rw [if_neg (by rw [h]; decide), if_pos h]
      rfl
  have hspine := s.spine_policed c p
  have hnot : ((s.policed c).port p).link ≠ .up := by
    rw [Port.link_of_spine hspine, htrains]
    decide
  rw [State.port_of_ports hports p, State.spine_failSafeEnabled _ hnot, hspine]

include hg

theorem State.policy_retrains (hup : (s.port p).link = .up) : (t.port p).link = .train ∧ (t.port p).grade = g ∧
    (t.port p).attempts = 0 ∧ (t.port p).ctr.retrains = satInc (s.port p).ctr.retrains ∧
    (t.port p).trainTimer = some c.train ∧ (t.port p).window = [] ∧ t.causes.tile = true ∧
    (∀ i r, s.tileOfPort p = some i → s.frameRun = .verify r → Mask.has r.outstanding i = true →
      ∃ u, t.frameRun = .verify u ∧ u.flags.retried = true) := by
  have hspine := State.spine_policy hkept hover (.inr hup)
  obtain ⟨-, hrun, hcauses, -⟩ := hkept
  have hceiled : (s.port p).ceiled c = ({ (s.port p).countRetrain with attempts := 0 } : Port).leftUp.training g c.train := by
    unfold Port.ceiled Port.gradeUnder
    rw [if_neg hover, if_neg (by rw [hup]; decide), if_pos hup, hg]
    rfl
  rw [hceiled] at hspine
  have hfield {α : Type} (f : Port → α) := congrArg f hspine
  have htile := State.causes_failSafeEnabled _ (s.causes_policed c hup hover)
  refine ⟨Port.link_of_spine hspine, hfield Port.grade, hfield Port.attempts, hfield (fun x => x.ctr.retrains), hfield Port.trainTimer,
    Port.window_of_spine hspine, by rw [hcauses]; exact htile, fun i r hi hr hout => ?_⟩
  obtain ⟨u, hu, hretried⟩ := State.retried_policed hup hover hi hr hout
  exact ⟨u, hrun.trans (State.frameRun_failSafeEnabled _ hu), hretried⟩

theorem State.policy_restarts (htrain : (s.port p).link = .train) : (t.port p).link = .train ∧ (t.port p).grade = g ∧
    (t.port p).attempts = 0 ∧ (t.port p).lockCount = 0 ∧ (t.port p).trainTimer = some c.train := by
  have hspine := State.spine_policy hkept hover (.inl htrain)
  have hceiled : (s.port p).ceiled c = ({ s.port p with attempts := 0 } : Port).training g c.train := by
    unfold Port.ceiled Port.gradeUnder
    rw [if_neg hover, if_pos htrain, hg]
    rfl
  rw [hceiled] at hspine
  have hfield {α : Type} (f : Port → α) := congrArg f hspine
  exact ⟨Port.link_of_spine hspine, hfield Port.grade, hfield Port.attempts, hfield Port.lockCount, hfield Port.trainTimer⟩

end

/-- Settles O30: the checks in their order, then the store, the ports, the fallback and the job. -/
theorem policyWritesTheStore : Obligations.PolicyWritesTheStore := by
  intro s j hs
  dsimp only
  obtain ⟨hj, -, -⟩ := (s.startedControl_eq_some_iff .policy j).mp hs
  have hfault := policyFault_eq j
  refine ⟨fun h1 => ?_, fun h1 h2 => ?_, fun h1 h2 h3 => ?_, fun h1 h2 h3 h4 => ?_, fun h1 h2 h3 h4 h5 => ?_,
    fun h1 h2 h3 h4 h5 h6 => ?_, fun h1 h2 h3 h4 h5 h6 => ?_⟩
  · exact exec_policy_invalid hs (hfault.trans (if_pos h1))
  · rw [if_neg (not_not_intro h1), if_pos h2] at hfault
    exact exec_policy_invalid hs hfault
  · rw [if_neg (not_not_intro h1), if_neg (not_not_intro h2), if_pos h3] at hfault
    exact exec_policy_invalid hs hfault
  · rw [if_neg (not_not_intro h1), if_neg (not_not_intro h2), if_neg (not_not_intro h3), if_pos h4] at hfault
    exact exec_policy_invalid hs hfault
  · rw [if_neg (not_not_intro h1), if_neg (not_not_intro h2), if_neg (not_not_intro h3), if_neg (not_not_intro h4), if_pos h5] at hfault
    exact exec_policy_invalid hs hfault
  · rw [if_neg (not_not_intro h1), if_neg (not_not_intro h2), if_neg (not_not_intro h3), if_neg (not_not_intro h4),
      if_neg (not_not_intro h5), if_pos h6] at hfault
    exact exec_policy_invalid hs hfault
  · rw [if_neg (not_not_intro h1), if_neg (not_not_intro h2), if_neg (not_not_intro h3), if_neg (not_not_intro h4),
      if_neg (not_not_intro h5), if_neg (not_not_intro h6)] at hfault
    have hexec := exec_policy_writes hs hfault
    have hcode : (newPolicy j).ceiling.code = j.byte 18 := gradeOf_code h3
    have hunder (g : Grade) : g.under (newPolicy j).ceiling = decide (g.code ≤ j.byte 18) := by
      unfold Grade.under
      rw [hcode]
    have hretrained : s.retrained (newPolicy j).ceiling = fun p =>
        decide (j.byte 18 < (s.port p).grade.code) && ((s.port p).link == .up || (s.port p).link == .train) := by
      funext p
      unfold State.retrained
      dsimp only
      rw [hunder, Bool.or_comm, ← decide_not]
      simp only [Nat.not_le]
    rw [hretrained] at hexec
    obtain ⟨hpolicy, -, hcontrol⟩ := s.policed_fields (newPolicy j)
    have hpolicy := (State.policy_failSafeEnabled (s.policed (newPolicy j))).trans hpolicy
    have hspares {a : Word} (h : s.untested a) :=
      (s.spares_policed (newPolicy j) h).trans (State.spares_failSafeEnabled a (s.policed (newPolicy j)))
    have hkept {t : State} := State.policy_without_fallback (s := s) (c := newPolicy j) (t := t)
    have hback {t : State} := State.policy_with_fallback (s := s) (c := newPolicy j) (t := t)
    have hups {t : State} {p : PortId} {g : Grade} := State.policy_retrains (s := s) (c := newPolicy j) (t := t) (p := p) (g := g)
    have htrains {t : State} {p : PortId} {g : Grade} := State.policy_restarts (s := s) (c := newPolicy j) (t := t) (p := p) (g := g)
    generalize (s.policed (newPolicy j)).failSafeEnabled = u at *
    have hover {p : PortId} (h : j.byte 18 < (s.port p).grade.code) : ¬(s.port p).grade.under (newPolicy j).ceiling = true := by
      rw [hunder]
      simpa using h
    obtain ⟨js, hdone⟩ := u.completeControl_keeps (plainResult .ok (detailPolicy
      (maskOf (fun p => decide (j.byte 18 < (s.port p).grade.code) && ((s.port p).link == .up || (s.port p).link == .train)))
      (s.ref.state == .stalled && (newPolicy j).failSafe)))
    have hresult (hnodup : (s.jobs.map Job.addr).Nodup) (htest : s.untested j.addr) :=
      State.result_of_spares hnodup hj (hspares htest) (plainResult .ok (detailPolicy
        (maskOf (fun p => decide (j.byte 18 < (s.port p).grade.code) && ((s.port p).link == .up || (s.port p).link == .train)))
        (s.ref.state == .stalled && (newPolicy j).failSafe)))
    generalize u.completeControl (plainResult .ok (detailPolicy
      (maskOf (fun p => decide (j.byte 18 < (s.port p).grade.code) && ((s.port p).link == .up || (s.port p).link == .train)))
      (s.ref.state == .stalled && (newPolicy j).failSafe))) = t at *
    have hfields : t.ports = u.ports ∧ t.frameRun = u.frameRun ∧ t.causes = u.causes ∧ t.ref = u.ref := by
      rw [hdone]
      exact ⟨rfl, rfl, rfl, rfl⟩
    have hstore : t.policy = newPolicy j := by
      rw [hdone]
      exact hpolicy
    refine ⟨t, hexec, ?_, ?_, ?_, ?_, ?_, ?_, ?_, ?_, fun hno => ?_, fun p g hcodeOver hg => ⟨fun hup => ?_, fun htrain => ?_⟩,
      fun hstate hsafe => hback hfields hstate hsafe, hresult⟩
    iterate 2
      · rw [hstore]
        rfl
    · rw [hstore]
      exact hcode
    iterate 4
      · rw [hstore]
        rfl
    · rw [hdone]
    · obtain ⟨href, hports⟩ := hkept hfields hno
      exact ⟨href, fun p hp => hports p (by rw [hunder]; simpa using hp)⟩
    · rw [hstore] at hg
      exact hups hfields (hover hcodeOver) hg hup
    · rw [hstore] at hg
      exact htrains hfields (hover hcodeOver) hg htrain

end Sys2Proof.Machine

/-! O42, the offer exchange opens (R78–R80); O44, training (R83, R84, R87). -/
namespace Sys2Proof.Machine

section
variable (s : State) (p : PortId)

theorem State.modPort_eq (f : Port → Port) : s.modPort p f = s.setPort p (f (s.port p)) := rfl

theorem State.elsewhere_enterUp (n : Byte) : (s.enterUp p n).elsewhere p = s.elsewhere p := by
  unfold State.enterUp
  rw [State.elsewhere_raiseTile, State.elsewhere_modPort]

theorem State.enterOffer_port : ((s.enterOffer p).port p).link = .offer ∧ ((s.enterOffer p).port p).offer = none ∧
    ((s.enterOffer p).port p).offerTimer = some 10000000 ∧ ((s.enterOffer p).port p).offerRepeat = some 1000000 ∧
    ((s.enterOffer p).port p).offersDue = 1 ∧ ((s.enterOffer p).port p).offeredCeiling = s.policy.ceiling ∧
    ((s.enterOffer p).port p).tileSeen = false ∧ ((s.enterOffer p).port p).seenSent = false ∧
    ((s.enterOffer p).port p).beaconTimer = none ∧ ((s.enterOffer p).port p).trainTimer = none ∧
    ((s.enterOffer p).port p).attempts = (s.port p).attempts ∧ ((s.enterOffer p).port p).grade = (s.port p).grade ∧
    ((s.enterOffer p).port p).tally = (s.port p).tally ∧ ((s.enterOffer p).port p).ctr = (s.port p).ctr ∧
    ((s.enterOffer p).port p).ind = (s.port p).ind := by
  have hspine := s.spine_enterOffer p
  have hfield {α : Type} (f : Port → α) := congrArg f hspine
  exact ⟨hfield Port.link, hfield Port.offer, hfield Port.offerTimer, hfield Port.offerRepeat, hfield Port.offersDue,
    hfield Port.offeredCeiling, hfield Port.tileSeen, hfield Port.seenSent, hfield Port.beaconTimer, hfield Port.trainTimer,
    hfield Port.attempts, hfield Port.grade, hfield Port.tally, hfield Port.ctr, hfield Port.ind⟩

theorem exec_opens (h : (s.port p).link = .listen ∨ (s.port p).link = .train) :
    exec (.beaconReceived p) s = .next (s.enterOffer p).settle ∧
    ∀ o, exec (.offerReceived p o) s = .next ((s.enterOffer p).takeOffer p o).settle := by
  rcases h with h | h <;>
    exact ⟨by simp only [exec, execBeaconReceived, h, State.settled], fun o => by simp only [exec, execOfferReceived, h, State.settled]⟩

theorem State.elsewhere_restartOffer : (s.restartOffer p).elsewhere p = s.elsewhere p := by
  unfold State.restartOffer
  rw [State.elsewhere_enterListen, State.elsewhere_modPort]

/-- The exchange is restarted (R80). -/
theorem State.spine_restartOffer : ((s.restartOffer p).port p).spine =
    ({ s.port p with ind := { (s.port p).ind with offerRestarted := true } } : Port).listening.spine := by
  unfold State.restartOffer
  rw [State.spine_enterListen, State.port_modPort_self]

end

/-- Settles O42. -/
theorem beaconsOpenAnExchange : Obligations.BeaconsOpenAnExchange := by
  intro s p
  refine ⟨fun h => ?_, fun hlink htimer => ?_, fun hlink htimer => ?_, fun hlink htimer => ?_⟩
  · obtain ⟨hbeacon, hoffer⟩ := exec_opens s p h
    have helse := s.elsewhere_enterOffer p
    have hport := s.enterOffer_port p
    generalize s.enterOffer p = t at *
    obtain ⟨hlink, hnone, htimer, hrepeat, hdue, hceiling, hseen, hsent, hbeaconTimer, htrain, hattempts, hgrade, htally, hctr, hind⟩ := hport
    exact ⟨t, hbeacon, hoffer, hlink, hnone, htimer, hrepeat, hdue, hceiling, hseen, hsent, hbeaconTimer, htrain, hattempts, hgrade,
      htally, hctr, hind,
      fun q hq => State.port_of_elsewhere helse hq, State.tiles_of_elsewhere helse⟩
  · simp only [exec, execBeaconTimer, hlink, htimer, and_self, if_true, State.settled, State.modPort_eq, Config.repeatInterval]
  · simp only [exec, execOfferRepeatTimer, hlink, htimer, and_self, if_true, State.settled, State.modPort_eq, Config.repeatInterval]
  · have hexec : exec (.offerTimeout p) s = .next (s.restartOffer p).settle := by
      simp only [exec, execOfferTimeout, hlink, htimer, and_self, if_true, State.settled]
    have helse := s.elsewhere_restartOffer p
    have hspine := s.spine_restartOffer p
    have hfield {α : Type} (f : Port → α) := congrArg f hspine
    generalize s.restartOffer p = t at *
    exact ⟨t, hexec, hfield Port.link, hfield Port.offer, hfield Port.offerTimer, hfield Port.beaconDue, hfield Port.beaconTimer,
      hfield Port.ind, hfield Port.ctr, fun q hq => State.port_of_elsewhere helse hq, State.tiles_of_elsewhere helse⟩

/-! ## Training (R83) -/

section
variable {s : State} {p : PortId} (hlink : (s.port p).link = .train)
include hlink

theorem exec_trainReceived (grade : Byte) (locked : Bool) (expected : Byte) : exec (.trainReceived p grade locked expected) s =
    .next (s.takeTrain p grade locked expected).settle := by
  simp only [exec, execTrainReceived, hlink, State.settled]

theorem exec_trainTimeout (htimer : (s.port p).trainTimer.isSome = true) :
    exec (.trainTimeout p) s = .next (s.countFailure p).settle := by
  simp only [exec, execTrainTimeout, hlink, htimer, and_self, if_true, State.settled]

end

/-- The lock count and the lock after a tile TRAIN (R83). -/
theorem State.takeTrain_eq (s : State) (p : PortId) (grade : Byte) (locked : Bool) (expected : Byte) :
    let n := if grade.toNat = (s.port p).grade.code then min ((s.port p).lockCount + 1) 8 else 0
    let lockedNow := (s.port p).locked || decide (n = 8)
    s.takeTrain p grade locked expected = if lockedNow && locked then
      (s.setPort p { s.port p with lockCount := n, locked := lockedNow }).enterUp p expected
      else s.setPort p { s.port p with lockCount := n, locked := lockedNow } := rfl

theorem trainReceived_locks (s : State) (p : PortId) (hlink : (s.port p).link = .train) (grade : Byte) (locked : Bool) (expected : Byte) :
    let n := if grade.toNat = (s.port p).grade.code then min ((s.port p).lockCount + 1) 8 else 0
    let lockedNow := (s.port p).locked || decide (n = 8)
    ((lockedNow && locked) = false → exec (.trainReceived p grade locked expected) s =
      .next (State.settle (s.setPort p { s.port p with lockCount := n, locked := lockedNow }))) ∧
    ((lockedNow && locked) = true → ∃ t : State, exec (.trainReceived p grade locked expected) s = .next t.settle ∧
      (t.port p).link = .up ∧ (t.port p).nextSeq = expected ∧ (t.port p).stability = 0 ∧ (t.port p).trainTimer = none ∧
      (t.port p).silenceTimer = some (s.policy.silenceMs * 1000000) ∧ (t.port p).grade = (s.port p).grade ∧
      (t.port p).queue = (s.port p).queue ∧ (t.port p).window = (s.port p).window ∧ t.causes = { s.causes with tile := true } ∧
      (∀ q : PortId, q ≠ p → t.port q = s.port q) ∧ t.tiles = s.tiles) := by
  have hexec := exec_trainReceived hlink grade locked expected
  have htake := s.takeTrain_eq p grade locked expected
  dsimp only at htake ⊢
  generalize (if grade.toNat = (s.port p).grade.code then min ((s.port p).lockCount + 1) 8 else 0) = n at htake ⊢
  generalize ((s.port p).locked || decide (n = 8)) = lockedNow at htake ⊢
  refine ⟨fun h => ?_, fun h => ?_⟩
  · rw [hexec, htake, if_neg (by rw [h]; decide)]
  · rw [htake, if_pos h] at hexec
    have hport := State.port_enterUp (s.setPort p { s.port p with lockCount := n, locked := lockedNow }) p expected
    rw [State.port_setPort_self] at hport
    refine ⟨_, hexec, ?_, ?_, ?_, ?_, ?_, ?_, ?_, ?_, rfl, fun q hq => ?_, rfl⟩
    iterate 8
      · rw [hport]
        rfl
    · exact (State.port_of_elsewhere (State.elsewhere_enterUp _ p expected) hq).trans (State.port_setPort_ne _ (Ne.symm hq) _)

/-! ## A failed attempt (R84) -/

section
variable (s : State) (p : PortId)

theorem State.countFailure_again (h : (s.port p).attempts + 1 < s.policy.downshift) : s.countFailure p =
    (s.modPort p fun x => { x with attempts := (s.port p).attempts + 1 }).beginAttempt p (s.port p).grade := by
  unfold State.countFailure
  dsimp only
  rw [State.port_modPort_self]
  exact if_pos h

theorem State.countFailure_down (h : s.policy.downshift ≤ (s.port p).attempts + 1) {g : Grade} (hg : (s.port p).grade.down = some g) :
    s.countFailure p = (((s.modPort p fun x => { x with attempts := (s.port p).attempts + 1 }).modPort p fun x => { x with
      attempts := 0
      ind := { x.ind with downshifted := true }
      ctr := { x.ctr with downshifts := satInc x.ctr.downshifts } }).noteDownshift p).beginAttempt p g := by
  unfold State.countFailure
  dsimp only
  rw [State.port_modPort_self, hg]
  exact if_neg (Nat.not_lt.mpr h)

theorem State.countFailure_lost (h : s.policy.downshift ≤ (s.port p).attempts + 1) (hg : (s.port p).grade.down = none) :
    s.countFailure p = (s.modPort p fun x => { x with attempts := (s.port p).attempts + 1 }).enterLost p .trainExhausted := by
  unfold State.countFailure
  dsimp only
  rw [State.port_modPort_self, hg]
  exact if_neg (Nat.not_lt.mpr h)

/-- DOWNSHIFTED of the frame job that has the port's tile (R68, R123, R180). -/
theorem State.frameRun_noteDownshift {i : TileId} (hi : s.tileOfPort p = some i) :
    (∀ r, s.frameRun = .scene r → Mask.has r.participants i = true →
      (s.noteDownshift p).frameRun = .scene { r with flags := { r.flags with downshifted := true } }) ∧
    (∀ r, s.frameRun = .values r → Mask.has r.targets i = true →
      (s.noteDownshift p).frameRun = .values { r with flags := { r.flags with downshifted := true } }) ∧
    (∀ r, s.frameRun = .lut r → Mask.has r.targets i = true →
      (s.noteDownshift p).frameRun = .lut { r with flags := { r.flags with downshifted := true } }) ∧
    (∀ r, s.frameRun = .verify r → Mask.has r.targets i = true →
      (s.noteDownshift p).frameRun = .verify { r with flags := { r.flags with downshifted := true } }) := by
  unfold State.noteDownshift State.modScene State.modLut State.modVerify
  rw [hi]
  dsimp only
  refine ⟨fun r hr hhas => ?_, fun r hr hhas => ?_, fun r hr hhas => ?_, fun r hr hhas => ?_⟩
  all_goals
    simp only [hr, hhas, if_true]
    rfl

theorem State.policy_noteDownshift : (s.noteDownshift p).policy = s.policy := by
  have h := congrArg State.policy (s.quiet_noteDownshift p)
  exact h

theorem State.causes_enterLost (c : LostCause) : (s.enterLost p c).causes = { s.causes with tile := true } := by
  have hleft := State.causes_of_quiet ((State.quiet_portLeft ((s.raiseTile.modPort p fun x => x.givenUp c).flushPort p) p).trans
    (State.quiet_flushPort _ p))
  have hraised : (s.raiseTile.modPort p fun x => x.givenUp c).causes = { s.causes with tile := true } := rfl
  have hgone : (((s.raiseTile.modPort p fun x => x.givenUp c).flushPort p).portLeft p).causes = { s.causes with tile := true } :=
    hleft.trans hraised
  unfold State.enterLost
  dsimp only
  split
  · exact hgone
  · exact (State.causes_of_quiet (State.quiet_lostTile _ _)).trans hgone

end

/-- Settles O44: the lock, the failed attempts, the stability. -/
theorem trainingLocksOrFails : Obligations.TrainingLocksOrFails := by
  intro s p
  refine ⟨fun hlink grade locked expected => trainReceived_locks s p hlink grade locked expected, fun hlink htimer => ?_,
    fun hstate hup hstable => ?_, fun hstate => ?_⟩
  · have hexec := exec_trainTimeout hlink htimer
    refine ⟨fun hmore => ?_, fun hlimit g hg => ?_, fun hlimit hg => ?_⟩
    · rw [s.countFailure_again p hmore] at hexec
      have hport := State.port_beginAttempt (s.modPort p fun x => { x with attempts := (s.port p).attempts + 1 }) p (s.port p).grade
      rw [State.port_modPort_self] at hport
      generalize (s.modPort p fun x => { x with attempts := (s.port p).attempts + 1 }).beginAttempt p (s.port p).grade = t at *
      have hfield {α : Type} (f : Port → α) := congrArg f hport
      exact ⟨t, hexec, ⟨hfield Port.link, hfield Port.grade, hfield Port.lockCount, hfield Port.locked, hfield Port.trainTimer⟩,
        hfield Port.attempts, hfield Port.ctr⟩
    · rw [s.countFailure_down p hlimit hg] at hexec
      generalize hu : ((s.modPort p fun x => { x with attempts := (s.port p).attempts + 1 }).modPort p fun x => { x with
        attempts := 0
        ind := { x.ind with downshifted := true }
        ctr := { x.ctr with downshifts := satInc x.ctr.downshifts } }) = u at hexec
      have huport : u.port p = { s.port p with
          attempts := 0
          ind := { (s.port p).ind with downshifted := true }
          ctr := { (s.port p).ctr with downshifts := satInc (s.port p).ctr.downshifts } } := by
        rw [← hu, State.port_modPort_self, State.port_modPort_self]
      have hukept : u.policy = s.policy ∧ u.frameRun = s.frameRun ∧ u.tiles = s.tiles := by
        rw [← hu]
        exact ⟨rfl, rfl, rfl⟩
      clear hu
      obtain ⟨hpolicy, hrun, htiles⟩ := hukept
      have hspine := State.spine_of_quiet (u.quiet_noteDownshift p) p
      have hport := State.port_beginAttempt (u.noteDownshift p) p g
      rw [u.policy_noteDownshift p, hpolicy] at hport
      have hspine' : (((u.noteDownshift p).beginAttempt p g).port p).spine = ((u.port p).training g s.policy.train).spine := by
        rw [hport]
        exact Port.congr_spine (g := fun x => (x.training g s.policy.train).spine) (fun _ => rfl) hspine
      rw [huport] at hspine'
      have hfield {α : Type} (f : Port → α) := congrArg f hspine'
      have hnoted {i : TileId} (hi : s.tileOfPort p = some i) :=
        u.frameRun_noteDownshift p ((State.tileOfPort_of_tiles htiles p).trans hi)
      rw [hrun] at hnoted
      have hbegun : ((u.noteDownshift p).beginAttempt p g).frameRun = (u.noteDownshift p).frameRun := rfl
      generalize (u.noteDownshift p).beginAttempt p g = t at *
      refine ⟨t, hexec, ⟨hfield Port.link, hfield Port.grade, hfield Port.lockCount, hfield Port.locked, hfield Port.trainTimer⟩,
        hfield Port.attempts, hfield Port.ind, hfield Port.ctr, fun i hi => ?_⟩
      rw [hbegun]
      exact hnoted hi
    · rw [s.countFailure_lost p hlimit (by rw [hg]; rfl)] at hexec
      have hspine := State.spine_enterLost (s.modPort p fun x => { x with attempts := (s.port p).attempts + 1 }) p .trainExhausted
      have hcauses := State.causes_enterLost (s.modPort p fun x => { x with attempts := (s.port p).attempts + 1 }) p .trainExhausted
      generalize (s.modPort p fun x => { x with attempts := (s.port p).attempts + 1 }).enterLost p .trainExhausted = t at *
      exact ⟨t, hexec, Port.link_of_spine hspine, Port.lostCause_of_spine hspine, by rw [hcauses]⟩
  · have hframes : s.ref.framesOccur = true := by
      unfold Reference.framesOccur
      rcases hstate with h | h <;> rw [h] <;> rfl
    have hcount : (s.port p).stability + 1 = Config.stabilityLimit := by rw [hstable]; rfl
    exact if_pos ⟨hframes, hup, hcount⟩
  · have hframes : ¬(s.ref.framesOccur = true) := by
      unfold Reference.framesOccur
      rcases hstate with h | h <;> rw [h] <;> decide
    exact if_neg fun h => hframes h.1

end Sys2Proof.Machine

/-! O48, the ack timer and the holds (R105, R109, R110); what a retry exhaustion leaves of a port (R84, R90). -/
namespace Sys2Proof.Machine

section
variable (s : State) (p : PortId)

theorem State.setPort_setPort (x y : Port) : (s.setPort p x).setPort p y = s.setPort p y := by
  refine State.ext_ports (fun q => ?_) rfl
  by_cases hq : q = p
  · subst hq
    rw [State.port_setPort_self, State.port_setPort_self]
  · rw [State.port_setPort_ne _ (Ne.symm hq), State.port_setPort_ne _ (Ne.symm hq), State.port_setPort_ne _ (Ne.symm hq)]

theorem State.modPort_setPort (x : Port) (f : Port → Port) : (s.setPort p x).modPort p f = s.setPort p (f x) := by
  rw [State.modPort_eq, State.setPort_setPort, State.port_setPort_self]

theorem State.modPort_modPort (f g : Port → Port) : (s.modPort p f).modPort p g = s.modPort p fun x => g (f x) := by
  rw [State.modPort_eq s p f, State.modPort_setPort]
  rfl

end

/-- What is taken in UP, after the silence timer has been set again (R86, R111). -/
theorem State.takeInUp_of_up {s : State} {p : PortId} (h : (s.port p).link = .up) (f : State → State) :
    s.takeInUp p f = .next (f (s.setPort p { s.port p with silenceTimer := some (s.policy.silenceMs * 1000000) })).settle := by
  unfold State.takeInUp
  rw [h]
  rfl

/-! ## A retry exhaustion (R84, R90) -/

/-- A port whose attempt has failed, but for its queue and its buffers (R84). -/
def Port.failed (x : Port) (c : Policy) : Port :=
  if x.attempts + 1 < c.downshift then ({ x with attempts := x.attempts + 1 } : Port).training x.grade c.train
  else match x.grade.down with
    | none => ({ x with attempts := x.attempts + 1 } : Port).givenUp .trainExhausted
    | some g => ({ x with
        attempts := 0
        ind := { x.ind with downshifted := true }
        ctr := { x.ctr with downshifts := satInc x.ctr.downshifts } } : Port).training g c.train

theorem Port.failed_keeps (x : Port) (c : Policy) : ((x.failed c).link = .train ∨ (x.failed c).link = .lost) ∧
    (x.window = [] → (x.failed c).window = []) ∧ (x.failed c).holdTimer = none ∧ (x.failed c).ctr.retrains = x.ctr.retrains ∧
    (x.failed c).ctr.naks = x.ctr.naks ∧ (x.failed c).ctr.ackTimeouts = x.ctr.ackTimeouts := by
  unfold Port.failed
  split
  · exact ⟨.inl rfl, id, rfl, rfl, rfl, rfl⟩
  · split
    · exact ⟨.inr rfl, fun _ => rfl, rfl, rfl, rfl, rfl⟩
    · exact ⟨.inl rfl, id, rfl, rfl, rfl, rfl⟩

section
variable (s : State) (p : PortId)

theorem State.spine_countFailure : ((s.countFailure p).port p).spine = ((s.port p).failed s.policy).spine := by
  unfold Port.failed
  by_cases hmore : (s.port p).attempts + 1 < s.policy.downshift
  · rw [s.countFailure_again p hmore, if_pos hmore, State.port_beginAttempt, State.port_modPort_self]
    rfl
  · rw [if_neg hmore]
    cases hg : (s.port p).grade.down with
    | none =>
      rw [s.countFailure_lost p (Nat.not_lt.mp hmore) hg, State.spine_enterLost, State.port_modPort_self]
    | some g =>
      rw [s.countFailure_down p (Nat.not_lt.mp hmore) hg, State.port_beginAttempt, State.policy_noteDownshift]
      have hspine := State.spine_of_quiet (State.quiet_noteDownshift ((s.modPort p fun x =>
        { x with attempts := (s.port p).attempts + 1 }).modPort p fun x => { x with
          attempts := 0
          ind := { x.ind with downshifted := true }
          ctr := { x.ctr with downshifts := satInc x.ctr.downshifts } }) p) p
      rw [State.port_modPort_self, State.port_modPort_self] at hspine
      exact Port.congr_spine (g := fun x => (x.training g s.policy.train).spine) (fun _ => rfl) hspine

theorem State.spine_exhaust : ((s.exhaust p).port p).spine = ((s.port p).countRetrain.leftUp.failed s.policy).spine := by
  have hpolicy := State.policy_of_anywhere (State.anywhere_of_elsewhere (State.elsewhere_exitUp (s.modPort p Port.countRetrain) p))
  have hleft := State.spine_exitUp (s.modPort p Port.countRetrain) p
  rw [State.port_modPort_self] at hleft
  unfold State.exhaust
  rw [State.spine_of_quiet (State.quiet_noteRetrain _ p), State.spine_countFailure, hpolicy]
  refine Port.congr_spine (g := fun x => (x.failed s.policy).spine) (fun x => ?_) hleft
  show (x.spine.failed s.policy).spine = (x.failed s.policy).spine
  unfold Port.failed
  rw [show x.spine.attempts = x.attempts from rfl, show x.spine.grade = x.grade from rfl]
  split
  · rfl
  · split <;> rfl

theorem State.causes_countFailure : s.causes.tile = true → (s.countFailure p).causes.tile = true := by
  intro h
  by_cases hmore : (s.port p).attempts + 1 < s.policy.downshift
  · rw [s.countFailure_again p hmore]
    exact h
  · cases hg : (s.port p).grade.down with
    | none =>
      rw [s.countFailure_lost p (Nat.not_lt.mp hmore) hg, State.causes_enterLost]
    | some g =>
      rw [s.countFailure_down p (Nat.not_lt.mp hmore) hg]
      exact (congrArg Causes.tile (State.causes_of_quiet (State.quiet_noteDownshift _ p))).trans h

/-- What a retry exhaustion leaves of a port (R90). -/
theorem State.exhaust_port : ((s.exhaust p).port p).link ≠ .up ∧ ((s.exhaust p).port p).window = [] ∧
    ((s.exhaust p).port p).holdTimer = none ∧ (s.exhaust p).causes.tile = true ∧
    ((s.exhaust p).port p).ctr.retrains = satInc (s.port p).ctr.retrains ∧
    ((s.exhaust p).port p).ctr.naks = (s.port p).ctr.naks ∧
    ((s.exhaust p).port p).ctr.ackTimeouts = (s.port p).ctr.ackTimeouts := by
  have hspine := s.spine_exhaust p
  have hcauses : (s.exhaust p).causes.tile = true := by
    unfold State.exhaust
    rw [State.causes_of_quiet (State.quiet_noteRetrain _ p)]
    refine State.causes_countFailure _ p ?_
    rw [State.causes_exitUp]
  obtain ⟨hlink, hwindow, hhold, hretrains, hnaks, htimeouts⟩ := (s.port p).countRetrain.leftUp.failed_keeps s.policy
  have hfield {α : Type} (f : Port → α) := congrArg f hspine
  generalize s.exhaust p = t at *
  refine ⟨?_, (hfield Port.window).trans (hwindow rfl), (hfield Port.holdTimer).trans hhold, hcauses,
    (hfield fun x => x.ctr.retrains).trans hretrains, (hfield fun x => x.ctr.naks).trans hnaks,
    (hfield fun x => x.ctr.ackTimeouts).trans htimeouts⟩
  rw [Port.link_of_spine hspine]
  rcases hlink with h | h <;> rw [h] <;> decide

variable {s p}

/-- A command that ends in a retry exhaustion. -/
theorem exhausts {c : Instr} {u : State} (h : exec c s = .next (u.exhaust p).settle) {x : Port} (hx : u.port p = x) :
    ∃ t : State, exec c s = .next t.settle ∧ (t.port p).link ≠ .up ∧ (t.port p).window = [] ∧ (t.port p).holdTimer = none ∧
      t.causes.tile = true ∧ (t.port p).ctr.retrains = satInc x.ctr.retrains ∧ (t.port p).ctr.naks = x.ctr.naks ∧
      (t.port p).ctr.ackTimeouts = x.ctr.ackTimeouts := by
  subst hx
  exact ⟨u.exhaust p, h, u.exhaust_port p⟩

end

/-! ## Runs and holds (R105, R106, R110) -/

section
variable {s : State} {p : PortId} {o : Outstanding} {rest : List Outstanding}

theorem any_spent_iff {limit : Nat} {ks : List Outstanding} :
    ks.any (fun o => decide (limit ≤ o.retries)) = true ↔ ∃ k ∈ ks, limit ≤ k.retries := by
  simp

theorem State.runFromOldest_eq (h : (s.port p).window = o :: rest) :
    (∀ k ∈ (s.port p).window, k.retries < s.policy.retryLimit) → s.runFromOldest p = s.setPort p { s.port p with
      answered := some o.number, run := (s.port p).window.map Outstanding.number, recorded := false,
      ackTimer := some (s.policy.ackUs * 1000) } := by
  intro hunspent
  unfold State.runFromOldest State.beginRun
  rw [h]
  dsimp only
  rw [State.port_modPort_self, List.drop_zero, if_neg, State.modPort_modPort, State.modPort_eq]
  · rw [h]
    rfl
  · rw [any_spent_iff]
    rintro ⟨k, hk, hspent⟩
    exact absurd (hunspent k hk) (Nat.not_lt.mpr hspent)

theorem State.runFromOldest_spent (h : ∃ k ∈ (s.port p).window, s.policy.retryLimit ≤ k.retries) :
    ∃ o, s.runFromOldest p = (s.modPort p fun x => { x with answered := some o }).exhaust p := by
  unfold State.runFromOldest State.beginRun
  cases hw : (s.port p).window with
  | nil =>
    rw [hw] at h
    obtain ⟨k, hk, -⟩ := h
    exact nomatch hk
  | cons o rest =>
    refine ⟨o.number, ?_⟩
    dsimp only
    rw [State.port_modPort_self, List.drop_zero, if_pos]
    exact any_spent_iff.mpr h

end

section
variable {s : State} {p : PortId}

/-- The end of a hold (R110). -/
theorem State.endHold_eq : s.endHold p =
    if (s.port p).recorded then (s.setPort p { s.port p with holdTimer := none, recorded := false }).runFromOldest p
    else s.setPort p { s.port p with holdTimer := none, recorded := false } := rfl

theorem exec_holdExpiry (h : (s.port p).holdTimer.isSome = true) : exec (.holdExpiry p) s = .next (s.endHold p).settle := if_pos h

theorem exec_ackTimeout (h : (s.port p).ackRuns = true) : exec (.ackTimeout p) s =
    .next ((s.setPort p { s.port p with ctr := { (s.port p).ctr with ackTimeouts := satInc (s.port p).ctr.ackTimeouts } }).runFromOldest
      p).settle := if_pos h

theorem exec_holdReceived (hup : (s.port p).link = .up) (quanta : Half) : exec (.holdReceived p quanta) s = .next
    ((s.setPort p { s.port p with silenceTimer := some (s.policy.silenceMs * 1000000) }).takeHold p quanta).settle :=
  State.takeInUp_of_up hup fun s => s.takeHold p quanta

end

/-- Settles O48: the ack timer, the HOLDs, and the end of a hold. -/
theorem ackTimeoutsAndHolds : Obligations.AckTimeoutsAndHolds := by
  intro s p hup
  dsimp only
  refine ⟨fun o rest hruns hwindow => ⟨fun hunspent => ?_, fun hspent => ?_⟩, ⟨fun quanta hq => ?_, fun hno => ?_, fun hholds => ?_⟩,
    fun hholds hno => ?_, fun hholds hrecorded hspent => ?_, fun o rest hholds hrecorded hwindow hunspent => ?_⟩
  · rw [exec_ackTimeout hruns, State.runFromOldest_eq (o := o) (rest := rest), State.setPort_setPort, State.port_setPort_self]
    · rfl
    · rw [State.port_setPort_self]
      exact hwindow
    · rw [State.port_setPort_self]
      exact hunspent
  · obtain ⟨a, ha⟩ := State.runFromOldest_spent (s := s.setPort p { s.port p with
      ctr := { (s.port p).ctr with ackTimeouts := satInc (s.port p).ctr.ackTimeouts } }) (p := p)
      (by rw [State.port_setPort_self]; exact hspent)
    have hexec := exec_ackTimeout hruns
    rw [ha, State.modPort_setPort] at hexec
    obtain ⟨t, ht, hlink, -, -, -, hretrains, -, htimeouts⟩ := exhausts hexec (State.port_setPort_self ..)
    exact ⟨t, ht, hlink, htimeouts, hretrains⟩
  · rw [exec_holdReceived hup]
    unfold State.takeHold
    dsimp only
    rw [if_neg hq, State.modPort_setPort, State.modPort_setPort]
    rfl
  · rw [exec_holdReceived hup]
    unfold State.takeHold
    dsimp only
    rw [if_pos rfl, State.modPort_setPort, State.port_setPort_self, if_neg (by rw [hno]; decide)]
  · rw [exec_holdReceived hup, exec_holdExpiry (by rw [State.port_setPort_self]; exact hholds)]
    unfold State.takeHold
    dsimp only
    rw [if_pos rfl, State.modPort_setPort, State.port_setPort_self, if_pos hholds]
  · rw [exec_holdExpiry hholds, State.endHold_eq, if_neg (by rw [hno]; decide), ← hno]
  · obtain ⟨a, ha⟩ := State.runFromOldest_spent (s := s.setPort p { s.port p with holdTimer := none, recorded := false }) (p := p)
      (by rw [State.port_setPort_self]; exact hspent)
    have hexec := exec_holdExpiry hholds
    rw [State.endHold_eq, if_pos hrecorded, ha, State.modPort_setPort] at hexec
    obtain ⟨t, ht, hlink, hwindow, hhold, htile, hretrains, -⟩ := exhausts hexec (State.port_setPort_self ..)
    exact ⟨t, ht, hlink, hwindow, hhold, htile, hretrains⟩
  · rw [exec_holdExpiry hholds, State.endHold_eq, if_pos hrecorded, State.runFromOldest_eq (o := o) (rest := rest), State.setPort_setPort,
      State.port_setPort_self]
    · rfl
    · rw [State.port_setPort_self]
      exact hwindow
    · rw [State.port_setPort_self]
      exact hunspent

end Sys2Proof.Machine

/-! O51, the TESTs of a LINK_TEST are counted (R176, R177, R178); O50, CHECK_REPORTs (R180, R182). -/
namespace Sys2Proof.Machine

/-! ## LINK_TEST (R176, R177) -/

/-- `t` is `s` after port `p`'s LINK_TEST, job `a`'s, has ended OK with a detail. -/
def State.TestEnded (s : State) (p : PortId) (a : Word) (detail : List Byte) (t : State) : Prop :=
  (t.port p).test = none ∧ (t.findJob a).bind Job.result = some { outcome := .ok, flags := .clear, detail := detail } ∧
  (∀ q : PortId, q ≠ p → t.port q = s.port q) ∧ t.tiles = s.tiles ∧ t.frameRun = s.frameRun

section
variable {s : State} {p : PortId} {k : LinkTest} {j : Job} (hfind : s.findJob k.job = some j) (hnone : j.result = none)
include hfind hnone

/-- A test that ends at a port changed since. -/
theorem State.testEnded_endTestWith {x : Port} {k' : LinkTest} (hjob : k'.job = k.job) (hx : x.test = some k') (d : LinkTest → List Byte) :
    s.TestEnded p k.job (d k') ((s.setPort p x).endTestWith p .ok d) := by
  have htest : ((s.setPort p x).port p).test = some k' := by
    rw [State.port_setPort_self]
    exact hx
  have heq : (s.setPort p x).endTestWith p .ok d =
      ((s.setPort p x).modPort p fun x => { x with test := none }).hand k.job (plainResult .ok (d k')) := by
    unfold State.endTestWith
    rw [htest, ← hjob]
  have haddr := State.addr_of_findJob hfind
  rw [heq, State.modPort_setPort]
  refine ⟨?_, ?_, fun q hq => ?_, rfl, rfl⟩
  · show ((s.setPort p { x with test := none }).port p).test = none
    rw [State.port_setPort_self]
  · have hfound : (s.setPort p { x with test := none }).findJob j.addr = some j := haddr ▸ hfind
    rw [← haddr, State.findJob_hand hfound hnone]
    rfl
  · exact State.port_setPort_ne s (Ne.symm hq) _

/-- The outstanding TEST has been counted in `k'` (R176). -/
theorem State.countEcho_counts {x : Port} {k' : LinkTest} (hjob : k'.job = k.job) :
    (k'.counted < k'.count → ((((s.setPort p x).countEcho p k').port p).test =
        some { k' with outstanding := none, echoTimer := none, due := true }) ∧
      (∀ q : PortId, q ≠ p → ((s.setPort p x).countEcho p k').port q = s.port q) ∧
      ((s.setPort p x).countEcho p k').jobs = s.jobs ∧ ((s.setPort p x).countEcho p k').tiles = s.tiles) ∧
    (k'.count ≤ k'.counted → s.TestEnded p k.job (detailTest k'.sent k'.good k'.bad k'.mismatch k'.lost k'.injected)
      ((s.setPort p x).countEcho p k')) := by
  have heq : (s.setPort p x).countEcho p k' = if k'.counted < k'.count
      then s.setPort p { x with test := some { k' with outstanding := none, echoTimer := none, due := decide (k'.counted < k'.count) } }
      else (s.setPort p { x with test := some { k' with
        outstanding := none, echoTimer := none, due := decide (k'.counted < k'.count) } }).endTest p .ok := by
    unfold State.countEcho
    dsimp only
    rw [State.modPort_setPort]
    rfl
  rw [heq]
  refine ⟨fun hmore => ?_, fun hlast => ?_⟩
  · rw [if_pos hmore, decide_eq_true hmore]
    refine ⟨by rw [State.port_setPort_self], fun q hq => State.port_setPort_ne s (Ne.symm hq) _, rfl, rfl⟩
  · rw [if_neg (Nat.not_lt.mpr hlast)]
    exact State.testEnded_endTestWith hfind hnone (k' := { k' with
      outstanding := none, echoTimer := none, due := decide (k'.counted < k'.count) }) hjob rfl LinkTest.detail

end

section
variable {s : State} {p : PortId} {k : LinkTest} (hup : (s.port p).link = .up) (htest : (s.port p).test = some k)
include hup htest

/-- A TEST_ECHO in ECHO mode (R176). -/
theorem exec_testEchoReceived (hmode : k.mode = .echo) (n : Half) (flag : EchoFlag) (data : List Byte) :
    exec (.testEchoReceived p n flag data) s = .next (State.settle (
      let heard := s.setPort p { s.port p with silenceTimer := some (s.policy.silenceMs * 1000000) }
      if k.outstanding = some n.toNat then heard.countEcho p (match flag with
        | .bad => { k with bad := k.bad + 1 }
        | .good => if data = testPayload k.pattern k.length n.toNat then { k with good := k.good + 1 } else { k with mismatch := k.mismatch + 1 })
      else heard)) := by
  have hexec : exec (.testEchoReceived p n flag data) s = .next
      ((s.setPort p { s.port p with silenceTimer := some (s.policy.silenceMs * 1000000) }).takeEcho p n flag data).settle :=
    State.takeInUp_of_up hup fun s => s.takeEcho p n flag data
  rw [hexec]
  unfold State.takeEcho
  rw [State.port_setPort_self, htest]
  dsimp only
  by_cases hout : k.outstanding = some n.toNat
  · rw [if_pos ⟨hmode, hout⟩, if_pos hout]
    cases flag with
    | bad => rfl
    | good =>
      dsimp only
      split <;> rfl
  · rw [if_neg fun h => hout h.2, if_neg hout]

omit hup in
theorem exec_echoTimeout (htimer : k.echoTimer.isSome = true) :
    exec (.echoTimeout p) s = .next ((s.setPort p (s.port p)).countEcho p { k with lost := k.lost + 1 }).settle := by
  have hsame : s.setPort p (s.port p) = s := s.modPort_id p
  rw [hsame]
  show State.settled (s.echoExpired p) = _
  unfold State.echoExpired
  rw [htest]
  exact congrArg State.settled (if_pos htimer)

end

section
variable {s : State} {p : PortId} {k : LinkTest}

/-- The four ways in which a TEST in ECHO mode is counted (R176). -/
theorem exec_counts (hup : (s.port p).link = .up) (htest : (s.port p).test = some k) (hmode : k.mode = .echo) {c : Instr} {k' : LinkTest}
    (hc : (∃ n data, k.outstanding = some n.toNat ∧ c = .testEchoReceived p n .good data ∧
          data = testPayload k.pattern k.length n.toNat ∧ k' = { k with good := k.good + 1 }) ∨
        (∃ n data, k.outstanding = some n.toNat ∧ c = .testEchoReceived p n .good data ∧
          data ≠ testPayload k.pattern k.length n.toNat ∧ k' = { k with mismatch := k.mismatch + 1 }) ∨
        (∃ n data, k.outstanding = some n.toNat ∧ c = .testEchoReceived p n .bad data ∧ k' = { k with bad := k.bad + 1 }) ∨
        (k.echoTimer.isSome = true ∧ c = .echoTimeout p ∧ k' = { k with lost := k.lost + 1 })) :
    ∃ x : Port, exec c s = .next ((s.setPort p x).countEcho p k').settle ∧ k'.job = k.job ∧ k'.count = k.count := by
  rcases hc with ⟨n, data, hout, rfl, hdata, rfl⟩ | ⟨n, data, hout, rfl, hdata, rfl⟩ | ⟨n, data, hout, rfl, rfl⟩ | ⟨htimer, rfl, rfl⟩
  · refine ⟨{ s.port p with silenceTimer := some (s.policy.silenceMs * 1000000) }, (exec_testEchoReceived hup htest hmode n .good data).trans ?_, rfl, rfl⟩
    dsimp only
    rw [if_pos hout, if_pos hdata]
  · refine ⟨{ s.port p with silenceTimer := some (s.policy.silenceMs * 1000000) }, (exec_testEchoReceived hup htest hmode n .good data).trans ?_, rfl, rfl⟩
    dsimp only
    rw [if_pos hout, if_neg hdata]
  · refine ⟨{ s.port p with silenceTimer := some (s.policy.silenceMs * 1000000) }, (exec_testEchoReceived hup htest hmode n .bad data).trans ?_, rfl, rfl⟩
    dsimp only
    rw [if_pos hout]
  · exact ⟨s.port p, exec_echoTimeout htest htimer, rfl, rfl⟩

theorem exec_testResultReceived (hup : (s.port p).link = .up) (htest : (s.port p).test = some k) (hmode : k.mode = .sink)
    (good bad : Half) : exec (.testResultReceived p good bad) s = .next
      ((s.setPort p { s.port p with silenceTimer := some (s.policy.silenceMs * 1000000) }).endTestWith p .ok fun k =>
        detailTest k.sent good.toNat bad.toNat 0 (k.sent - (good.toNat + bad.toNat)) k.injected).settle := by
  have hexec : exec (.testResultReceived p good bad) s = .next
      ((s.setPort p { s.port p with silenceTimer := some (s.policy.silenceMs * 1000000) }).takeResult p good bad).settle :=
    State.takeInUp_of_up hup fun s => s.takeResult p good bad
  rw [hexec]
  unfold State.takeResult
  rw [State.port_setPort_self, htest]
  dsimp only
  rw [if_pos hmode]

theorem exec_resultTimeout (htest : (s.port p).test = some k) (htimer : k.resultTimer.isSome = true) :
    exec (.resultTimeout p) s = .next ((s.setPort p (s.port p)).endTestWith p .ok fun k =>
      detailTest k.sent 65535 65535 0 65535 k.injected).settle := by
  have hsame : s.setPort p (s.port p) = s := s.modPort_id p
  rw [hsame]
  show State.settled (s.resultExpired p) = _
  unfold State.resultExpired
  rw [htest]
  exact congrArg State.settled (if_pos htimer)

end

/-- Settles O51: the counting commands, SINK's result, and what is not outstanding. -/
theorem testsAreCounted : Obligations.TestsAreCounted := by
  intro s p k j hup htest hfind hnone
  refine ⟨fun c k' hmode hc => ?_, fun hmode good bad => ⟨_, exec_testResultReceived hup htest hmode good bad, ?_⟩,
    fun htimer => ⟨_, exec_resultTimeout htest htimer, ?_⟩, fun hmode n flag data hout => ?_⟩
  · obtain ⟨x, hexec, hjob, hcount⟩ := exec_counts hup htest hmode hc
    obtain ⟨hmore, hlast⟩ := State.countEcho_counts hfind hnone (p := p) (x := x) hjob
    exact ⟨fun h => ⟨_, hexec, hmore (by rw [hcount]; exact h)⟩, fun h => ⟨_, hexec, hlast (by rw [hcount]; exact h)⟩⟩
  · exact State.testEnded_endTestWith hfind hnone (p := p)
      (x := { s.port p with silenceTimer := some (s.policy.silenceMs * 1000000) }) rfl htest fun k =>
      detailTest k.sent good.toNat bad.toNat 0 (k.sent - (good.toNat + bad.toNat)) k.injected
  · exact State.testEnded_endTestWith hfind hnone (p := p) (x := s.port p) rfl htest fun k =>
      detailTest k.sent 65535 65535 0 65535 k.injected
  · rw [exec_testEchoReceived hup htest hmode]
    dsimp only
    rw [if_neg hout]

/-! ## CHECK_REPORTs (R180, R182) -/

theorem State.atTileOf_of_tile {s : State} {p : PortId} {i : TileId} (h : s.tileOfPort p = some i) (f : TileId → State → State) :
    s.atTileOf p f = f i s := by
  unfold State.atTileOf
  rw [h]

section
variable {s : State} {r : VerifyRec} (hrun : s.frameRun = .verify r) {i : TileId}
include hrun

theorem State.modVerify_of_verify (f : VerifyRec → VerifyRec) : s.modVerify f = { s with frameRun := .verify (f r) } := by
  unfold State.modVerify
  rw [hrun]

theorem State.verify_of_frameRun : s.verify = some r := by
  unfold State.verify
  rw [hrun]

theorem State.takeReport_of_other (hout : Mask.has r.outstanding i = false) (epoch : Epoch) (crcs : List Word) :
    s.takeReport i epoch crcs = s := by
  unfold State.takeReport
  rw [State.verify_of_frameRun hrun]
  exact if_neg (by simp [hout])

/-- The report of a target whose CHECK is outstanding (R180). -/
theorem State.takeReport_of_outstanding (hout : Mask.has r.outstanding i = true) (epoch : Epoch) (crcs : List Word) :
    s.takeReport i epoch crcs = State.settleVerify { s with frameRun := .verify (
      if epoch == r.epoch && crcs.length == s.stripesOf i
        then { r with outstanding := r.outstanding &&& ~~~bitOf i, reports := r.reports ++ [{ tile := i, crcs := crcs }] }
        else { r with outstanding := r.outstanding &&& ~~~bitOf i, unchecked := r.unchecked ||| bitOf i }) } := by
  unfold State.takeReport
  rw [State.verify_of_frameRun hrun]
  dsimp only
  rw [if_pos hout, State.modVerify_of_verify hrun]

end

/-- Settles O50: a report taken, a report that does not match, and one that is not awaited. -/
theorem checkReportsAreTaken : Obligations.CheckReportsAreTaken := by
  intro s p i epoch crcs r hup htile hrun heard answered missed command
  have htileHeard : heard.tileOfPort p = some i := htile
  have hexec : exec command s = .next (heard.takeReport i epoch crcs).settle := by
    have hup := State.takeInUp_of_up hup fun s => s.atTileOf p fun i s => s.takeReport i epoch crcs
    rw [State.atTileOf_of_tile htileHeard] at hup
    exact hup
  have hheard : heard.frameRun = .verify r := hrun
  have hmissed (h : epoch ≠ r.epoch ∨ crcs.length ≠ s.stripesOf i) :
      (if epoch == r.epoch && crcs.length == heard.stripesOf i
        then { answered with reports := r.reports ++ [{ tile := i, crcs := crcs }] } else missed) = missed :=
    if_neg fun hgood => by
      obtain ⟨hepoch, hlength⟩ := Bool.and_eq_true_iff.mp hgood
      exact h.elim (fun hne => hne (by simpa using hepoch)) fun hne => hne (beq_iff_eq.mp hlength)
  rw [hexec]
  refine ⟨fun hout => ?_, fun hout hepoch hlength => ?_, fun hout hbad => ?_⟩
  · rw [State.takeReport_of_other hheard hout]
  · rw [State.takeReport_of_outstanding hheard hout, if_pos (by simp [hepoch, hlength, heard]; rfl),
      State.settleVerify_of_open rfl fun h => List.append_ne_nil_of_right_ne_nil _ (List.cons_ne_nil _ _) h.2]
  · rw [State.takeReport_of_outstanding hheard hout, hmissed hbad]
    have hverify : ({ heard with frameRun := .verify missed } : State).verify = some missed := rfl
    refine ⟨fun hopen => ?_, fun hdone hreports hsame => ?_, fun hdone hreports hfound => ?_⟩
    · rw [State.settleVerify_of_open hverify fun h => hopen.elim (fun hne => hne h.1) fun hne => hne h.2]
    · rw [State.settleVerify_of_same hverify hdone hreports hsame]
    · rw [State.settleVerify_of_found hverify hdone hreports hfound]

end Sys2Proof.Machine

/-! O53, the switches of the Frame Reference (R131, R134–R136, R138). -/
namespace Sys2Proof.Machine

/-! ## A pending switch ends (R136, R138) -/

/-- The pending switch `w` of `s` has ended with outcome `o`. -/
def State.SwitchEnded (s : State) (w : Switch) (o : JobOutcome) (t : State) : Prop :=
  t.ref.switch = none ∧ t.ref.lockTimer = none ∧ t.ref.sincePulse = none ∧
  (∀ a j, w.job = some a → s.findJob a = some j → j.status = .inFlight → j.result = none → (s.jobs.map Job.addr).Nodup →
    t.outcomeOf a = some o)

/-- The Frame Reference after a pending switch has ended with outcome `o`; `l` is the reference lock then (R136). -/
def Reference.ended (r : Reference) (o : JobOutcome) (l : Bool) : Reference :=
  { r with switch := none, lockTimer := none, sincePulse := none, lockCount := if o = .ok then r.lockCount else 0, lock := l }

/-- A result handed over where the reference lock may have been set. -/
theorem State.hand_locked (v : State) (c : Prop) [Decidable c] (o : JobOutcome) (a : Word) (d : Reference → List Byte) :
    ∃ (l : Bool) (x : Result), x.outcome = o ∧
      (if c then { v with ref := { v.ref with lock := true } } else v).hand a
        (plainResult o (d (if c then { v with ref := { v.ref with lock := true } } else v).ref)) =
      { v with ref := { v.ref with lock := l }, jobs := v.jobs.map fun k => if k.addr = a then k.hand x else k } := by
  by_cases h : c
  · rw [if_pos h]
    exact ⟨true, _, rfl, rfl⟩
  · rw [if_neg h]
    exact ⟨v.ref.lock, _, rfl, rfl⟩

section
variable {u : State} {w : Switch} (hw : u.ref.switch = some w) (o : JobOutcome)
include hw

theorem State.endSwitch_of_pending : ∃ (l : Bool) (x : Result), x.outcome = o ∧ u.endSwitch o = { u with
    ref := u.ref.ended o l
    causes := { u.causes with reference := u.causes.reference || w.job.isNone }
    jobs := u.jobs.map (u.ref.handSwitch x) } := by
  unfold State.endSwitch
  rw [hw]
  dsimp only
  cases hjob : w.job with
  | none =>
    have hnobody (x : Result) : u.jobs.map (u.ref.handSwitch x) = u.jobs := (List.map_congr_left fun k _ =>
      Reference.handSwitch_of_ne (by rw [hw, Option.bind_some, hjob]; exact nofun) x).trans (List.map_id _)
    refine ⟨u.ref.lock, plainResult o [], rfl, ?_⟩
    rw [hnobody, Option.isNone_none, Bool.or_true]
    rfl
  | some a =>
    have hhand (x : Result) : u.jobs.map (u.ref.handSwitch x) = u.jobs.map fun k => if k.addr = a then k.hand x else k :=
      List.map_congr_left fun k _ => by
        unfold Reference.handSwitch
        rw [hw, Option.bind_some, hjob]
        exact if_congr (by rw [Option.some.injEq]; exact eq_comm) rfl rfl
    dsimp only
    rw [Option.isNone_some, Bool.or_false]
    simp only [hhand]
    exact State.hand_locked { u with ref := { u.ref with
      switch := none, lockTimer := none, sincePulse := none, lockCount := if o = .ok then u.ref.lockCount else 0 } } _ o a
      fun r => detailReference r (match w.target with | .extern => u.ref.lockCount | .intern => 0)

/-- The switch of `s` ends in a state that goes on from `s` and spares the jobs that do not run. -/
theorem State.switchEnded {s : State} (hspares : ∀ a, s.Spares a u) : s.SwitchEnded w o (u.endSwitch o) := by
  obtain ⟨l, x, hx, hend⟩ := State.endSwitch_of_pending hw o
  rw [hend]
  refine ⟨rfl, rfl, rfl, fun a j hjob hfind hstatus hnone hnodup => ?_⟩
  have hcalm : s.calm a := State.calm_of_inFlight hnodup hfind hstatus
  obtain ⟨k, hk, -, hresult⟩ := (hspares a).found hfind (.inl ⟨hcalm, rfl⟩)
  have hka : k.addr = a := State.addr_of_findJob hk
  have hfound := State.findJob_of_map (s := u) (t := { u with
    ref := u.ref.ended o l
    causes := { u.causes with reference := u.causes.reference || w.job.isNone }
    jobs := u.jobs.map (u.ref.handSwitch x) }) rfl (fun k => (u.ref.handSwitch_keeps x k).1) a
  rw [hk, Option.map_some, Reference.handSwitch_result hw (hka.symm ▸ hjob) (hresult.trans hnone)] at hfound
  rw [State.outcomeOf_eq hfound]
  exact congrArg some hx

end

/-! ## The pulses (R134, R135) -/

theorem Reference.pulseCount_first {r : Reference} (h : r.sincePulse = none) : r.pulseCount = 1 := by
  unfold Reference.pulseCount
  rw [h]

theorem Reference.pulseCount_next {r : Reference} {e : Nat} (h : r.sincePulse = some e) : r.pulseCount =
    if 99 * r.period * 1000 ≤ 100 * e ∧ 100 * e ≤ 101 * r.period * 1000 then r.lockCount + 1 else 1 := by
  unfold Reference.pulseCount
  rw [h]
  refine if_congr ?_ rfl rfl
  rw [Reference.wellSpaced, Bool.and_eq_true, decide_eq_true_iff, decide_eq_true_iff, Nat.mul_assoc, Nat.mul_assoc]

theorem State.causes_issueFrame (s : State) : s.issueFrame.causes = s.causes :=
  (State.causes_of_quiet s.quiet_issueFrame : _)

theorem State.policy_issueFrame (s : State) : s.issueFrame.policy = s.policy := by
  have hpolicy := congrArg State.policy s.quiet_issueFrame
  exact hpolicy

section
variable {s : State} {w : Switch} (hw : s.ref.switch = some w)
include hw

theorem Reference.switchingTo_iff (t : Source) : s.ref.switchingTo t = true ↔ w.target = t := by
  unfold Reference.switchingTo
  rw [hw]
  exact beq_iff_eq

/-- The lock, with its frame start (R134). -/
theorem State.locks : s.SwitchEnded w .ok s.lockPulse ∧ s.lockPulse.ref.state = .extern ∧ s.lockPulse.ref.source = .extern ∧
    s.lockPulse.ref.lockCount = 8 ∧ s.lockPulse.ref.frameTimer = none ∧ s.lockPulse.ref.lossTimer = some 0 ∧
    s.lockPulse.ref.frameNumber = s.ref.frameNumber + 1 ∧ (w.job = none → s.lockPulse.causes.reference = true) := by
  have heq : s.lockPulse = State.endSwitch { ({ s with ref := { s.ref with lockCount := 8 } } : State).issueFrame with
    ref := { s.ref with
      lockCount := 8, frameNumber := s.ref.frameNumber + 1, frameLength := s.ref.period
      state := .extern, source := .extern, frameTimer := none, lossTimer := some 0, sincePulse := none } } .ok := by
    unfold State.lockPulse
    dsimp only
    rw [State.ref_issueFrame]
    rfl
  have hspares (a : Word) : s.Spares a ({ s with ref := { s.ref with lockCount := 8 } } : State).issueFrame :=
    State.Spares.trans (t := { s with ref := { s.ref with lockCount := 8 } }) (State.spares_of_jobRun rfl)
      (State.spares_issueFrame a _)
  generalize ({ s with ref := { s.ref with lockCount := 8 } } : State).issueFrame = u at heq hspares
  have hended := State.switchEnded (u := { u with ref := { s.ref with
    lockCount := 8, frameNumber := s.ref.frameNumber + 1, frameLength := s.ref.period
    state := .extern, source := .extern, frameTimer := none, lossTimer := some 0, sincePulse := none } }) hw .ok
    fun a => (hspares a).then rfl
  rw [← heq] at hended
  refine ⟨hended, ?_⟩
  obtain ⟨l, x, -, hend⟩ := State.endSwitch_of_pending (u := { u with ref := { s.ref with
    lockCount := 8, frameNumber := s.ref.frameNumber + 1, frameLength := s.ref.period
    state := .extern, source := .extern, frameTimer := none, lossTimer := some 0, sincePulse := none } }) hw .ok
  rw [heq, hend]
  exact ⟨rfl, rfl, rfl, rfl, rfl, rfl, fun hnone => by rw [hnone]; exact Bool.or_true _⟩

/-- A switch to INTERNAL completes with a frame start (R135). -/
theorem State.turnsInternal : ∃ t : State, s.issueFrame.enterInternal.endSwitch .ok = t ∧ s.SwitchEnded w .ok t ∧
    t.ref.state = .intern ∧ t.ref.source = .intern ∧ t.ref.frameTimer = some 0 ∧ t.ref.lossTimer = none ∧
    t.ref.frameNumber = s.ref.frameNumber + 1 ∧ t.policy = s.policy ∧
    t.causes = { s.causes with reference := s.causes.reference || w.job.isNone } := by
  have heq : s.issueFrame.enterInternal = { s.issueFrame with ref := { s.ref with
      frameNumber := s.ref.frameNumber + 1, frameLength := s.ref.period
      state := .intern, source := .intern, frameTimer := some 0, lossTimer := none } } := by
    unfold State.enterInternal
    rw [State.ref_issueFrame]
  have hspares (a : Word) := s.spares_issueFrame a
  have hcauses := s.causes_issueFrame
  have hpolicy := s.policy_issueFrame
  rw [heq]
  generalize s.issueFrame = u at hspares hcauses hpolicy
  have hended := State.switchEnded (u := { u with ref := { s.ref with
      frameNumber := s.ref.frameNumber + 1, frameLength := s.ref.period
      state := .intern, source := .intern, frameTimer := some 0, lossTimer := none } }) hw .ok fun a => (hspares a).then rfl
  obtain ⟨l, x, -, hend⟩ := State.endSwitch_of_pending (u := { u with ref := { s.ref with
      frameNumber := s.ref.frameNumber + 1, frameLength := s.ref.period
      state := .intern, source := .intern, frameTimer := some 0, lossTimer := none } }) hw .ok
  refine ⟨_, rfl, hended, ?_⟩
  rw [hend]
  exact ⟨rfl, rfl, rfl, rfl, rfl, hpolicy, by rw [hcauses]⟩

section
variable (hextern : w.target = .extern)
include hextern

theorem exec_syncInPulse_switching (hstate : s.ref.state = .intern) : exec .syncInPulse s = .next s.switchPulse.settle := by
  show State.settled s.takePulse = _
  unfold State.takePulse
  rw [hstate]
  dsimp only
  rw [if_pos ((Reference.switchingTo_iff hw _).mpr hextern)]
  rfl

theorem exec_lockPulse_locks (hstate : s.ref.state = .intern) (hcount : s.ref.lockCount = 7) :
    exec .lockPulse s = .next s.lockPulse.settle :=
  if_pos ⟨hstate, (Reference.switchingTo_iff hw _).mpr hextern, by rw [hcount]; rfl⟩

end

theorem exec_syncInPulse_leaves (hintern : w.target = .intern) (hstate : s.ref.state = .extern) (hqualifies : s.ref.qualifies = true) :
    exec .syncInPulse s = .next (s.issueFrame.enterInternal.endSwitch .ok).settle := by
  have hswitch : s.issueFrame.ref.switchingTo .intern = true := by
    rw [State.ref_issueFrame]
    exact (Reference.switchingTo_iff hw _).mpr hintern
  show State.settled s.takePulse = _
  unfold State.takePulse
  rw [hstate]
  dsimp only
  rw [if_pos hqualifies, if_pos hswitch]
  rfl

theorem exec_lossDeclared_leaves (hintern : w.target = .intern) (hstate : s.ref.state = .extern) : exec .lossDeclared s =
    .next (State.settle (if (s.issueFrame.enterInternal.endSwitch .ok).policy.failSafe
      then (s.issueFrame.enterInternal.endSwitch .ok).raiseReference else s.issueFrame.enterInternal.endSwitch .ok)) := by
  show State.settled s.declareLoss = _
  unfold State.declareLoss
  rw [if_pos hstate, if_pos ((Reference.switchingTo_iff hw _).mpr hintern)]
  rfl

end

/-- Settles O53: the pulses of a switch to EXTERNAL, its expiry, and the two ends of a switch to INTERNAL. -/
theorem switchesLockOrExpire : Obligations.SwitchesLockOrExpire := by
  intro s w hw
  refine ⟨fun hextern hstate => ?_, fun hextern htimer => ?_, fun hintern hstate e he hhalf => ?_, fun hintern hstate => ?_⟩
  · intro n
    have hn : s.ref.pulseCount = n := by
      simp only [n]
      cases h : s.ref.sincePulse with
      | none => exact Reference.pulseCount_first h
      | some e => exact Reference.pulseCount_next h
    rw [exec_syncInPulse_switching hw hextern hstate]
    unfold State.switchPulse
    rw [hn]
    refine ⟨fun hne => by rw [if_neg (show n ≠ Config.lockPulses from hne)],
      fun height => ⟨_, by rw [if_pos (show n = Config.lockPulses from height)], State.locks hw⟩,
      fun hseven => ⟨_, exec_lockPulse_locks hw hextern hstate hseven, State.locks hw⟩⟩
  · have hexec : exec .lockTimerExpiry s = .next (s.endSwitch .noLock).settle := congrArg State.settled (if_pos htimer)
    have hended := State.switchEnded hw .noLock fun a => State.Spares.refl a s
    obtain ⟨l, x, -, hend⟩ := State.endSwitch_of_pending hw .noLock
    refine ⟨_, hexec, hended, ?_⟩
    rw [hend]
    exact ⟨rfl, rfl, rfl, rfl, rfl, fun hnone => by rw [hnone]; exact Bool.or_true _⟩
  · obtain ⟨t, rfl, hended, hstate', hsource, htimer, hloss, hnumber, -⟩ := State.turnsInternal hw
    have hqualifies : s.ref.qualifies = true := by
      unfold Reference.qualifies
      rw [he]
      exact decide_eq_true hhalf
    exact ⟨_, exec_syncInPulse_leaves hw hintern hstate hqualifies, hended, hstate', hsource, htimer, hloss, hnumber⟩
  · have hexec := exec_lossDeclared_leaves hw hintern hstate
    obtain ⟨t, ht, hended, hstate', hsource, htimer, hloss, hnumber, hpolicy, hcauses⟩ := State.turnsInternal hw
    rw [ht, hpolicy] at hexec
    refine ⟨_, hexec, ?_⟩
    cases hsafe : s.policy.failSafe with
    | true =>
      rw [if_pos rfl]
      refine ⟨hended, hstate', hsource, htimer, hloss, hnumber, fun _ => ?_⟩
      rw [State.raiseReference_eq, hcauses, Bool.or_true]
    | false =>
      rw [if_neg Bool.false_ne_true]
      refine ⟨hended, hstate', hsource, htimer, hloss, hnumber, fun hjob => ?_⟩
      rw [hcauses, Option.isNone_eq_false_iff.mpr (Option.isSome_iff_ne_none.mpr hjob)]

end Sys2Proof.Machine

/-! SUPPORT. A scene from ARMED on: what settles it (R59, R67); O49, the reports that confirm a flip (R61–R63, R125). -/
namespace Sys2Proof.Machine

/-! ## The record of the running scene -/

/-- A change of the record of the running scene. -/
def FrameRun.onScene (f : SceneRec → SceneRec) : FrameRun → FrameRun
  | .scene r => .scene (f r)
  | x => x

theorem State.modScene_eq (s : State) (f : SceneRec → SceneRec) : s.modScene f = { s with frameRun := s.frameRun.onScene f } := by
  unfold State.modScene
  cases hrun : s.frameRun <;> simp only [FrameRun.onScene]
  all_goals rw [← hrun]

theorem State.scene_modScene (s : State) (f : SceneRec → SceneRec) : (s.modScene f).scene = s.scene.map f := by
  unfold State.modScene State.scene
  cases hrun : s.frameRun <;> simp only [hrun] <;> rfl

theorem FrameRun.onScene_comp (f g : SceneRec → SceneRec) (x : FrameRun) : (x.onScene f).onScene g = x.onScene (g ∘ f) := by
  cases x <;> rfl

theorem State.modScene_of_none {s : State} (h : s.scene = none) (f : SceneRec → SceneRec) : s.modScene f = s := by
  unfold State.modScene
  split
  · next hrun => exact nomatch h.symm.trans (State.scene_eq_some.mpr hrun)
  all_goals rfl

/-! ## What settles a scene (R59, R67) -/

theorem State.shown_completeScene (s : State) (x : Result) : (s.completeScene x).composer.shown = s.composer.shown := by
  unfold State.completeScene State.completeFrame
  cases s.running .frame <;> rfl

section
variable {s : State}

theorem State.settleScene_of_none (h : s.scene = none) : s.settleScene = s := by
  unfold State.settleScene
  rw [h]

section
variable {r : SceneRec} (hr : s.scene = some r)
include hr

theorem State.settleScene_of_delivering (h : r.stage.delivering? = true) : s.settleScene = s := by
  unfold State.settleScene
  rw [hr]
  exact if_pos h

section
variable (hd : r.stage.delivering? = false)
include hd

theorem State.settleScene_of_settled (h : r.flipSet &&& ~~~(r.confirmed ||| r.unconfirmed) = 0) :
    s.settleScene = s.completeScene { outcome := r.outcome, flags := r.flags, detail := r.detailFor r.outcome } := by
  unfold State.settleScene
  rw [hr]
  exact (if_neg (by rw [hd]; exact Bool.false_ne_true)).trans (if_pos (beq_iff_eq.mpr h))

theorem State.settleScene_of_open (h : r.flipSet &&& ~~~(r.confirmed ||| r.unconfirmed) ≠ 0) : s.settleScene =
    if r.stage = .armed ∧ r.allSent = true then (s.modScene fun r => { r with stage := .flipScheduled }).writeProgress .flipScheduled
    else s := by
  unfold State.settleScene
  rw [hr]
  exact (if_neg (by rw [hd]; exact Bool.false_ne_true)).trans (if_neg fun hsettled => h (beq_iff_eq.mp hsettled))

end

end

/-- The record of a scene that stays open, FLIP_SCHEDULED where the last of its FLIPs has been sent (R55, R59). -/
def SceneRec.moved (r : SceneRec) : SceneRec :=
  { r with stage := if r.stage = .armed ∧ r.allSent = true then .flipScheduled else r.stage }

theorem State.frameRun_writeProgress (s : State) (v : Progress) : (s.writeProgress v).frameRun = s.frameRun := by
  unfold State.writeProgress
  split <;> rfl

theorem State.frameRun_modScene_of_scene {r : SceneRec} (h : s.frameRun = .scene r) (f : SceneRec → SceneRec) :
    (s.modScene f).frameRun = .scene (f r) := by
  unfold State.modScene
  rw [h]

theorem State.frameRun_settleScene_of_open {r : SceneRec} (hr : s.frameRun = .scene r) (hd : r.stage.delivering? = false)
    (h : r.flipSet &&& ~~~(r.confirmed ||| r.unconfirmed) ≠ 0) : s.settleScene.frameRun = .scene r.moved := by
  rw [State.settleScene_of_open (State.scene_eq_some.mpr hr) hd h]
  unfold SceneRec.moved
  split
  · rw [State.frameRun_writeProgress, State.frameRun_modScene_of_scene hr]
  · exact hr

/-- The PROGRESS writes of the scene's job where the scene stays open (R55, R159). -/
theorem State.writes_settleScene_of_open {r : SceneRec} (hr : s.scene = some r) (hd : r.stage.delivering? = false)
    (h : r.flipSet &&& ~~~(r.confirmed ||| r.unconfirmed) ≠ 0) {j : Job} (hj : s.running .frame = some j)
    (hfind : s.findJob j.addr = some j) : (s.settleScene.findJob j.addr).map Job.writes =
      some (if r.stage = .armed ∧ r.allSent = true then j.writes ++ [.progress .flipScheduled] else j.writes) := by
  rw [State.settleScene_of_open hr hd h]
  split
  · have hrunning : (s.modScene fun r => { r with stage := .flipScheduled }).running .frame = some j :=
      (State.running_of_jobs (State.jobs_modScene s _) _).trans hj
    rw [State.writeProgress_eq hrunning, State.findJob_addWrite, State.findJob_of_jobs (State.jobs_modScene s _), hfind]
    rfl
  · rw [hfind]
    rfl

/-- The completion of a settled scene (R67). -/
theorem State.completes {r : SceneRec} (hr : s.scene = some r) (hd : r.stage.delivering? = false)
    (h : r.flipSet &&& ~~~(r.confirmed ||| r.unconfirmed) = 0) : s.settleScene.frameRun = .idle ∧
      s.settleScene.composer.active = none ∧
      ∀ j, s.running .frame = some j → s.findJob j.addr = some j → s.settleScene.outcomeOf j.addr = some r.outcome := by
  rw [State.settleScene_of_settled hr hd h]
  refine ⟨State.frameRun_completeScene s _, rfl, fun j hj hfind => ?_⟩
  rw [State.outcomeOf_eq (State.findJob_of_handRunning (State.jobs_completeScene s _) hj hfind)]
  rfl

theorem State.scene_of_idle (h : s.frameRun = .idle) : s.scene = none := by
  unfold State.scene
  rw [h]

/-- What stays when a scene is settled. -/
theorem State.settleScene_keeps (s : State) : s.settleScene.tiles = s.tiles ∧ s.settleScene.presented = s.presented ∧
    s.settleScene.composer.shown = s.composer.shown ∧ s.settleScene.ports = s.ports := by
  unfold State.settleScene
  split
  · exact ⟨rfl, rfl, rfl, rfl⟩
  · split
    · exact ⟨rfl, rfl, rfl, rfl⟩
    · split
      · exact ⟨State.tiles_completeScene s _, State.presented_completeScene s _, State.shown_completeScene s _,
          State.ports_completeScene s _⟩
      · split
        · rw [State.modScene_eq]
          unfold State.writeProgress
          split <;> exact ⟨rfl, rfl, rfl, rfl⟩
        · exact ⟨rfl, rfl, rfl, rfl⟩

end

/-! ## A flip that is confirmed (R63, R125) -/

/-- A tile whose flip has been confirmed. -/
def Tile.flipped (x : Tile) (e : Epoch) : Tile := { x.activate with front := e, back := .empty }

/-- The record of a scene in which tile `t` has been confirmed, with a frame other than the target where `late` (R61). -/
def SceneRec.confirm (r : SceneRec) (e : Epoch) (t : TileId) (late : Bool) : SceneRec :=
  if r.awaits e t = true then
    { r with confirmed := r.confirmed ||| bitOf t, flags := { r.flags with skewed := r.flags.skewed || late } }
  else r

/-- The shown layer table after epoch `x` has been reported (R33, R63). -/
def State.shownWith (s : State) (x : Epoch) : Option LayerTable :=
  if s.presented < x then s.composer.active.filter (fun tab => tab.epoch = x) else s.composer.shown

theorem State.present_eq (s : State) (x : Epoch) :
    s.present x = { s with presented := s.presentedWith x, composer := { s.composer with shown := s.shownWith x } } := by
  unfold State.present State.presentedWith State.shownWith
  by_cases h : s.presented < x
  · simp only [if_pos h]
    cases s.composer.active with
    | none => rfl
    | some tab =>
      rw [Option.filter_some]
      simp only [decide_eq_true_eq]
  · simp only [if_neg h]

section
variable {s : State} {i : TileId} {x : Epoch}

/-- A confirmed flip, apart from the FLIPs that wait on the tile's port. -/
theorem State.confirmFlip_ports (s : State) (i : TileId) (x : Epoch) : ∃ ps, s.confirmFlip i x = { s.modTile i (fun y => y.flipped x) with
    ports := ps
    frameRun := s.frameRun.onScene fun r => if r.awaits x i then { r with confirmed := r.confirmed ||| bitOf i } else r
    presented := s.presentedWith x, composer := { s.composer with shown := s.shownWith x } } := by
  unfold State.confirmFlip
  dsimp only
  rw [State.present_eq, State.modScene_eq]
  split <;> exact ⟨_, rfl⟩

theorem SceneRec.confirm_comp (x : Epoch) (i : TileId) (late : Bool) :
    (fun r => if r.awaits x i then { r with confirmed := r.confirmed ||| bitOf i } else r) ∘
      (fun r : SceneRec => if r.awaits x i && late then { r with flags := { r.flags with skewed := true } } else r) =
    fun r => r.confirm x i late := by
  funext r
  unfold SceneRec.confirm
  simp only [Function.comp]
  by_cases h : r.awaits x i = true
  · have hskewed (f : ResultFlags) : SceneRec.awaits { r with flags := f } x i = true := h
    have hstep : (if (r.awaits x i && late) = true then { r with flags := { r.flags with skewed := true } } else r) =
        { r with flags := { r.flags with skewed := r.flags.skewed || late } } := by
      cases late with
      | true => rw [if_pos (by rw [h]; rfl), Bool.or_true]
      | false => rw [if_neg (by rw [Bool.and_false]; exact Bool.false_ne_true), Bool.or_false]
    rw [hstep, if_pos (hskewed _), if_pos h]
  · have hstep : (if (r.awaits x i && late) = true then { r with flags := { r.flags with skewed := true } } else r) = r :=
      if_neg fun hboth => h (Bool.and_eq_true_iff.mp hboth).1
    rw [hstep, if_neg h, if_neg h]

/-- The report that confirms the flip of tile `i` (R61, R62). -/
theorem State.flipReport_confirms {f : Word} (hback : (s.tile i).back = .scheduled x f) (frame : Option Word) {late : Bool}
    (hlate : frame.any (· != f) = late) :
    ∃ ps, s.flipReport i x frame = State.settleScene { s.modTile i (fun y => y.flipped x) with
      ports := ps, frameRun := s.frameRun.onScene fun r => r.confirm x i late
      presented := s.presentedWith x, composer := { s.composer with shown := s.shownWith x } } := by
  obtain ⟨ps, hps⟩ := State.confirmFlip_ports { s with frameRun := s.frameRun.onScene (
    fun r => if r.awaits x i && late then { r with flags := { r.flags with skewed := true } } else r) } i x
  have hstep : s.flipReport i x frame = ((s.modScene fun r => if r.awaits x i && late then
      { r with flags := { r.flags with skewed := true } } else r).confirmFlip i x).settleScene := by
    unfold State.flipReport
    rw [hback, ← hlate]
    cases frame <;> exact if_pos rfl
  refine ⟨ps, ?_⟩
  rw [hstep, State.modScene_eq, hps]
  dsimp only
  rw [FrameRun.onScene_comp, SceneRec.confirm_comp]
  rfl

theorem State.flipReport_of_other (h : (s.tile i).back.isScheduled x = false) (frame : Option Word) : s.flipReport i x frame = s := by
  unfold State.flipReport
  cases hback : (s.tile i).back with
  | scheduled e f =>
    rw [hback] at h
    exact if_neg (beq_eq_false_iff_ne.mp h)
  | empty => rfl
  | loading e n => rfl
  | armed e => rfl

theorem BackStore.isScheduled_iff {b : BackStore} : b.isScheduled x = true ↔ ∃ f, b = .scheduled x f := by
  cases b with
  | scheduled e f => simp [BackStore.isScheduled]
  | empty => simp [BackStore.isScheduled]
  | loading e n => simp [BackStore.isScheduled]
  | armed e => simp [BackStore.isScheduled]

end

theorem SceneRec.outcome_confirmed {r : SceneRec} (h : r.confirmed ≠ 0) : r.outcome =
    if r.dropped ≠ 0 ∨ r.unconfirmed ≠ 0 then .partialOk else if r.flags.retried then .recovered else .ok := by
  unfold SceneRec.outcome
  exact if_neg h

theorem Mask.or_bitOf_ne_zero (m : Mask) (i : TileId) : m ||| bitOf i ≠ 0 := fun h => by
  have hnone := Mask.eq_zero_iff.mp h i
  rw [Mask.has_or, Mask.has_bitOf] at hnone
  simp at hnone

/-- What the confirmation of tile `i` does to the scene that awaits it (R67). -/
theorem State.settleScene_confirm {s u : State} {i : TileId} {x : Epoch} {late : Bool} {r : SceneRec}
    (hrun : u.frameRun = s.frameRun.onScene fun r => r.confirm x i late) (hjobs : u.jobs = s.jobs) (hr : s.scene = some r)
    (hawaits : r.awaits x i = true) :
    (r.flipSet &&& ~~~(r.confirmed ||| bitOf i ||| r.unconfirmed) ≠ 0 → ∃ v, u.settleScene.scene = some v ∧
      v.confirmed = r.confirmed ||| bitOf i ∧ v.unconfirmed = r.unconfirmed ∧ v.flags.skewed = (r.flags.skewed || late)) ∧
    (r.flipSet &&& ~~~(r.confirmed ||| bitOf i ||| r.unconfirmed) = 0 → r.stage.delivering? = false →
      ∀ j, s.running .frame = some j → s.findJob j.addr = some j → u.settleScene.scene = none ∧ u.settleScene.composer.active = none ∧
        u.settleScene.outcomeOf j.addr = some (if r.dropped ≠ 0 ∨ r.unconfirmed ≠ 0 then .partialOk
          else if r.flags.retried then .recovered else .ok)) := by
  have hconfirm : r.confirm x i late =
      { r with confirmed := r.confirmed ||| bitOf i, flags := { r.flags with skewed := r.flags.skewed || late } } := if_pos hawaits
  have hscene : u.frameRun = .scene (r.confirm x i late) := by
    rw [hrun, State.scene_eq_some.mp hr]
    rfl
  rw [hconfirm] at hscene
  have hsome := State.scene_eq_some.mpr hscene
  refine ⟨fun hopen => ?_, fun hsettled hd j hj hfind => ?_⟩
  · cases hd : r.stage.delivering? with
    | true => exact ⟨_, (congrArg State.scene (State.settleScene_of_delivering hsome hd)).trans hsome, rfl, rfl, rfl⟩
    | false => exact ⟨_, State.scene_eq_some.mpr (State.frameRun_settleScene_of_open hscene hd hopen), rfl, rfl, rfl⟩
  · obtain ⟨hidle, hactive, houtcome⟩ := State.completes hsome hd hsettled
    refine ⟨State.scene_of_idle hidle, hactive, ?_⟩
    rw [houtcome j ((State.running_of_jobs hjobs _).trans hj) ((State.findJob_of_jobs hjobs _).trans hfind)]
    exact congrArg some (SceneRec.outcome_confirmed (Mask.or_bitOf_ne_zero _ _))

section
variable {s : State} {p : PortId} {i : TileId} (hup : (s.port p).link = .up) (htile : s.tileOfPort p = some i)
include hup htile

theorem exec_statusReceived_at (st : TileStatus) : exec (.statusReceived p st) s = .next (State.settle (State.flipReport
    (s.setPort p { s.port p with silenceTimer := some (s.policy.silenceMs * 1000000) }) i st.front none)) := by
  have hup := State.takeInUp_of_up hup fun s => s.atTileOf p fun i s => s.flipReport i st.front none
  have htileHeard : (s.setPort p { s.port p with silenceTimer := some (s.policy.silenceMs * 1000000) }).tileOfPort p = some i := htile
  rw [State.atTileOf_of_tile htileHeard] at hup
  exact hup

theorem exec_flippedReceived_at (x : Epoch) (n : Word) : exec (.flippedReceived p x n) s = .next (State.settle (State.flipReport
    (s.setPort p { s.port p with silenceTimer := some (s.policy.silenceMs * 1000000) }) i x (some n))) := by
  have hup := State.takeInUp_of_up hup fun s => s.atTileOf p fun i s => s.flipReport i x (some n)
  have htileHeard : (s.setPort p { s.port p with silenceTimer := some (s.policy.silenceMs * 1000000) }).tileOfPort p = some i := htile
  rw [State.atTileOf_of_tile htileHeard] at hup
  exact hup

end

theorem Tile.flipped_fields (y : Tile) (x : Epoch) : (y.flipped x).front = x ∧ (y.flipped x).back = .empty ∧
    (y.flipped x).pendingGen = none ∧ (y.flipped x).activeGen = y.pendingGen.getD y.activeGen ∧ (y.flipped x).geom = y.geom := by
  unfold Tile.flipped Tile.activate
  cases h : y.pendingGen with
  | none => exact ⟨rfl, rfl, h, rfl, rfl⟩
  | some g => exact ⟨rfl, rfl, rfl, rfl, rfl⟩

/-- Settles O49: a report of the SCHEDULED epoch, by FLIPPED or by STATUS, and one of any other epoch. -/
theorem flipReportsConfirm : Obligations.FlipReportsConfirm := by
  intro s p i c x late hup htile hc
  have hreport : ∃ frame : Option Word, (∀ f, (s.tile i).back = .scheduled x f → frame.any (· != f) = late) ∧
      exec c s = .next (State.settle (State.flipReport
        (s.setPort p { s.port p with silenceTimer := some (s.policy.silenceMs * 1000000) }) i x frame)) := by
    rcases hc with ⟨st, rfl, rfl, rfl⟩ | ⟨n, rfl, rfl⟩
    · exact ⟨none, fun _ _ => rfl, exec_statusReceived_at hup htile st⟩
    · refine ⟨some n, fun f hback => ?_, exec_flippedReceived_at hup htile x n⟩
      rw [hback]
      exact Bool.eq_iff_iff.mpr (bne_iff_ne.trans decide_eq_true_iff.symm)
  obtain ⟨frame, hlate, hexec⟩ := hreport
  generalize hheard : s.setPort p { s.port p with silenceTimer := some (s.policy.silenceMs * 1000000) } = heard at hexec
  have htiles : heard.tiles = s.tiles := by rw [← hheard]; rfl
  have hjobs : heard.jobs = s.jobs := by rw [← hheard]; rfl
  have hrun : heard.frameRun = s.frameRun := by rw [← hheard]; rfl
  have hshown : heard.shownWith x = s.shownWith x := by rw [← hheard]; rfl
  have hpresented : heard.presentedWith x = s.presentedWith x := by rw [← hheard]; rfl
  rw [hexec]
  refine ⟨fun hother => ?_, fun hscheduled => ⟨_, rfl, ?_⟩⟩
  · rw [State.flipReport_of_other (State.tile_of_tiles htiles i ▸ hother)]
  · obtain ⟨f, hback⟩ := BackStore.isScheduled_iff.mp hscheduled
    obtain ⟨ps, hconfirmed⟩ := State.flipReport_confirms (State.tile_of_tiles htiles i ▸ hback) frame (hlate f hback)
    rw [hconfirmed, hrun, hshown, hpresented]
    generalize hu : ({ heard.modTile i (fun y => y.flipped x) with
      ports := ps, frameRun := s.frameRun.onScene fun r => r.confirm x i late
      presented := s.presentedWith x, composer := { heard.composer with shown := s.shownWith x } } : State) = u
    have hujobs : u.jobs = s.jobs := by rw [← hu]; exact hjobs
    have hurun : u.frameRun = s.frameRun.onScene fun r => r.confirm x i late := by rw [← hu]
    have hutiles : u.tiles = (heard.modTile i fun y => y.flipped x).tiles := by rw [← hu]
    have hupresented : u.presented = s.presentedWith x := by rw [← hu]
    have hushown : u.composer.shown = s.shownWith x := by rw [← hu]
    obtain ⟨hktiles, hkpresented, hkshown, -⟩ := u.settleScene_keeps
    have hself : u.settleScene.tile i = (s.tile i).flipped x := by
      rw [State.tile_of_tiles (hktiles.trans hutiles), State.tile_modTile, if_pos rfl, State.tile_of_tiles htiles]
    have hrest (k : TileId) (hk : k ≠ i) : u.settleScene.tile k = s.tile k := by
      rw [State.tile_of_tiles (hktiles.trans hutiles), State.tile_modTile, if_neg (Ne.symm hk), State.tile_of_tiles htiles]
    obtain ⟨hfront, hempty, hpending, hactive, hgeom⟩ := (s.tile i).flipped_fields x
    rw [hself]
    exact ⟨hfront, hempty, hpending, hactive, hgeom, hrest, hkpresented.trans hupresented, hkshown.trans hushown,
      fun r hr hawaits => State.settleScene_confirm hurun hujobs hr hawaits⟩

end Sys2Proof.Machine

/-! SUPPORT. The deadline and the arming rule (R57–R59), the confirmation limit (R66); O54, the limits that are counted in frames. -/
namespace Sys2Proof.Machine

/-! ## What is done at one tile after the other -/

section
variable {f : State → TileId → State} {p : PortId} (htiles : ∀ u i, (f u i).tiles = u.tiles)
  (hport : ∀ (u : State) i, (u.tile i).geom.port ≠ some p → (f u i).port p = u.port p)
include htiles

theorem State.tiles_foldl (ids : List TileId) (s : State) : (ids.foldl f s).tiles = s.tiles := by
  induction ids generalizing s with
  | nil => rfl
  | cons i ids ih => exact (ih (f s i)).trans (htiles s i)

include hport

/-- A port of none of the tiles is as it was. -/
theorem State.port_foldl_of_none {ids : List TileId} {s : State} (h : ∀ i ∈ ids, (s.tile i).geom.port ≠ some p) :
    (ids.foldl f s).port p = s.port p := by
  induction ids generalizing s with
  | nil => rfl
  | cons i ids ih =>
    rw [List.foldl_cons, ih fun j hj => by rw [State.tile_of_tiles (htiles s i)]; exact h j (List.mem_cons_of_mem i hj),
      hport s i (h i List.mem_cons_self)]

/-- A port of one of the tiles is as that tile's turn leaves it. -/
theorem State.port_foldl_of_one {g : Port → Port} {k : TileId} {x : Tile} (hself : ∀ u : State, u.tile k = x →
      (f u k).port p = g (u.port p)) {ids : List TileId} (hnodup : ids.Nodup) {s : State} (hk : k ∈ ids)
    (hhere : s.tile k = x) (hone : ∀ m : TileId, m ≠ k → (s.tile m).geom.port ≠ some p) :
    (ids.foldl f s).port p = g (s.port p) := by
  induction ids generalizing s with
  | nil => exact nomatch hk
  | cons i ids ih =>
    obtain ⟨hi, hids⟩ := List.nodup_cons.mp hnodup
    have htile (m : TileId) : (f s i).tile m = s.tile m := State.tile_of_tiles (htiles s i) m
    rw [List.foldl_cons]
    by_cases heq : i = k
    · subst heq
      rw [State.port_foldl_of_none htiles hport fun m hm => by rw [htile]; exact hone m fun hmi => hi (hmi ▸ hm), hself s hhere]
    · rw [ih hids ((List.mem_cons.mp hk).resolve_left (Ne.symm heq)) ((htile k).trans hhere)
        (fun m hm => by rw [htile]; exact hone m hm), hport s i (hone i heq)]

end

/-! ## Delivery that stops (R48) -/

section
variable {s : State} {p : PortId} {t : TileId} (h : (s.tile t).geom.port ≠ some p)
include h

theorem State.port_queueDiscard_of_ne (e : Epoch) : (s.queueDiscard t e).port p = s.port p := by
  unfold State.queueDiscard
  split
  · rfl
  · next q hq => exact State.port_modPort_ne s (fun hqp : q = p => h (hqp ▸ hq)) _

theorem State.port_freeTile_of_ne : (s.freeTile t).port p = s.port p := by
  unfold State.freeTile
  split
  · rfl
  · next q hq => exact (State.port_releaseEngine _ _ _).trans (State.port_modPort_ne s (fun hqp : q = p => h (hqp ▸ hq)) _)

theorem State.port_stopDelivery_of_ne (e : Epoch) : (s.stopDelivery e t).port p = s.port p := by
  have htile : ((s.freeTile t).tile t).geom.port ≠ some p := by
    rw [State.tile_of_sheet (State.sheet_freeTile s t)]
    exact h
  unfold State.stopDelivery
  dsimp only
  split
  · exact (State.port_queueDiscard_of_ne htile e).trans (State.port_freeTile_of_ne h)
  · exact State.port_freeTile_of_ne h

end

theorem State.tiles_of_sheet {s t : State} (h : t.sheet = s.sheet) : t.tiles = s.tiles := by
  have htiles := congrArg State.tiles h
  exact htiles

/-! ## A scene that ends early (R58, R70) -/

/-- The scene ends with outcome `o`. -/
theorem State.endsEarly {s : State} {r : SceneRec} (hr : s.scene = some r) (o : JobOutcome) :
    (s.endSceneEarly o).frameRun = .idle ∧ (s.endSceneEarly o).composer.active = none ∧
      ∀ j, s.running .frame = some j → s.findJob j.addr = some j → (s.endSceneEarly o).outcomeOf j.addr = some o := by
  unfold State.endSceneEarly
  rw [hr]
  dsimp only
  refine ⟨State.frameRun_completeScene _ _, rfl, fun j hj hfind => ?_⟩
  rw [State.outcomeOf_eq (State.findJob_of_handRunning (State.jobs_endSceneWith s r _) hj hfind)]
  rfl

/-! ## The arming rule (R58, R59) -/

theorem State.armingRule_eq {s : State} {r : SceneRec} (hr : s.scene = some r) (hd : r.stage.delivering? = true) : s.armingRule =
    if r.requireAll ∧ r.dropped ≠ 0 then s.endSceneEarly (if r.lastDrop = some .deadline then .deadline else .tileLost)
    else if r.participants &&& ~~~(s.armedMask r ||| r.dropped) = 0 ∧ s.armedMask r ≠ 0 then s.armScene r
    else if r.participants &&& ~~~r.dropped = 0 then s.endSceneEarly (if r.lastDrop = some .deadline then .deadline else .tileLost)
    else s := by
  unfold State.armingRule
  rw [hr]
  exact if_neg (by rw [hd]; exact Bool.false_ne_true)

/-- The record of a scene that is armed with this flip set and target (R59). -/
def SceneRec.arm (r : SceneRec) (flipSet : Mask) (target : Word) : SceneRec :=
  { r with flipSet := flipSet, target := some target, deadline := 0, stage := .armed }

/-- The scene that has been armed, before ARMED is handed to the bus (R59). -/
def State.flipsQueued (s : State) (r : SceneRec) : State :=
  (s.modScene fun x => x.arm (s.armedMask r) (s.ref.frameNumber + 2)).handAll (.flip r.epoch (s.ref.frameNumber + 2) false)
    (idsOf (s.armedMask r))

theorem State.armScene_eq (s : State) (r : SceneRec) : s.armScene r = (s.flipsQueued r).writeProgress .armed := rfl

theorem State.tiles_modScene (s : State) (f : SceneRec → SceneRec) : (s.modScene f).tiles = s.tiles := by
  rw [State.modScene_eq]

theorem State.ports_modScene (s : State) (f : SceneRec → SceneRec) : (s.modScene f).ports = s.ports := by
  rw [State.modScene_eq]

theorem State.tiles_writeProgress (s : State) (v : Progress) : (s.writeProgress v).tiles = s.tiles := by
  unfold State.writeProgress
  split <;> rfl

section
variable {s : State} {r : SceneRec} (hr : s.frameRun = .scene r)
include hr

theorem State.frameRun_armScene : (s.armScene r).frameRun = .scene (r.arm (s.armedMask r) (s.ref.frameNumber + 2)) := by
  rw [State.armScene_eq, State.frameRun_writeProgress, State.flipsQueued]
  obtain ⟨ps, hps⟩ := State.handAll_keeps (.flip r.epoch (s.ref.frameNumber + 2) false) (idsOf (s.armedMask r))
    (s.modScene fun x => x.arm (s.armedMask r) (s.ref.frameNumber + 2))
  rw [hps]
  exact State.frameRun_modScene_of_scene hr _

omit hr in
theorem State.tiles_armScene : (s.armScene r).tiles = s.tiles := by
  rw [State.armScene_eq, State.tiles_writeProgress, State.flipsQueued]
  obtain ⟨ps, hps⟩ := State.handAll_keeps (.flip r.epoch (s.ref.frameNumber + 2) false) (idsOf (s.armedMask r))
    (s.modScene fun x => x.arm (s.armedMask r) (s.ref.frameNumber + 2))
  rw [hps]
  exact State.tiles_modScene s _

omit hr in
/-- ARMED is handed to the bus (R55, R59). -/
theorem State.writes_armScene {j : Job} (hj : s.running .frame = some j) (hfind : s.findJob j.addr = some j) :
    ((s.armScene r).findJob j.addr).map Job.writes = some (j.writes ++ [.progress .armed]) := by
  have hjobs : (s.flipsQueued r).jobs = s.jobs := by
    rw [State.flipsQueued]
    obtain ⟨ps, hps⟩ := State.handAll_keeps (.flip r.epoch (s.ref.frameNumber + 2) false) (idsOf (s.armedMask r))
      (s.modScene fun x => x.arm (s.armedMask r) (s.ref.frameNumber + 2))
    rw [hps]
    exact State.jobs_modScene s _
  rw [State.armScene_eq, State.writeProgress_eq ((State.running_of_jobs hjobs _).trans hj), State.findJob_addWrite,
    State.findJob_of_jobs hjobs, hfind]
  rfl

omit hr in
/-- The port of a tile that is armed has its FLIP behind what waited there (R59). -/
theorem State.queue_armScene {k : TileId} {q : PortId} (hk : Mask.has (s.armedMask r) k = true) (hport : (s.tile k).geom.port = some q)
    (hon : (s.port q).link ≠ .off) (hone : ∀ m : TileId, m ≠ k → (s.tile m).geom.port ≠ some q) :
    (s.armScene r).port q = { s.port q with queue := (s.port q).queue ++ [.flip r.epoch (s.ref.frameNumber + 2) false] } := by
  have htile (m : TileId) : (s.modScene fun x => x.arm (s.armedMask r) (s.ref.frameNumber + 2)).tile m = s.tile m :=
    State.tile_of_tiles (State.tiles_modScene s _) m
  have hsame : (s.modScene fun x => x.arm (s.armedMask r) (s.ref.frameNumber + 2)).port q = s.port q :=
    State.port_of_ports (State.ports_modScene s _) q
  rw [State.armScene_eq, State.port_of_ports (State.ports_writeProgress _ _), State.flipsQueued,
    State.port_handAll_of_one _ (nodup_idsOf _) (mem_idsOf.mpr hk) (by rw [htile]; exact hport) fun m hm => by rw [htile]; exact hone m hm,
    hsame]
  exact if_neg hon

omit hr in
theorem State.port_armScene {q : PortId} (hnone : ∀ k : TileId, Mask.has (s.armedMask r) k = true → (s.tile k).geom.port ≠ some q) :
    (s.armScene r).port q = s.port q := by
  have htile (m : TileId) : (s.modScene fun x => x.arm (s.armedMask r) (s.ref.frameNumber + 2)).tile m = s.tile m :=
    State.tile_of_tiles (State.tiles_modScene s _) m
  rw [State.armScene_eq, State.port_of_ports (State.ports_writeProgress _ _), State.flipsQueued,
    State.port_handAll_of_none _ fun i hi => by rw [htile]; exact hnone i (mem_idsOf.mp hi)]
  exact State.port_of_ports (State.ports_modScene s _) q

end

/-! ## The deadline expires (R57) -/

/-- The participants that are neither dropped nor ARMED. -/
def State.late (s : State) (r : SceneRec) : Mask := r.participants &&& ~~~(s.armedMask r ||| r.dropped)

/-- The record of a scene whose deadline has dropped these participants. -/
def SceneRec.overdue (r : SceneRec) (late : Mask) : SceneRec :=
  { r with deadline := 0, dropped := r.dropped ||| late, lastDrop := some .deadline }

/-- The scene whose late participants have been dropped (R57). -/
def State.overdue (s : State) (r : SceneRec) : State :=
  (idsOf (s.late r)).foldl (fun u t => u.stopDelivery r.epoch t) { s with frameRun := .scene (r.overdue (s.late r)) }

section
variable {s : State} {r : SceneRec}

theorem State.sheet_overdue (s : State) (r : SceneRec) :
    (s.overdue r).sheet = ({ s with frameRun := .scene (r.overdue (s.late r)) } : State).sheet :=
  foldl_keeps State.sheet _ (fun u t => u.sheet_stopDelivery r.epoch t) _ _

theorem State.armedMask_overdue : (s.overdue r).armedMask (r.overdue (s.late r)) = s.armedMask r := by
  rw [State.armedMask_of_sheet (s.sheet_overdue r)]
  refine Mask.ext fun t => ?_
  have harmed : Mask.has (s.armedMask r) t =
      (Mask.has r.participants t && !Mask.has r.dropped t && (s.tile t).back.isArmed r.epoch) := Mask.has_maskOf _ t
  refine (Mask.has_maskOf _ t).trans ?_
  show (Mask.has r.participants t && !Mask.has (r.dropped ||| s.late r) t && (s.tile t).back.isArmed r.epoch) = _
  rw [State.late, Mask.has_or, Mask.has_and, Mask.has_not, Mask.has_or, harmed]
  cases Mask.has r.participants t <;> cases Mask.has r.dropped t <;> cases (s.tile t).back.isArmed r.epoch <;> rfl

section
variable (hr : s.frameRun = .scene r) (hd : r.stage.delivering? = true)
include hr

theorem State.expireDeadline_dropTiles : s.expireDeadline =
    ({ s with frameRun := .scene { r with deadline := 0 } } : State).dropTiles (r.participants &&& ~~~s.armedMask r) .deadline := by
  unfold State.expireDeadline
  rw [State.scene_eq_some.mpr hr]
  dsimp only
  rw [State.modScene_eq, hr]
  rfl

omit hr in
theorem State.late_eq : r.participants &&& ~~~s.armedMask r &&& r.participants &&& ~~~r.dropped = s.late r := by
  unfold State.late
  refine Mask.ext fun t => ?_
  simp only [Mask.has_and, Mask.has_not, Mask.has_or]
  cases Mask.has r.participants t <;> cases Mask.has r.dropped t <;> cases Mask.has (s.armedMask r) t <;> rfl

theorem State.expireDeadline_of_none (hlate : s.late r = 0) :
    s.expireDeadline = { s with frameRun := .scene { r with deadline := 0 } } := by
  rw [State.expireDeadline_dropTiles hr]
  exact State.dropTiles_none (r := { r with deadline := 0 }) rfl ((State.late_eq (s := s) (r := r)).trans hlate) _

include hd

theorem State.expireDeadline_of_some (hlate : s.late r ≠ 0) : s.expireDeadline = (s.overdue r).armingRule := by
  rw [State.expireDeadline_dropTiles hr]
  exact State.dropTiles_some (r := { r with deadline := 0 }) rfl hd (State.late_eq (s := s) (r := r)) hlate .deadline

/-- The scene that has late participants ends, or goes on with the tiles that are ARMED (R57, R58). -/
theorem State.expireDeadline_eq (hlate : s.late r ≠ 0) : s.expireDeadline =
    if r.requireAll = true ∨ s.armedMask r = 0 then (s.overdue r).endSceneEarly .deadline
    else (s.overdue r).armScene (r.overdue (s.late r)) := by
  have hscene : (s.overdue r).scene = some (r.overdue (s.late r)) := by
    have hrun := congrArg State.frameRun (s.sheet_overdue r)
    exact State.scene_eq_some.mpr hrun
  have hdropped : (r.overdue (s.late r)).dropped ≠ 0 := fun hnone => hlate (Mask.eq_zero_iff.mpr fun t => by
    have ht := Mask.eq_zero_iff.mp hnone t
    exact (Bool.or_eq_false_iff.mp ((Mask.has_or r.dropped (s.late r) t).symm.trans ht)).2)
  have hall : (r.overdue (s.late r)).participants &&& ~~~(s.armedMask r ||| (r.overdue (s.late r)).dropped) = 0 := by
    refine Mask.eq_zero_iff.mpr fun t => ?_
    show Mask.has (r.participants &&& ~~~(s.armedMask r ||| (r.dropped ||| s.late r))) t = false
    rw [State.late, Mask.has_and, Mask.has_not, Mask.has_or, Mask.has_or, Mask.has_and, Mask.has_not, Mask.has_or]
    cases Mask.has r.participants t <;> cases Mask.has r.dropped t <;> cases Mask.has (s.armedMask r) t <;> rfl
  rw [State.expireDeadline_of_some hr hd hlate, State.armingRule_eq hscene hd, State.armedMask_overdue]
  by_cases hrequire : r.requireAll = true
  · exact (if_pos ⟨hrequire, hdropped⟩).trans (if_pos (.inl hrequire)).symm
  · rw [if_neg fun h => hrequire h.1]
    by_cases harmed : s.armedMask r = 0
    · have hnone : (r.overdue (s.late r)).participants &&& ~~~(r.overdue (s.late r)).dropped = 0 := by
        have hzero (m : Mask) : 0 ||| m = m := BitVec.zero_or
        rw [harmed, hzero] at hall
        exact hall
      rw [if_neg fun h => h.2 harmed, if_pos hnone]
      exact (if_pos (Or.inr harmed)).symm
    · rw [if_pos ⟨hall, harmed⟩, if_neg fun h => h.elim hrequire harmed]

/-- The late participants end the scene (R57, R58). -/
theorem State.expires (hlate : s.late r ≠ 0) (hends : r.requireAll = true ∨ s.armedMask r = 0) : s.expireDeadline.frameRun = .idle ∧
    s.expireDeadline.composer.active = none ∧
    ∀ j, s.running .frame = some j → s.findJob j.addr = some j → s.expireDeadline.outcomeOf j.addr = some .deadline := by
  have hrun := congrArg State.frameRun (s.sheet_overdue r)
  have hjobs := congrArg State.jobs (s.sheet_overdue r)
  obtain ⟨hidle, hactive, houtcome⟩ := State.endsEarly (s := s.overdue r) (State.scene_eq_some.mpr hrun) .deadline
  rw [State.expireDeadline_eq hr hd hlate, if_pos hends]
  exact ⟨hidle, hactive, fun j hj hfind =>
    houtcome j ((State.running_of_jobs hjobs _).trans hj) ((State.findJob_of_jobs hjobs _).trans hfind)⟩

/-- The tiles that are ARMED go on without the late ones (R57, R59). -/
theorem State.arms (hlate : s.late r ≠ 0) (hrequire : r.requireAll = false) (harmed : s.armedMask r ≠ 0) :
    s.expireDeadline.frameRun = .scene ((r.overdue (s.late r)).arm (s.armedMask r) (s.ref.frameNumber + 2)) ∧
    s.expireDeadline.tiles = s.tiles ∧
    (∀ j, s.running .frame = some j → s.findJob j.addr = some j →
      (s.expireDeadline.findJob j.addr).map Job.writes = some (j.writes ++ [.progress .armed])) ∧
    (∀ (k : TileId) (q : PortId), Mask.has (s.armedMask r) k = true → (s.tile k).geom.port = some q → (s.port q).link ≠ .off →
      (∀ m : TileId, m ≠ k → (s.tile m).geom.port ≠ some q) →
      s.expireDeadline.port q = { s.port q with queue := (s.port q).queue ++ [.flip r.epoch (s.ref.frameNumber + 2) false] }) := by
  have hrun := congrArg State.frameRun (s.sheet_overdue r)
  have hjobs := congrArg State.jobs (s.sheet_overdue r)
  have hnumber := congrArg (fun u : State => u.ref.frameNumber) (s.sheet_overdue r)
  have hnumber : (s.overdue r).ref.frameNumber = s.ref.frameNumber := hnumber
  have htiles := State.tiles_of_sheet (s.sheet_overdue r)
  have hframe := State.frameRun_armScene (s := s.overdue r) hrun
  rw [State.armedMask_overdue, hnumber] at hframe
  rw [State.expireDeadline_eq hr hd hlate, if_neg fun h => h.elim (fun htrue => Bool.false_ne_true (hrequire.symm.trans htrue)) harmed]
  refine ⟨hframe, State.tiles_armScene.trans htiles, fun j hj hfind =>
    State.writes_armScene ((State.running_of_jobs hjobs _).trans hj) ((State.findJob_of_jobs hjobs _).trans hfind),
    fun k q hk hport hon hone => ?_⟩
  have hkept : (s.overdue r).port q = s.port q := by
    refine State.port_foldl_of_none (s := { s with frameRun := .scene (r.overdue (s.late r)) })
      (fun u i => State.tiles_of_sheet (u.sheet_stopDelivery r.epoch i)) (fun u i hi => State.port_stopDelivery_of_ne hi r.epoch)
      fun i hi hiq => ?_
    have hik : i = k := by_contra fun hne => hone i hne hiq
    have hlateK := hik ▸ mem_idsOf.mp hi
    rw [State.late, Mask.has_and, Mask.has_not, Mask.has_or, hk] at hlateK
    simp at hlateK
  have harm := State.queue_armScene (s := s.overdue r) (r := r.overdue (s.late r)) (k := k) (q := q)
    (by rw [State.armedMask_overdue]; exact hk) (by rw [State.tile_of_tiles htiles]; exact hport) (by rw [hkept]; exact hon)
    fun m hm => by rw [State.tile_of_tiles htiles]; exact hone m hm
  rw [hkept, hnumber] at harm
  exact harm

end

end

/-! ## The confirmation limit (R66) -/

section
variable {s : State} {r : SceneRec} {i : TileId}

/-- What the confirmation limit of tile `i` does to the packets that wait for its port. -/
def Tile.limitQueue (x : Tile) (e : Epoch) (ks : List Reliable) : List Reliable :=
  if x.back.isScheduled e then ks.filter fun k => !k.isFlipOf e else ks.map fun k => if k.isFlipOf e then .discard e else k

theorem State.passLimit_keeps (s : State) (r : SceneRec) (i : TileId) : ∃ ps, s.passLimit r i =
    { s.unconfirm i .limit with ports := ps } := by
  unfold State.passLimit
  dsimp only
  split
  · exact ⟨_, rfl⟩
  · split <;> exact ⟨_, rfl⟩

theorem State.tile_unconfirm (s : State) (i k : TileId) (c : UnconfirmedCause) : (s.unconfirm i c).tile k = s.tile k :=
  State.tile_of_tiles (State.tiles_modScene s _) k

theorem State.port_unconfirm (s : State) (i : TileId) (p : PortId) (c : UnconfirmedCause) : (s.unconfirm i c).port p = s.port p :=
  State.port_of_ports (State.ports_modScene s _) p

theorem State.port_passLimit_of_ne {p : PortId} (h : (s.tile i).geom.port ≠ some p) (r : SceneRec) :
    (s.passLimit r i).port p = s.port p := by
  unfold State.passLimit
  dsimp only
  rw [State.tile_unconfirm]
  split
  · exact State.port_unconfirm s i p _
  · next q hq =>
    have hne : q ≠ p := fun hqp => h (hqp ▸ hq)
    split <;> exact (State.port_modPort_ne _ hne _).trans (State.port_unconfirm s i p _)

theorem State.port_passLimit {p : PortId} (h : (s.tile i).geom.port = some p) (r : SceneRec) :
    (s.passLimit r i).port p = { s.port p with queue := (s.tile i).limitQueue r.epoch (s.port p).queue } := by
  unfold State.passLimit Tile.limitQueue
  dsimp only
  rw [State.tile_unconfirm, h]
  dsimp only
  split
  · rw [State.port_modPort_self, State.port_unconfirm]
    rfl
  · rw [State.port_modPort_self, State.port_unconfirm]

/-- The record of a scene in which the limits of these tiles have passed. -/
def SceneRec.limited (r : SceneRec) (due : Mask) : SceneRec :=
  { r with unconfirmed := r.unconfirmed ||| due, lastUnconf := if due = 0 then r.lastUnconf else some .limit }

theorem SceneRec.limited_bitOf (r : SceneRec) (i : TileId) :
    r.limited (bitOf i) = { r with unconfirmed := r.unconfirmed ||| bitOf i, lastUnconf := some .limit } := by
  unfold SceneRec.limited
  rw [if_neg fun h => Mask.or_bitOf_ne_zero 0 i ((BitVec.zero_or).trans h)]

theorem State.frameRun_passLimit (hr : s.frameRun = .scene r) (x : SceneRec) (i : TileId) :
    (s.passLimit x i).frameRun = .scene (r.limited (bitOf i)) := by
  obtain ⟨ps, hps⟩ := s.passLimit_keeps x i
  rw [hps, SceneRec.limited_bitOf]
  exact State.frameRun_modScene_of_scene hr _

end

theorem Reference.framesOccur_iff (r : Reference) : r.framesOccur = true ↔ r.state = .intern ∨ r.state = .extern := by
  unfold Reference.framesOccur
  rw [Bool.or_eq_true, beq_iff_eq, beq_iff_eq]

/-- The confirmation limit is one frame start away, or has passed (R66). -/
theorem State.limitNext_iff (s : State) (i : TileId) : s.limitNext i = true ↔ (s.ref.state = .intern ∨ s.ref.state = .extern) ∧
    ∃ r, s.frameRun = .scene r ∧ r.awaits r.epoch i = true ∧ (s.ref.frameNumber + 1 - (s.limitTarget r i + 8)).toNat < 2 ^ 31 := by
  unfold State.limitNext
  cases hscene : s.scene with
  | none => exact ⟨nofun, fun ⟨_, r, hr, _⟩ => nomatch hscene.symm.trans (State.scene_eq_some.mpr hr)⟩
  | some r =>
    have hr := State.scene_eq_some.mp hscene
    have hlater : laterOrEqual (s.ref.frameNumber + 1) (s.limitTarget r i + 8) = true ↔
        (s.ref.frameNumber + 1 - (s.limitTarget r i + 8)).toNat < 2 ^ 31 := decide_eq_true_iff
    dsimp only
    rw [Bool.and_eq_true, Bool.and_eq_true, Reference.framesOccur_iff, hlater, and_assoc]
    refine and_congr_right fun _ => ⟨fun ⟨hawaits, hpast⟩ => ⟨r, hr, hawaits, hpast⟩, fun ⟨x, hx, hawaits, hpast⟩ => ?_⟩
    obtain rfl : r = x := FrameRun.scene.inj (hr.symm.trans hx)
    exact ⟨hawaits, hpast⟩

theorem State.framesOccur_of_stopped {s : State} (h : s.ref.state = .stalled ∨ s.ref.state = .stopped) : ¬s.ref.framesOccur = true :=
  fun hyes => by
    rcases h with h | h <;> rcases (Reference.framesOccur_iff _).mp hyes with h' | h' <;> exact nomatch h.symm.trans h'

theorem exec_deadlineExpiry_expires {s : State} {r : SceneRec} (hr : s.frameRun = .scene r) (hd : r.stage.delivering? = true)
    (hone : r.deadline = 1) (hframes : s.ref.state = .intern ∨ s.ref.state = .extern) :
    exec .deadlineExpiry s = .next s.expireDeadline.settle := by
  have hnext : s.deadlineNext = true := by
    unfold State.deadlineNext
    rw [State.scene_eq_some.mpr hr]
    dsimp only
    rw [(Reference.framesOccur_iff _).mpr hframes, hd, hone]
    rfl
  exact if_pos hnext

theorem exec_confirmationLimit_passes {s : State} {r : SceneRec} {i : TileId} (hr : s.frameRun = .scene r) (hnext : s.limitNext i = true) :
    exec (.confirmationLimit i) s = .next (s.passLimit r i).settleScene.settle := by
  show execConfirmationLimit i s = _
  unfold execConfirmationLimit
  rw [State.scene_eq_some.mpr hr]
  exact if_pos hnext

theorem exec_limits_of_stopped {s : State} (h : s.ref.state = .stalled ∨ s.ref.state = .stopped) : exec .deadlineExpiry s = .next s ∧
    ∀ i : TileId, exec (.confirmationLimit i) s = .next s := by
  have hframes := State.framesOccur_of_stopped h
  refine ⟨if_neg fun hnext => ?_, fun i => ?_⟩
  · unfold State.deadlineNext at hnext
    split at hnext
    · exact nomatch hnext
    · rw [Bool.and_assoc, Bool.and_eq_true] at hnext
      exact hframes hnext.1
  · show execConfirmationLimit i s = _
    unfold execConfirmationLimit
    split
    · rfl
    · exact if_neg fun hnext => hframes ((Reference.framesOccur_iff _).mpr ((s.limitNext_iff i).mp hnext).1)

/-- Settles O54: the deadline, the stopped reference, what is next, and a limit that passes. -/
theorem frameLimitsDropAndUnconfirm : Obligations.FrameLimitsDropAndUnconfirm := by
  refine ⟨fun s r j hr hd hone hframes hj hfind hlate => ⟨fun hends => ?_, fun hrequire harmed => ?_⟩,
    fun s h => exec_limits_of_stopped h, State.limitNext_iff, fun s r i hr hawaits hnext hd => ?_⟩
  · obtain ⟨hidle, hactive, houtcome⟩ := State.expires hr hd hlate hends
    exact ⟨_, exec_deadlineExpiry_expires hr hd hone hframes, hidle, hactive, houtcome j hj hfind⟩
  · obtain ⟨hrun, -, hwrites, hqueue⟩ := State.arms hr hd hlate hrequire harmed
    exact ⟨_, exec_deadlineExpiry_expires hr hd hone hframes, _, hrun, rfl, rfl, rfl, rfl, rfl, rfl, hwrites j hj hfind,
      fun k q hk hport hon hone => congrArg Port.queue (hqueue k q hk hport hon hone)⟩
  · have hexec := exec_confirmationLimit_passes hr hnext
    have hrun := State.frameRun_passLimit hr r i
    obtain ⟨ps, hps⟩ := s.passLimit_keeps r i
    have hjobs : (s.passLimit r i).jobs = s.jobs := by
      rw [hps]
      exact State.jobs_modScene s _
    rw [SceneRec.limited_bitOf] at hrun
    refine ⟨fun hopen => ⟨_, hexec, _, State.frameRun_settleScene_of_open hrun hd hopen, rfl, rfl, rfl⟩, fun hsettled j hj hfind => ?_,
      fun p hport hback => ⟨_, hexec, ?_⟩⟩
    · obtain ⟨hidle, -, houtcome⟩ := State.completes (State.scene_eq_some.mpr hrun) hd hsettled
      refine ⟨_, hexec, hidle, (houtcome j ((State.running_of_jobs hjobs _).trans hj) ((State.findJob_of_jobs hjobs _).trans hfind)).trans ?_⟩
      refine congrArg some (if_congr Iff.rfl (if_pos rfl) (if_pos (.inr (Mask.or_bitOf_ne_zero _ _))))
    · obtain ⟨-, -, -, hports⟩ := (s.passLimit r i).settleScene_keeps
      rw [State.port_of_ports hports, State.port_passLimit hport]
      exact if_neg (by rw [hback]; exact Bool.false_ne_true)

end Sys2Proof.Machine

/-! O52, frame starts (R57, R66, R67, R87, R129–R131). -/
namespace Sys2Proof.Machine

/-! ## What a port's queue may have gained -/

/-- Whatever waits in `y` and did not wait in `x` satisfies `P`. -/
def Port.Adds (P : Reliable → Prop) (x y : Port) : Prop := ∀ k ∈ y.queue, k ∈ x.queue ∨ P k

/-- The same for every port. -/
def State.Adds (P : Reliable → Prop) (s t : State) : Prop := ∀ p : PortId, (s.port p).Adds P (t.port p)

section
variable {P : Reliable → Prop}

theorem Port.Adds.refl (x : Port) : x.Adds P x := fun _ => .inl

theorem Port.Adds.trans {x y z : Port} (h : x.Adds P y) (k : y.Adds P z) : x.Adds P z :=
  fun m hm => (k m hm).elim (h m) .inr

theorem Port.adds_of_queue {x y : Port} (h : y.queue = x.queue) : x.Adds P y := fun _ hk => .inl (h ▸ hk)

theorem Port.adds_dropQueued (x : Port) (f : Reliable → Bool) : x.Adds P (x.dropQueued f) := fun _ hk => .inl (List.mem_of_mem_filter hk)

theorem Port.adds_enqueue (x : Port) {k : Reliable} (h : P k) : x.Adds P (x.enqueue k) := by
  unfold Port.enqueue
  split
  · exact Port.Adds.refl x
  · exact fun m hm => (List.mem_append.mp hm).imp_right fun hmk => by rw [List.mem_singleton.mp hmk]; exact h

theorem Port.adds_freeUnsent (x : Port) : x.Adds P x.freeUnsent := by
  have hdrop (b : BufId) (y : Port) : y.Adds P (match y.buf b with
      | .composing _ | .ready _ => y.freeBuf b
      | .free | .sent _ => y) := by
    split
    · exact Port.adds_of_queue (y.queue_freeBuf b)
    · exact Port.adds_of_queue (y.queue_freeBuf b)
    · exact Port.Adds.refl y
    · exact Port.Adds.refl y
  exact ((hdrop .first x).trans (hdrop .second _)).trans (Port.adds_dropQueued _ _)

theorem State.Adds.refl (s : State) : s.Adds P s := fun _ => Port.Adds.refl _

theorem State.Adds.trans {s t u : State} (h : s.Adds P t) (k : t.Adds P u) : s.Adds P u := fun p => (h p).trans (k p)

theorem State.adds_of_ports {s t : State} (h : t.ports = s.ports) : s.Adds P t := fun p => by
  rw [State.port_of_ports h p]
  exact Port.Adds.refl _

theorem State.adds_modPort (s : State) (p : PortId) {f : Port → Port} (h : (s.port p).Adds P (f (s.port p))) :
    s.Adds P (s.modPort p f) := fun q => by
  rw [State.port_modPort]
  split
  · next hq => exact hq ▸ h
  · exact Port.Adds.refl _

theorem State.adds_foldl {β : Type} {f : State → β → State} (h : ∀ u b, State.Adds P u (f u b)) (bs : List β) (s : State) :
    s.Adds P (bs.foldl f s) := by
  induction bs generalizing s with
  | nil => exact State.Adds.refl s
  | cons b bs ih => exact (h s b).trans (ih (f s b))

section
variable (s : State)

theorem State.adds_releaseEngine (p : PortId) : s.Adds P (s.releaseEngine p) := fun q => by
  rw [State.port_releaseEngine]
  exact Port.Adds.refl _

theorem State.adds_freeTile (t : TileId) : s.Adds P (s.freeTile t) := by
  unfold State.freeTile
  split
  · exact State.Adds.refl s
  · exact (s.adds_modPort _ (Port.adds_freeUnsent _)).trans (State.adds_releaseEngine _ _)

theorem State.adds_queueDiscard (t : TileId) {e : Epoch} (h : P (.discard e)) : s.Adds P (s.queueDiscard t e) := by
  unfold State.queueDiscard
  split
  · exact State.Adds.refl s
  · refine s.adds_modPort _ ?_
    split
    · exact Port.Adds.refl _
    · exact Port.adds_enqueue _ h

theorem State.adds_stopDelivery (t : TileId) {e : Epoch} (h : P (.discard e)) : s.Adds P (s.stopDelivery e t) := by
  unfold State.stopDelivery
  dsimp only
  split
  · exact (s.adds_freeTile t).trans (State.adds_queueDiscard _ t h)
  · exact s.adds_freeTile t

theorem State.adds_handAll {k : Reliable} (h : P k) (ids : List TileId) : s.Adds P (s.handAll k ids) := by
  refine State.adds_foldl (fun u t => ?_) ids s
  show u.Adds P (u.handPacket t k)
  unfold State.handPacket
  split
  · exact State.Adds.refl u
  · exact u.adds_modPort _ (Port.adds_enqueue _ h)

theorem State.adds_armScene (r : SceneRec) (h : P (.flip r.epoch (s.ref.frameNumber + 2) false)) : s.Adds P (s.armScene r) := by
  rw [State.armScene_eq]
  exact ((State.adds_of_ports (State.ports_modScene s _)).trans (State.adds_handAll _ h _)).trans
    (State.adds_of_ports (State.ports_writeProgress _ _))

theorem State.adds_overdue (r : SceneRec) (h : P (.discard r.epoch)) : s.Adds P (s.overdue r) :=
  State.Adds.trans (t := { s with frameRun := .scene (r.overdue (s.late r)) }) (State.adds_of_ports rfl)
    (State.adds_foldl (fun u t => u.adds_stopDelivery t h) _ _)

end

end

/-! ## The frame that a limit counts from (R64, R66) -/

section
variable {s : State} {r : SceneRec} {i : TileId}

theorem State.limitTarget_scheduled {e : Epoch} {f : Word} (h : (s.tile i).back = .scheduled e f) : s.limitTarget r i = f := by
  unfold State.limitTarget
  rw [h]

theorem State.limitTarget_of_none (hback : ∀ e f, (s.tile i).back ≠ .scheduled e f) (hport : (s.tile i).geom.port = none) :
    s.limitTarget r i = r.target.getD 0 := by
  unfold State.limitTarget
  rw [hport]
  split
  · next f hf => exact absurd hf (hback _ f)
  all_goals rfl

theorem State.limitTarget_of_some (hback : ∀ e f, (s.tile i).back ≠ .scheduled e f) {p : PortId} (hport : (s.tile i).geom.port = some p) :
    s.limitTarget r i = ((s.port p).queue.findSome? (Reliable.flipTarget? r.epoch)).getD (r.target.getD 0) := by
  unfold State.limitTarget
  rw [hport]
  split
  · next f hf => exact absurd hf (hback _ f)
  all_goals rfl

theorem Reliable.flipTarget?_of_other {k : Reliable} {e : Epoch} (h : k.isFlipOf e = false) : k.flipTarget? e = none := by
  cases k with
  | flip e' f fresh => exact if_neg (beq_eq_false_iff_ne.mp h)
  | stripe b => rfl
  | discard e' => rfl
  | table l n again => rfl
  | check e' n again => rfl

theorem findSome?_flipTarget?_of_none {ks : List Reliable} {e : Epoch} (h : ∀ k ∈ ks, k.isFlipOf e = false) :
    ks.findSome? (Reliable.flipTarget? e) = none :=
  List.findSome?_eq_none_iff.mpr fun k hk => Reliable.flipTarget?_of_other (h k hk)

theorem findSome?_flipTarget?_of_first {before after : List Reliable} {e : Epoch} {f : Word} {fresh : Bool}
    (h : ∀ k ∈ before, k.isFlipOf e = false) :
    (before ++ .flip e f fresh :: after).findSome? (Reliable.flipTarget? e) = some f := by
  rw [List.findSome?_append, findSome?_flipTarget?_of_none h, Option.none_or, List.findSome?_cons]
  rw [show Reliable.flipTarget? e (.flip e f fresh) = some f from if_pos rfl]

theorem State.limitTarget_congr {t : State} (htile : t.tile i = s.tile i) (hqueue : ∀ p : PortId, (t.port p).queue = (s.port p).queue) :
    t.limitTarget r i = s.limitTarget r i := by
  unfold State.limitTarget
  rw [htile]
  cases (s.tile i).geom.port with
  | none => rfl
  | some p =>
    dsimp only
    rw [hqueue]

/-- A tile with an ARMED record whose port holds no FLIP of the epoch but those of target `f`. -/
theorem State.limitTarget_armed {e : Epoch} {f : Word} (hback : (s.tile i).back = .armed e) (htarget : r.target = some f)
    (hqueue : ∀ p : PortId, ∀ k ∈ (s.port p).queue, k.isFlipOf r.epoch = false ∨ k = .flip r.epoch f false) : s.limitTarget r i = f := by
  have hscheduled : ∀ e f, (s.tile i).back ≠ .scheduled e f := fun _ _ h => nomatch hback.symm.trans h
  cases hport : (s.tile i).geom.port with
  | none => rw [State.limitTarget_of_none hscheduled hport, htarget, Option.getD_some]
  | some p =>
    rw [State.limitTarget_of_some hscheduled hport, htarget, Option.getD_some]
    cases hfound : (s.port p).queue.findSome? (Reliable.flipTarget? r.epoch) with
    | none => rfl
    | some g =>
      obtain ⟨k, hk, hg⟩ := List.exists_of_findSome?_eq_some hfound
      rcases hqueue p k hk with hother | rfl
      · exact nomatch (Reliable.flipTarget?_of_other hother).symm.trans hg
      · exact Option.some.inj (hg.symm.trans (if_pos rfl))

end

/-! ## The limits at a frame start (R66) -/

/-- The tiles whose confirmation limit is the frame start that has just been numbered. -/
def State.due (s : State) (r : SceneRec) : Mask := maskOf fun i => r.awaits r.epoch i && s.ref.frameNumber == s.limitTarget r i + 8

theorem State.has_due (s : State) (r : SceneRec) (i : TileId) :
    Mask.has (s.due r) i = (r.awaits r.epoch i && s.ref.frameNumber == s.limitTarget r i + 8) := Mask.has_maskOf _ i

/-- The tiles of a list as a mask. -/
def gather (ids : List TileId) : Mask := ids.foldr (fun t m => bitOf t ||| m) 0

theorem has_gather (ids : List TileId) (t : TileId) : Mask.has (gather ids) t = decide (t ∈ ids) := by
  induction ids with
  | nil => exact Mask.has_zero t
  | cons i ids ih =>
    have hcons : gather (i :: ids) = bitOf i ||| gather ids := rfl
    rw [hcons, Mask.has_or, Mask.has_bitOf, ih]
    simp [eq_comm]

theorem gather_idsOf (m : Mask) : gather (idsOf m) = m := Mask.ext fun t => by
  rw [has_gather]
  exact Bool.eq_iff_iff.mpr (decide_eq_true_iff.trans mem_idsOf)

theorem SceneRec.limited_zero (r : SceneRec) : r.limited 0 = r := by
  have hzero : r.unconfirmed ||| 0 = r.unconfirmed := BitVec.or_zero
  unfold SceneRec.limited
  rw [hzero, if_pos rfl]

theorem SceneRec.limited_limited (r : SceneRec) (a b : Mask) : (r.limited a).limited b = r.limited (a ||| b) := by
  have hnone : a ||| b = 0 ↔ a = 0 ∧ b = 0 := by
    simp only [Mask.eq_zero_iff, Mask.has_or, Bool.or_eq_false_iff, forall_and]
  unfold SceneRec.limited
  dsimp only
  rw [BitVec.or_assoc]
  by_cases hb : b = 0
  · subst hb
    have hzero : a ||| 0 = a := BitVec.or_zero
    rw [hzero, if_pos rfl]
  · simp only [hnone, hb, and_false, if_false]

/-- The scene after the limits of these tiles have passed. -/
theorem State.frameRun_passLimits {s : State} {r : SceneRec} (hr : s.frameRun = .scene r) (x : SceneRec) (ids : List TileId) :
    (ids.foldl (fun u t => u.passLimit x t) s).frameRun = .scene (r.limited (gather ids)) := by
  induction ids generalizing s r with
  | nil => exact hr.trans (congrArg FrameRun.scene r.limited_zero.symm)
  | cons i ids ih =>
    rw [List.foldl_cons, ih (State.frameRun_passLimit hr x i), SceneRec.limited_limited]
    rfl

/-- The state in which the limits of frame start have passed, before the scene is settled. -/
def State.pastLimits (s : State) (r : SceneRec) : State := (idsOf (s.due r)).foldl (fun u t => u.passLimit r t) s

section
variable {s : State} {r : SceneRec} (hr : s.frameRun = .scene r)

theorem State.tiles_passLimit (s : State) (r : SceneRec) (i : TileId) : (s.passLimit r i).tiles = s.tiles := by
  obtain ⟨ps, hps⟩ := s.passLimit_keeps r i
  rw [hps]
  exact State.tiles_modScene s _

theorem State.jobs_pastLimits (s : State) (r : SceneRec) : (s.pastLimits r).jobs = s.jobs := by
  refine foldl_keeps State.jobs _ (fun u t => ?_) _ _
  obtain ⟨ps, hps⟩ := u.passLimit_keeps r t
  rw [hps]
  exact State.jobs_modScene u _

theorem State.port_pastLimits_of_none {p : PortId} (h : ∀ i : TileId, Mask.has (s.due r) i = true → (s.tile i).geom.port ≠ some p) :
    (s.pastLimits r).port p = s.port p :=
  State.port_foldl_of_none (fun u i => u.tiles_passLimit r i) (fun _ _ hi => State.port_passLimit_of_ne hi r)
    fun i hi => h i (mem_idsOf.mp hi)

theorem State.port_pastLimits_of_one {i : TileId} {p : PortId} (hi : Mask.has (s.due r) i = true) (hport : (s.tile i).geom.port = some p)
    (hone : ∀ m : TileId, m ≠ i → (s.tile m).geom.port ≠ some p) :
    (s.pastLimits r).port p = { s.port p with queue := (s.tile i).limitQueue r.epoch (s.port p).queue } :=
  State.port_foldl_of_one (fun u i => u.tiles_passLimit r i) (fun _ _ hi => State.port_passLimit_of_ne hi r)
    (g := fun x => { x with queue := (s.tile i).limitQueue r.epoch x.queue }) (x := s.tile i)
    (fun u hu => by rw [← hu]; exact State.port_passLimit (by rw [hu]; exact hport) r) (nodup_idsOf _) (mem_idsOf.mpr hi) rfl hone

include hr

theorem State.frameRun_pastLimits : (s.pastLimits r).frameRun = .scene (r.limited (s.due r)) := by
  rw [State.pastLimits, State.frameRun_passLimits hr, gather_idsOf]

theorem State.checkLimits_eq : s.checkLimits = (s.pastLimits r).settleScene := by
  unfold State.checkLimits
  rw [State.scene_eq_some.mpr hr]
  dsimp only
  have hids : allIds.filter (fun t => r.awaits r.epoch t && s.ref.frameNumber == s.limitTarget r t + 8) = idsOf (s.due r) :=
    List.filter_congr fun t _ => (s.has_due r t).symm
  rw [hids]
  rfl

/-- A scene in which no limit is due, and nothing else is to be settled. -/
theorem State.checkLimits_of_none (hdue : s.due r = 0) (hopen : r.stage.delivering? = true ∨
    (r.flipSet &&& ~~~(r.confirmed ||| r.unconfirmed) ≠ 0 ∧ r.allSent = false)) : s.checkLimits = s := by
  rw [State.checkLimits_eq hr, State.pastLimits, hdue, Mask.idsOf_zero, List.foldl_nil]
  rcases hopen with hd | ⟨hopen, hsent⟩
  · exact State.settleScene_of_delivering (State.scene_eq_some.mpr hr) hd
  · by_cases hd : r.stage.delivering? = true
    · exact State.settleScene_of_delivering (State.scene_eq_some.mpr hr) hd
    · rw [State.settleScene_of_open (State.scene_eq_some.mpr hr) (Bool.eq_false_iff.mpr hd) hopen]
      exact if_neg fun h => Bool.false_ne_true (hsent.symm.trans h.2)

omit hr in
/-- A scene without a flip set awaits no tile. -/
theorem State.due_of_delivering (hset : r.flipSet = 0) : s.due r = 0 := by
  refine Mask.eq_zero_iff.mpr fun t => ?_
  rw [State.has_due, SceneRec.awaits, hset, Mask.has_zero, Bool.and_false]
  rfl

end

end Sys2Proof.Machine

/-! O52, frame starts: from which state, and what they bring (R57, R66, R67, R87, R129–R131). -/
namespace Sys2Proof.Machine

/-! ## What every port takes (R87, R112) -/

theorem Port.queue_takeFrame (x : Port) (n : Word) : (x.takeFrame n).queue = x.queue := by
  unfold Port.takeFrame
  split <;> rfl

theorem Port.link_takeFrame (x : Port) (n : Word) : (x.takeFrame n).link = x.link := by
  unfold Port.takeFrame
  split <;> rfl

theorem Port.takeFrame_up {x : Port} (h : x.link = .up) (n : Word) : (x.takeFrame n).syncDue = some n ∧
    (x.takeFrame n).stability = min (x.stability + 1) 64 ∧ (x.takeFrame n).attempts = if x.stability = 63 then 0 else x.attempts := by
  unfold Port.takeFrame
  rw [if_pos h]
  refine ⟨rfl, rfl, if_congr ?_ rfl rfl⟩
  show x.stability < 64 ∧ min (x.stability + 1) 64 = 64 ↔ _
  omega

/-- The frame start, before the deadline and the limits (R129). -/
def State.frameBegun (s : State) : State :=
  ({ s with ref := { s.ref with frameNumber := s.ref.frameNumber + 1, frameLength := s.ref.period } } : State).mapPorts
    fun _ x => x.takeFrame (s.ref.frameNumber + 1)

theorem State.issueFrame_eq (s : State) : s.issueFrame = s.frameBegun.countDeadline.checkLimits :=
  congrArg (fun u : State => u.countDeadline.checkLimits) (State.forEach_modPort _ fun _ x => x.takeFrame (s.ref.frameNumber + 1))

theorem State.port_frameBegun (s : State) (p : PortId) : s.frameBegun.port p = (s.port p).takeFrame (s.ref.frameNumber + 1) :=
  State.port_mapPorts _ _ p

theorem State.queue_frameBegun (s : State) (p : PortId) : (s.frameBegun.port p).queue = (s.port p).queue := by
  rw [State.port_frameBegun, Port.queue_takeFrame]

theorem State.has_due_frameBegun (s : State) (r : SceneRec) : s.frameBegun.due r =
    maskOf fun i => r.awaits r.epoch i && s.ref.frameNumber + 1 == s.limitTarget r i + 8 := by
  refine Mask.ext fun i => ?_
  rw [State.has_due, Mask.has_maskOf, State.limitTarget_congr (s := s) (t := s.frameBegun) rfl s.queue_frameBegun]
  rfl

/-! ## The deadline (R57) -/

section
variable {s : State} {r : SceneRec} (hr : s.frameRun = .scene r)
include hr

theorem State.countDeadline_of_past (hd : r.stage.delivering? = false) : s.countDeadline = s := by
  unfold State.countDeadline
  rw [State.scene_eq_some.mpr hr]
  dsimp only
  rw [hd]
  rfl

section
variable (hd : r.stage.delivering? = true)
include hd

theorem State.countDeadline_of_ne (h : r.deadline ≠ 1) :
    s.countDeadline = { s with frameRun := .scene { r with deadline := r.deadline - 1 } } := by
  unfold State.countDeadline
  rw [State.scene_eq_some.mpr hr]
  dsimp only
  rw [hd, Bool.true_and, State.modScene_eq, hr]
  by_cases hzero : r.deadline = 0
  · have hsame : r.deadline - 1 = r.deadline := by omega
    rw [if_neg (by rw [hzero]; decide), hsame]
    exact congrArg (fun x : FrameRun => ({ s with frameRun := x } : State)) hr
  · rw [if_pos (decide_eq_true (Nat.pos_of_ne_zero hzero)), if_neg h]
    rfl

theorem State.countDeadline_of_one (h : r.deadline = 1) : s.countDeadline = s.expireDeadline := by
  unfold State.countDeadline
  rw [State.scene_eq_some.mpr hr]
  dsimp only
  rw [hd, h]
  rfl

end

end

/-! ## What a frame start does to the running scene -/

/-- The scene `r`, delivered to, has its deadline counted. -/
def State.Counted (s : State) (r : SceneRec) (t : State) : Prop :=
  r.stage.delivering? = true → r.deadline ≠ 1 → t.frameRun = .scene { r with deadline := r.deadline - 1 } ∧ t.jobs = s.jobs ∧
    ∀ p : PortId, (t.port p).queue = (s.port p).queue

/-- The scene `r`, delivered to, has its deadline expire in frame start `n`. -/
def State.Expires (s : State) (n : Word) (r : SceneRec) (t : State) : Prop :=
  r.stage.delivering? = true → r.deadline = 1 → ∀ j, s.running .frame = some j → s.findJob j.addr = some j →
  (s.late r = 0 → t.frameRun = .scene { r with deadline := 0 }) ∧
  (s.late r ≠ 0 → r.requireAll = true ∨ s.armedMask r = 0 → t.frameRun = .idle ∧ t.composer.active = none ∧
    t.outcomeOf j.addr = some .deadline) ∧
  (s.late r ≠ 0 → r.requireAll = false → s.armedMask r ≠ 0 →
    (∃ u, t.frameRun = .scene u ∧ u.dropped = r.dropped ||| s.late r ∧ u.lastDrop = some .deadline ∧ u.stage = .armed ∧
      u.flipSet = s.armedMask r ∧ u.target = some (n + 2) ∧ u.deadline = 0 ∧ u.unconfirmed = 0) ∧
    (t.findJob j.addr).map Job.writes = some (j.writes ++ [.progress .armed]) ∧
    (∀ k : TileId, ∀ q, Mask.has (s.armedMask r) k = true → (s.tile k).geom.port = some q → (s.port q).link ≠ .off →
      (∀ m : TileId, m ≠ k → (s.tile m).geom.port ≠ some q) →
      (t.port q).queue = (s.port q).queue ++ [.flip r.epoch (n + 2) false]))

/-- The scene `r`, from ARMED on, has the limits of the tiles `due` pass. -/
def State.Limited (s : State) (due : Mask) (r : SceneRec) (t : State) : Prop :=
  r.stage.delivering? = false →
  (r.flipSet &&& ~~~(r.confirmed ||| (r.unconfirmed ||| due)) ≠ 0 →
    (∃ u, t.frameRun = .scene u ∧ u.unconfirmed = r.unconfirmed ||| due ∧ u.confirmed = r.confirmed ∧
      u.lastUnconf = (if due = 0 then r.lastUnconf else some .limit) ∧
      u.stage = (if r.flipSet &&& ~~~(r.flipSent ||| r.confirmed ||| (r.unconfirmed ||| due)) = 0 then .flipScheduled else r.stage)) ∧
    ∀ j, s.running .frame = some j → s.findJob j.addr = some j → (t.findJob j.addr).map Job.writes =
      some (if r.stage = .armed ∧ r.flipSet &&& ~~~(r.flipSent ||| r.confirmed ||| (r.unconfirmed ||| due)) = 0
        then j.writes ++ [.progress .flipScheduled] else j.writes)) ∧
  (r.flipSet &&& ~~~(r.confirmed ||| (r.unconfirmed ||| due)) = 0 → t.frameRun = .idle ∧ t.composer.active = none ∧
    ∀ j, s.running .frame = some j → s.findJob j.addr = some j → t.outcomeOf j.addr = some (
      if r.confirmed = 0 then (if due ≠ 0 ∨ r.lastUnconf = some .limit then .deadline else .tileLost)
      else if r.dropped ≠ 0 ∨ r.unconfirmed ||| due ≠ 0 then .partialOk else if r.flags.retried then .recovered else .ok)) ∧
  (∀ i : TileId, ∀ p, Mask.has due i = true → (s.tile i).geom.port = some p →
    (∀ m : TileId, m ≠ i → (s.tile m).geom.port ≠ some p) →
    (t.port p).queue =
      if (s.tile i).back.isScheduled r.epoch then (s.port p).queue.filter (fun k => !k.isFlipOf r.epoch)
      else (s.port p).queue.map (fun k => if k.isFlipOf r.epoch then .discard r.epoch else k)) ∧
  (∀ p : PortId, (∀ i : TileId, Mask.has due i = true → (s.tile i).geom.port ≠ some p) →
    (t.port p).queue = (s.port p).queue)

/-! ### From ARMED on -/

theorem SceneRec.outcome_limited (r : SceneRec) (due : Mask) : (r.limited due).outcome =
    if r.confirmed = 0 then (if due ≠ 0 ∨ r.lastUnconf = some .limit then .deadline else .tileLost)
    else if r.dropped ≠ 0 ∨ r.unconfirmed ||| due ≠ 0 then .partialOk else if r.flags.retried then .recovered else .ok := by
  have hlast : (r.limited due).lastUnconf = some .limit ↔ due ≠ 0 ∨ r.lastUnconf = some .limit := by
    unfold SceneRec.limited
    by_cases h : due = 0
    · rw [if_pos h]
      exact ⟨.inr, fun hor => hor.resolve_left fun hne => hne h⟩
    · rw [if_neg h]
      exact ⟨fun _ => .inl h, fun _ => rfl⟩
  unfold SceneRec.outcome
  exact if_congr Iff.rfl (if_congr hlast rfl rfl) rfl

theorem SceneRec.allSent_limited (r : SceneRec) (due : Mask) : (r.limited due).allSent = true ↔
    r.flipSet &&& ~~~(r.flipSent ||| r.confirmed ||| (r.unconfirmed ||| due)) = 0 := beq_iff_eq

/-- A scene past ARMED stands at FLIP_SCHEDULED. -/
theorem Stage.moved_eq {g : Stage} (hd : g.delivering? = false) (c : Prop) [Decidable c] :
    (if g = .armed ∧ c then .flipScheduled else g) = if c then Stage.flipScheduled else g := by
  cases g with
  | layersRead => exact nomatch hd
  | delivering => exact nomatch hd
  | armed => exact if_congr ⟨fun h => h.2, fun h => ⟨rfl, h⟩⟩ rfl rfl
  | flipScheduled => split <;> split <;> rfl

/-- A scene that has just been armed has no limit due. -/
theorem State.due_of_armed {t : State} {x : SceneRec} {n : Word} (hnumber : t.ref.frameNumber = n) (htarget : x.target = some (n + 2))
    (harmed : ∀ i : TileId, Mask.has x.flipSet i = true → (t.tile i).back = .armed x.epoch)
    (hqueue : ∀ p : PortId, ∀ k ∈ (t.port p).queue, k.isFlipOf x.epoch = false ∨ k = .flip x.epoch (n + 2) false) : t.due x = 0 := by
  refine Mask.eq_zero_iff.mpr fun i => ?_
  rw [State.has_due]
  by_cases hi : Mask.has x.flipSet i = true
  · rw [State.limitTarget_armed (harmed i hi) htarget hqueue, hnumber]
    have hne : (n == n + 2 + 8) = false := by
      rw [beq_eq_false_iff_ne]
      bv_omega
    rw [hne, Bool.and_false]
  · rw [SceneRec.awaits, Bool.eq_false_iff.mpr hi, Bool.and_false]
    rfl

theorem Mask.and_not_zero (m : Mask) : m &&& ~~~(0 : Mask) = m := Mask.ext fun t => by
  rw [Mask.has_and, Mask.has_not, Mask.has_zero, Bool.not_false, Bool.and_true]

theorem State.back_of_armedMask {s : State} {r : SceneRec} {i : TileId} (h : Mask.has (s.armedMask r) i = true) :
    (s.tile i).back = .armed r.epoch := by
  have hall : (Mask.has r.participants i && !Mask.has r.dropped i && (s.tile i).back.isArmed r.epoch) = true :=
    (Mask.has_maskOf _ i).symm.trans h
  exact beq_iff_eq.mp (Bool.and_eq_true_iff.mp hall).2

section
variable {s : State} {r : SceneRec} (hr : s.frameRun = .scene r)
include hr

theorem State.limited_issueFrame : s.Limited (s.frameBegun.due r) r s.issueFrame := by
  intro hd
  have hbegun : s.frameBegun.frameRun = .scene r := hr
  have hlimits := State.frameRun_pastLimits hbegun
  have hjobs : (s.frameBegun.pastLimits r).jobs = s.jobs := State.jobs_pastLimits s.frameBegun r
  have hsome := State.scene_eq_some.mpr hlimits
  have heq : s.issueFrame = (s.frameBegun.pastLimits r).settleScene := by
    rw [State.issueFrame_eq, State.countDeadline_of_past hbegun hd, State.checkLimits_eq hbegun]
  have hports : s.issueFrame.ports = (s.frameBegun.pastLimits r).ports := by
    rw [heq]
    exact (State.settleScene_keeps _).2.2.2
  refine ⟨fun hopen => ⟨⟨(r.limited (s.frameBegun.due r)).moved,
      heq ▸ State.frameRun_settleScene_of_open hlimits hd hopen, rfl, rfl, rfl, ?_⟩, fun j hj hfind => ?_⟩,
    fun hsettled => ?_, fun i p hi hport hone => ?_, fun p hnone => ?_⟩
  · have hstage : (r.limited (s.frameBegun.due r)).moved.stage =
        if r.stage = .armed ∧ (r.limited (s.frameBegun.due r)).allSent = true then .flipScheduled else r.stage := rfl
    rw [hstage, Stage.moved_eq hd]
    exact if_congr (r.allSent_limited _) rfl rfl
  · rw [heq, State.writes_settleScene_of_open hsome hd hopen ((State.running_of_jobs hjobs _).trans hj)
      ((State.findJob_of_jobs hjobs _).trans hfind)]
    exact congrArg some (if_congr (and_congr Iff.rfl (r.allSent_limited _)) rfl rfl)
  · obtain ⟨hidle, hactive, houtcome⟩ := State.completes hsome hd hsettled
    rw [heq]
    refine ⟨hidle, hactive, fun j hj hfind => ?_⟩
    rw [houtcome j ((State.running_of_jobs hjobs _).trans hj) ((State.findJob_of_jobs hjobs _).trans hfind), SceneRec.outcome_limited]
  · rw [State.port_of_ports hports, State.port_pastLimits_of_one hi hport hone]
    show (s.tile i).limitQueue r.epoch (s.frameBegun.port p).queue = _
    rw [State.queue_frameBegun]
    rfl
  · rw [State.port_of_ports hports, State.port_pastLimits_of_none hnone, State.queue_frameBegun]

/-! ### While the scene is delivered -/

section
variable (hd : r.stage.delivering? = true) (hset : r.flipSet = 0)
include hd hset

theorem State.counted_issueFrame : s.Counted r s.issueFrame := by
  intro _ hne
  have heq : s.issueFrame = { s.frameBegun with frameRun := .scene { r with deadline := r.deadline - 1 } } := by
    rw [State.issueFrame_eq, State.countDeadline_of_ne (s := s.frameBegun) hr hd hne]
    exact State.checkLimits_of_none (r := { r with deadline := r.deadline - 1 }) rfl (State.due_of_delivering hset) (.inl hd)
  rw [heq]
  exact ⟨rfl, rfl, s.queue_frameBegun⟩

end

section
variable (hok : s.sceneOk)
include hok

theorem State.expires_issueFrame : s.Expires (s.ref.frameNumber + 1) r s.issueFrame := by
  intro hd hone j hj hfind
  obtain ⟨hset, hsent, hconfirmed, hunconfirmed, hports⟩ := hok r (State.scene_eq_some.mpr hr) hd
  have heq : s.issueFrame = s.frameBegun.expireDeadline.checkLimits := by
    rw [State.issueFrame_eq, State.countDeadline_of_one (s := s.frameBegun) hr hd hone]
  rw [heq]
  refine ⟨fun hlate => ?_, fun hlate hends => ?_, fun hlate hrequire harmed => ?_⟩
  · rw [State.expireDeadline_of_none (s := s.frameBegun) hr hlate]
    exact congrArg State.frameRun (State.checkLimits_of_none (r := { r with deadline := 0 }) rfl (State.due_of_delivering hset) (.inl hd))
  · obtain ⟨hidle, hactive, houtcome⟩ := State.expires (s := s.frameBegun) hr hd hlate hends
    rw [State.checkLimits_of_no_scene (State.scene_of_idle hidle)]
    exact ⟨hidle, hactive, houtcome j hj hfind⟩
  · obtain ⟨hrun, htiles, hwrites, hqueue⟩ := State.arms (s := s.frameBegun) hr hd hlate hrequire harmed
    have hadds : s.frameBegun.Adds (fun k => k.isFlipOf r.epoch = false ∨ k = .flip r.epoch (s.ref.frameNumber + 1 + 2) false)
        s.frameBegun.expireDeadline := by
      have hnumber := congrArg (fun u : State => u.ref.frameNumber) (s.frameBegun.sheet_overdue r)
      have hnumber : (s.frameBegun.overdue r).ref.frameNumber = s.ref.frameNumber + 1 := hnumber
      rw [State.expireDeadline_eq (s := s.frameBegun) hr hd hlate,
        if_neg fun h => h.elim (fun htrue => Bool.false_ne_true (hrequire.symm.trans htrue)) harmed]
      exact (State.adds_overdue _ r (.inl rfl)).trans (State.adds_armScene _ _ (.inr (by rw [hnumber]; rfl)))
    have hnumber : s.frameBegun.expireDeadline.ref.frameNumber = s.ref.frameNumber + 1 := by
      have href := congrArg State.ref s.frameBegun.quiet_expireDeadline
      have href : s.frameBegun.expireDeadline.ref = s.frameBegun.ref := href
      rw [href]
      rfl
    have hdue : s.frameBegun.expireDeadline.due ((r.overdue (s.frameBegun.late r)).arm (s.frameBegun.armedMask r)
        (s.frameBegun.ref.frameNumber + 2)) = 0 := by
      refine State.due_of_armed hnumber rfl (fun i hi => ?_) fun p k hk => ?_
      · rw [State.tile_of_tiles htiles]
        exact State.back_of_armedMask (r := r) hi
      · refine (hadds p k hk).elim (fun hkept => .inl ?_) id
        rw [State.queue_frameBegun] at hkept
        exact (hports p).1 k hkept
    have hopen : s.frameBegun.armedMask r &&& ~~~(r.confirmed ||| r.unconfirmed) ≠ 0 := by
      rw [hconfirmed, hunconfirmed, BitVec.or_self, Mask.and_not_zero]
      exact harmed
    have hunsent : ((r.overdue (s.frameBegun.late r)).arm (s.frameBegun.armedMask r)
        (s.frameBegun.ref.frameNumber + 2)).allSent = false := by
      refine beq_eq_false_iff_ne.mpr ?_
      show s.frameBegun.armedMask r &&& ~~~(r.flipSent ||| r.confirmed ||| r.unconfirmed) ≠ 0
      rw [hsent, hconfirmed, hunconfirmed, BitVec.or_self, BitVec.or_self, Mask.and_not_zero]
      exact harmed
    rw [State.checkLimits_of_none hrun hdue (.inr ⟨hopen, hunsent⟩)]
    refine ⟨⟨_, hrun, rfl, rfl, rfl, rfl, rfl, rfl, hunconfirmed⟩, hwrites j hj hfind, fun k q hk hport hon honly => ?_⟩
    have hend := congrArg Port.queue (hqueue k q hk hport (by rw [State.port_frameBegun, Port.link_takeFrame]; exact hon) honly)
    rw [hend, State.queue_frameBegun]
    rfl

end

end

end Sys2Proof.Machine

/-! O52, frame starts: the sources and the states of the Frame Reference (R129–R131). -/
namespace Sys2Proof.Machine

/-! ## A frame start from whatever source (R129) -/

/-- `t` is `s` after a frame start, apart from what the source of it does to the Frame Reference. -/
def State.Started (s t : State) : Prop :=
  t.ref.frameNumber = s.ref.frameNumber + 1 ∧ t.ref.frameLength = s.ref.period ∧
  (∀ p : PortId, (t.port p).link = (s.port p).link ∧
    ((s.port p).link = .up → (t.port p).syncDue = some (s.ref.frameNumber + 1) ∧
      (t.port p).stability = min ((s.port p).stability + 1) 64 ∧
      (t.port p).attempts = if (s.port p).stability = 63 then 0 else (s.port p).attempts) ∧
    ((s.port p).link ≠ .up → (t.port p).stability = (s.port p).stability ∧ (t.port p).attempts = (s.port p).attempts)) ∧
  t.power = s.power ∧ t.policy = s.policy ∧
  (s.scene = none → t.frameRun = s.frameRun ∧ t.jobs = s.jobs) ∧
  (∀ r, s.frameRun = .scene r → (s.sceneOk → s.Counted r t ∧ s.Expires (s.ref.frameNumber + 1) r t) ∧
    s.Limited (maskOf fun i => r.awaits r.epoch i && s.ref.frameNumber + 1 == s.limitTarget r i + 8) r t)

section
variable (s : State)

theorem State.port_issueFrame (p : PortId) :
    (s.issueFrame.port p).spine = ((s.port p).takeFrame (s.ref.frameNumber + 1)).spine :=
  (State.spine_of_quiet s.quiet_issueFrame p).trans (congrArg Port.spine (s.port_frameBegun p))

theorem State.power_issueFrame : s.issueFrame.power = s.power := by
  have hpower := congrArg State.power s.quiet_issueFrame
  exact hpower

theorem State.started_issueFrame : s.Started s.issueFrame := by
  have href := s.ref_issueFrame
  refine ⟨by rw [href], by rw [href], fun p => ?_, s.power_issueFrame, s.policy_issueFrame, fun hscene => ?_, fun r hr => ⟨fun hok => ⟨?_, ?_⟩, ?_⟩⟩
  · have hfield {α} (f : Port → α) := congrArg f (s.port_issueFrame p)
    have hlink := hfield Port.link
    have hlink : (s.issueFrame.port p).link = ((s.port p).takeFrame (s.ref.frameNumber + 1)).link := hlink
    have hsync := hfield Port.syncDue
    have hsync : (s.issueFrame.port p).syncDue = ((s.port p).takeFrame (s.ref.frameNumber + 1)).syncDue := hsync
    have hstability := hfield Port.stability
    have hstability : (s.issueFrame.port p).stability = ((s.port p).takeFrame (s.ref.frameNumber + 1)).stability := hstability
    have hattempts := hfield Port.attempts
    have hattempts : (s.issueFrame.port p).attempts = ((s.port p).takeFrame (s.ref.frameNumber + 1)).attempts := hattempts
    rw [hlink, hsync, hstability, hattempts]
    exact ⟨Port.link_takeFrame _ _, fun hup => Port.takeFrame_up hup _, fun hne => by rw [Port.takeFrame_of_ne hne]; exact ⟨rfl, rfl⟩⟩
  · rw [State.issueFrame_of_no_scene hscene]
    exact ⟨rfl, rfl⟩
  · intro hd
    exact State.counted_issueFrame hr hd (hok r (State.scene_eq_some.mpr hr) hd).1 hd
  · exact State.expires_issueFrame hr hok
  · rw [← s.has_due_frameBegun]
    exact State.limited_issueFrame hr

/-- The same with another state of the Frame Reference, and other causes. -/
theorem State.Started.beside {s u : State} (h : s.Started u) {x : Reference} (hnumber : x.frameNumber = u.ref.frameNumber)
    (hlength : x.frameLength = u.ref.frameLength) (c : Causes) : s.Started { u with ref := x, causes := c } := by
  obtain ⟨hn, hl, hports, hpower, hpolicy, hnone, hscene⟩ := h
  exact ⟨hnumber.trans hn, hlength.trans hl, hports, hpower, hpolicy, hnone, hscene⟩

/-- A frame start that brings this state of the Frame Reference, and these causes. -/
theorem State.started_with {x : Reference} {c : Causes} (hnumber : x.frameNumber = s.ref.frameNumber + 1)
    (hlength : x.frameLength = s.ref.period) : s.Started { s.issueFrame with ref := x, causes := c } :=
  s.started_issueFrame.beside (hnumber.trans (by rw [State.ref_issueFrame])) (hlength.trans (by rw [State.ref_issueFrame])) c

end

/-! ## The commands (R130, R131) -/

section
variable {s : State}

theorem Reference.not_switchingTo {r : Reference} (h : r.switch = none) (t : Source) : ¬r.switchingTo t = true := by
  unfold Reference.switchingTo
  rw [h]
  exact Bool.false_ne_true

theorem exec_frameStart_of_intern (h : s.ref.state = .intern) : exec .frameStart s = .next (State.settle { s.issueFrame with
    ref := { s.ref with frameNumber := s.ref.frameNumber + 1, frameLength := s.ref.period, frameTimer := some 0 } }) := by
  show State.settled s.timedFrame = _
  unfold State.timedFrame
  rw [if_pos h]
  dsimp only
  rw [State.ref_issueFrame]
  rfl

theorem exec_syncInPulse_of_stopped (h : s.ref.state = .stopped) : exec .syncInPulse s = .next s.settle := by
  show State.settled s.takePulse = _
  unfold State.takePulse
  rw [h]
  rfl

theorem exec_syncInPulse_of_intern (h : s.ref.state = .intern) (hswitch : s.ref.switch = none) : exec .syncInPulse s = .next s.settle := by
  show State.settled s.takePulse = _
  unfold State.takePulse
  rw [h]
  exact congrArg State.settled (if_neg (Reference.not_switchingTo hswitch _))

theorem Reference.qualifies_iff {r : Reference} {e : Nat} (h : r.lossTimer = some e) :
    r.qualifies = true ↔ r.frameLength * 1000 ≤ 2 * e := by
  unfold Reference.qualifies
  rw [h]
  exact decide_eq_true_iff

section
variable (h : s.ref.state = .extern)
include h

theorem exec_syncInPulse_of_early (hearly : ¬s.ref.qualifies = true) : exec .syncInPulse s = .next s.settle := by
  show State.settled s.takePulse = _
  unfold State.takePulse
  rw [h]
  exact congrArg State.settled (if_neg hearly)

theorem exec_syncInPulse_of_extern (hqualifies : s.ref.qualifies = true) (hswitch : s.ref.switch = none) :
    exec .syncInPulse s = .next (State.settle { s.issueFrame with
      ref := { s.ref with frameNumber := s.ref.frameNumber + 1, frameLength := s.ref.period, lossTimer := some 0 } }) := by
  show State.settled s.takePulse = _
  unfold State.takePulse
  rw [h]
  dsimp only
  rw [if_pos hqualifies, State.ref_issueFrame, if_neg (Reference.not_switchingTo (by exact hswitch) _)]
  rfl

theorem exec_lossDeclared_of_safe (hswitch : s.ref.switch = none) (hsafe : s.policy.failSafe = true) : exec .lossDeclared s =
    .next (State.settle { s.issueFrame with
      ref := { s.ref with frameNumber := s.ref.frameNumber + 1, frameLength := s.ref.period, state := .intern, source := .intern,
                          frameTimer := some 0, lossTimer := none }
      causes := { s.causes with reference := true } }) := by
  show State.settled s.declareLoss = _
  unfold State.declareLoss
  rw [if_pos h, if_neg (Reference.not_switchingTo hswitch _), if_pos hsafe, State.fallBack, State.enterInternal, State.ref_issueFrame,
    State.raiseReference_eq]
  dsimp only
  rw [State.causes_issueFrame]
  rfl

theorem exec_lossDeclared_of_unsafe (hswitch : s.ref.switch = none) (hsafe : s.policy.failSafe = false) : exec .lossDeclared s =
    .next (State.settle { s with
      ref := { s.ref with state := .stalled, lossTimer := none }, causes := { s.causes with reference := true } }) := by
  show State.settled s.declareLoss = _
  unfold State.declareLoss
  rw [if_pos h, if_neg (Reference.not_switchingTo hswitch _), if_neg (by rw [hsafe]; exact Bool.false_ne_true)]
  rfl

end

theorem exec_syncInPulse_of_stalled (h : s.ref.state = .stalled) : exec .syncInPulse s = .next (State.settle { s.issueFrame with
    ref := { s.ref with frameNumber := s.ref.frameNumber + 1, frameLength := s.ref.period, state := .extern, lossTimer := some 0 }
    causes := { s.causes with reference := true } }) := by
  show State.settled s.takePulse = _
  unfold State.takePulse
  rw [h]
  dsimp only
  rw [State.ref_issueFrame, State.raiseReference_eq]
  dsimp only
  rw [State.causes_issueFrame]
  rfl

end

theorem SceneRec.awaits_iff (r : SceneRec) (i : TileId) : r.awaits r.epoch i = true ↔
    Mask.has r.flipSet i = true ∧ Mask.has r.confirmed i = false ∧ Mask.has r.unconfirmed i = false := by
  unfold SceneRec.awaits
  simp only [Bool.and_eq_true, beq_self_eq_true, true_and, Bool.not_eq_true', and_assoc]

/-- Settles O52: each source and state of the Frame Reference, and the frame a limit counts from. -/
theorem frameStartsBySourceAndState : Obligations.FrameStartsBySourceAndState := by
  refine ⟨fun s => ⟨fun h => ⟨_, exec_frameStart_of_intern h, s.started_with rfl rfl, rfl, s.causes_issueFrame⟩,
      exec_syncInPulse_of_stopped, exec_syncInPulse_of_intern,
      fun h e he => ⟨fun hearly => exec_syncInPulse_of_early h fun hyes => ?_, fun hhalf hswitch =>
        ⟨_, exec_syncInPulse_of_extern h ((Reference.qualifies_iff he).mpr hhalf) hswitch, s.started_with rfl rfl, rfl,
          s.causes_issueFrame⟩⟩,
      fun h => ⟨_, exec_syncInPulse_of_stalled h, s.started_with rfl rfl, rfl, rfl, rfl⟩,
      fun h hswitch hsafe => ⟨_, exec_lossDeclared_of_safe h hswitch hsafe, s.started_with rfl rfl, rfl, rfl, rfl, rfl, rfl⟩,
      exec_lossDeclared_of_unsafe⟩,
    fun s r i => ⟨r.awaits_iff i, fun e f => State.limitTarget_scheduled, State.limitTarget_of_none, fun hback p hport =>
      ⟨fun hnone => ?_, fun before f fresh after hqueue hnone => ?_⟩⟩⟩
  · exact Nat.not_le.mpr hearly ((Reference.qualifies_iff he).mp hyes)
  · rw [State.limitTarget_of_some hback hport, findSome?_flipTarget?_of_none hnone]
    rfl
  · rw [State.limitTarget_of_some hback hport, hqueue, findSome?_flipTarget?_of_first hnone]
    rfl

end Sys2Proof.Machine

/-! SUPPORT. The store report of a completed offer exchange (R45, R46, R53, R65, R73, R126). -/
namespace Sys2Proof.Machine

/-! ## The tile that has reported (R53, R126) -/

/-- A tile that has reported front epoch `f` (R53). -/
def Tile.reported (x : Tile) (f : Epoch) : Tile :=
  if x.back.isScheduled f = true then x.flipped f else if x.front = f then x else { x with front := 0 }

section
variable (x : Tile) (f : Epoch)

theorem Tile.reported_of_scheduled (h : x.back.isScheduled f = true) : x.reported f = x.flipped f := if_pos h

theorem Tile.reported_of_other (h : x.back.isScheduled f = false) :
    x.reported f = if x.front = f then x else { x with front := 0 } := if_neg (by rw [h]; exact Bool.false_ne_true)

theorem Tile.geom_reported : (x.reported f).geom = x.geom := by
  cases h : x.back.isScheduled f with
  | true => rw [x.reported_of_scheduled f h, (x.flipped_fields f).2.2.2.2]
  | false =>
    rw [x.reported_of_other f h]
    split <;> rfl

theorem Tile.back_reported (h : x.back.isScheduled f = false) : (x.reported f).back = x.back := by
  rw [x.reported_of_other f h]
  split <;> rfl

theorem Tile.front_reported : (x.reported f).front = if x.back.isScheduled f = true ∨ x.front = f then f else 0 := by
  cases h : x.back.isScheduled f with
  | true => rw [x.reported_of_scheduled f h, (x.flipped_fields f).1, if_pos (.inl rfl)]
  | false =>
    rw [x.reported_of_other f h]
    by_cases hf : x.front = f
    · rw [if_pos hf, if_pos (.inr hf), hf]
    · rw [if_neg hf, if_neg fun hor => hor.elim Bool.false_ne_true hf]

/-- The tables of a tile that has reported its stores (R125). -/
theorem Tile.tables_reported : (x.reported f).activeGen = (if x.back.isScheduled f = true then x.pendingGen.getD x.activeGen else x.activeGen) ∧
    (x.reported f).pendingGen = (if x.back.isScheduled f = true then none else x.pendingGen) ∧ (x.reported f).stale = x.stale := by
  cases h : x.back.isScheduled f with
  | true =>
    obtain ⟨-, -, hpending, hactive, -⟩ := x.flipped_fields f
    have hstale : (x.flipped f).stale = x.stale := by
      unfold Tile.flipped Tile.activate
      cases x.pendingGen <;> rfl
    rw [x.reported_of_scheduled f h, if_pos rfl, if_pos rfl]
    exact ⟨hactive, hpending, hstale⟩
  | false =>
    rw [x.reported_of_other f h, if_neg Bool.false_ne_true, if_neg Bool.false_ne_true]
    split <;> exact ⟨rfl, rfl, rfl⟩

/-- The table report of a tile whose record is not SCHEDULED (R126). -/
theorem Tile.tableReport_eq (a : Half) (flag : Bool) (h : x.back.scheduled? = false) : x.tableReport a flag =
    if a = x.activeGen ∧ flag = x.pendingGen.isSome then x else { x with activeGen := a, pendingGen := none, stale := true } := by
  unfold Tile.tableReport
  refine if_congr Iff.rfl rfl (if_neg fun hkeep => ?_)
  exact Bool.false_ne_true (h.symm.trans hkeep.2.2)

end

/-! ## What each report changes -/

/-- The back store of a tile whose report resumes nothing (R46, R73). -/
def BackStore.asReported (b : Epoch) (n : Nat) : BackStore := if b = 0 then .empty else .loading b n

theorem State.modTile_congr {s : State} {i : TileId} {f g : Tile → Tile} (h : f (s.tile i) = g (s.tile i)) : s.modTile i f = s.modTile i g :=
  congrArg (s.setTile i) h

/-- What `s` and `t` agree in, besides tile `i` and the ports. -/
def State.BesideTile (s : State) (i : TileId) (x : Tile) (t : State) : Prop := t.tile i = x ∧ ∀ k : TileId, k ≠ i → t.tile k = s.tile k

theorem State.BesideTile.of_tiles {s t u : State} {i : TileId} {x : Tile} (h : s.BesideTile i x t) (hu : u.tiles = t.tiles) :
    s.BesideTile i x u :=
  ⟨(State.tile_of_tiles hu i).trans h.1, fun k hk => (State.tile_of_tiles hu k).trans (h.2 k hk)⟩

theorem State.BesideTile.trans {s t u : State} {i : TileId} {x y : Tile} (h : s.BesideTile i x t) (k : t.BesideTile i y u) :
    s.BesideTile i y u :=
  ⟨k.1, fun m hm => (k.2 m hm).trans (h.2 m hm)⟩

theorem State.besideTile_modTile (s : State) (i : TileId) (f : Tile → Tile) : s.BesideTile i (f (s.tile i)) (s.modTile i f) :=
  ⟨(State.tile_modTile s i i f).trans (if_pos rfl), fun k hk => (State.tile_modTile s i k f).trans (if_neg (Ne.symm hk))⟩

theorem State.besideTile_confirmFlip (s : State) (i : TileId) (x : Epoch) : s.BesideTile i ((s.tile i).flipped x) (s.confirmFlip i x) := by
  obtain ⟨ps, hps⟩ := s.confirmFlip_ports i x
  rw [hps]
  exact (s.besideTile_modTile i fun y => y.flipped x).of_tiles rfl

theorem State.frameRun_confirmFlip (s : State) (i : TileId) (x : Epoch) : (s.confirmFlip i x).frameRun =
    s.frameRun.onScene fun r => if r.awaits x i then { r with confirmed := r.confirmed ||| bitOf i } else r := by
  obtain ⟨ps, hps⟩ := s.confirmFlip_ports i x
  rw [hps]

section
variable (s : State) (i : TileId) (f : Epoch)

theorem State.reportFlip_of_scheduled (h : (s.tile i).back.isScheduled f = true) : s.reportFlip i f = s.confirmFlip i f := if_pos h

theorem State.reportFlip_of_other (h : (s.tile i).back.isScheduled f = false) : s.reportFlip i f = s.modTile i fun x => x.reported f := by
  have hother : s.reportFlip i f = s.reportFront i f := if_neg (by rw [h]; exact Bool.false_ne_true)
  rw [hother]
  exact State.modTile_congr ((s.tile i).reported_of_other f h).symm

theorem State.reportFront_eq (h : (s.tile i).back.isScheduled f = false) : s.reportFront i f = s.modTile i fun x => x.reported f :=
  State.modTile_congr ((s.tile i).reported_of_other f h).symm

theorem State.besideTile_reportFlip : s.BesideTile i ((s.tile i).reported f) (s.reportFlip i f) := by
  cases h : (s.tile i).back.isScheduled f with
  | true =>
    rw [State.reportFlip_of_scheduled s i f h, Tile.reported_of_scheduled _ _ h]
    exact s.besideTile_confirmFlip i f
  | false =>
    rw [State.reportFlip_of_other s i f h]
    exact s.besideTile_modTile i _

/-- A report that confirms nothing in the running scene (R53). -/
theorem State.frameRun_reportFlip (h : ∀ r, s.frameRun = .scene r → r.awaits f i = false ∨ (s.tile i).back.isScheduled f = false) :
    (s.reportFlip i f).frameRun = s.frameRun := by
  cases hscheduled : (s.tile i).back.isScheduled f with
  | true =>
    rw [State.reportFlip_of_scheduled s i f hscheduled, State.frameRun_confirmFlip]
    cases hrun : s.frameRun with
    | scene r =>
      have hnot := (h r hrun).resolve_right fun hfalse => Bool.false_ne_true (hfalse.symm.trans hscheduled)
      exact congrArg FrameRun.scene (if_neg (by rw [hnot]; exact Bool.false_ne_true))
    | _ => rfl
  | false =>
    rw [State.reportFlip_of_other s i f hscheduled]
    rfl

end

/-- The back store, as R46 and R73 have it, and a DISCARD of the epoch it holds. -/
def State.AsReported (p : PortId) (i : TileId) (b : Epoch) (n : Nat) (t : State) : Prop :=
  (t.tile i).back = (if b = 0 then .empty else .loading b n) ∧ (b ≠ 0 → (t.port p).hasDiscard b = true)

section
variable (s : State) (i : TileId) (b : Epoch) (n : Nat)

theorem State.tiles_queueDiscard (t : TileId) (e : Epoch) : (s.queueDiscard t e).tiles = s.tiles :=
  State.tiles_of_sheet (s.sheet_queueDiscard t e)

theorem State.frameRun_queueDiscard (t : TileId) (e : Epoch) : (s.queueDiscard t e).frameRun = s.frameRun := by
  unfold State.queueDiscard
  split <;> rfl

theorem State.besideTile_reportBack : s.BesideTile i { s.tile i with back := BackStore.asReported b n } (s.reportBack i b n) := by
  unfold State.reportBack BackStore.asReported
  split
  · exact s.besideTile_modTile i _
  · exact (s.besideTile_modTile i _).of_tiles (State.tiles_queueDiscard _ i b)

theorem State.frameRun_reportBack : (s.reportBack i b n).frameRun = s.frameRun := by
  unfold State.reportBack
  split
  · rfl
  · exact State.frameRun_queueDiscard _ i b

theorem State.adds_reportBack : s.Adds (fun k => k = .discard b) (s.reportBack i b n) := by
  unfold State.reportBack
  split
  · exact State.adds_of_ports rfl
  · exact (State.adds_of_ports (s := s) rfl).trans (State.adds_queueDiscard _ i rfl)

theorem State.hasDiscard_reportBack {p : PortId} (hport : (s.tile i).geom.port = some p) (hlink : (s.port p).link ≠ .off) (hb : b ≠ 0) :
    ((s.reportBack i b n).port p).hasDiscard b = true := by
  unfold State.reportBack
  rw [if_neg hb]
  refine State.hasDiscard_queueDiscard ?_ ?_ b
  · rw [(s.besideTile_modTile i _).1]
    exact hport
  · rw [State.port_modTile]
    exact hlink

theorem State.asReported_reportBack {p : PortId} (hport : (s.tile i).geom.port = some p) (hlink : (s.port p).link ≠ .off) :
    (s.reportBack i b n).AsReported p i b n :=
  ⟨congrArg Tile.back (s.besideTile_reportBack i b n).1, s.hasDiscard_reportBack i b n hport hlink⟩

end

/-! ## The arming rule after a report (R45, R58) -/

theorem State.tiles_armingRule (s : State) : s.armingRule.tiles = s.tiles := by
  have hends (o : JobOutcome) : (s.endSceneEarly o).tiles = s.tiles := by
    unfold State.endSceneEarly
    split
    · rfl
    · exact (State.tiles_completeScene _ _).trans (State.tiles_of_sheet (s.sheet_endedAtTiles _))
  cases hr : s.scene with
  | none =>
    unfold State.armingRule
    rw [hr]
  | some r =>
    cases hd : r.stage.delivering? with
    | false =>
      unfold State.armingRule
      rw [hr]
      exact congrArg State.tiles (if_pos (by rw [hd]; rfl))
    | true =>
      rw [State.armingRule_eq hr hd]
      split
      · exact hends _
      · split
        · exact State.tiles_armScene
        · split
          · exact hends _
          · rfl

theorem State.gains_handAll (s : State) (k : Reliable) (ids : List TileId) : s.Gains (s.handAll k ids) := by
  refine State.gains_foldl s (fun u t => u.handPacket t k) (fun u t => ?_) ids
  unfold State.handPacket
  split
  · exact State.Gains.refl u
  · exact u.gains_modPort _ (Port.gains_enqueue _ _)

theorem State.gains_armingRule (s : State) : s.Gains s.armingRule := by
  have hends (o : JobOutcome) : s.Gains (s.endSceneEarly o) := by
    unfold State.endSceneEarly
    split
    · exact State.Gains.refl s
    · exact s.gains_endSceneWith _ _
  unfold State.armingRule
  split
  · exact State.Gains.refl s
  · next r _ =>
    dsimp only
    split
    · exact State.Gains.refl s
    · split
      · exact hends _
      · split
        · rw [State.armScene_eq]
          exact ((State.gains_of_ports (State.ports_modScene s _)).trans (State.gains_handAll _ _ _)).trans
            (State.gains_of_ports (State.ports_writeProgress _ _))
        · split
          · exact hends _
          · exact State.Gains.refl s

/-- The back store of a participant still delivered to, after its tile has reported (R45). -/
def BackStore.resumed (b e : Epoch) (n stripes : Nat) : BackStore :=
  if b = 0 then .empty else if b = e ∧ n = stripes then .armed b else .loading b n

/-- The cursor of such a participant (R45). -/
def resumedCursor (b e : Epoch) (n stripes : Nat) : Nat := if b = e ∧ b ≠ 0 ∧ n ≤ stripes then n else 0

section
variable (s : State) (r : SceneRec) (i : TileId) (b : Epoch) (n : Nat)

theorem State.tiles_setCursor (c : Nat) : (s.setCursor i c).tiles = s.tiles := State.tiles_modScene s _

/-- The participant's record and cursor after its tile has reported. -/
def State.resumed : State := (s.modTile i fun x => { x with back := BackStore.resumed b r.epoch n (s.stripesOf i) }).setCursor i
  (resumedCursor b r.epoch n (s.stripesOf i))

theorem State.resume_eq : s.resume r i b n = if b ≠ 0 ∧ ¬(b = r.epoch ∧ n ≤ s.stripesOf i) then (s.resumed r i b n).queueDiscard i b
    else s.resumed r i b n := by
  unfold State.resume State.resumed BackStore.resumed resumedCursor
  by_cases hb : b = 0#64
  · simp [hb]
  · by_cases he : b = r.epoch
    · subst he
      rcases Nat.lt_trichotomy n (s.stripesOf i) with hlt | heq | hgt
      · simp [hb, hlt, Nat.ne_of_lt hlt, Nat.le_of_lt hlt]
      · simp [hb, heq]
      · simp [hb, Nat.lt_asymm hgt, Nat.ne_of_gt hgt, Nat.not_le_of_gt hgt]
    · simp [hb, he]

theorem State.besideTile_resume :
    s.BesideTile i { s.tile i with back := BackStore.resumed b r.epoch n (s.stripesOf i) } (s.resume r i b n) := by
  have hresumed : s.BesideTile i { s.tile i with back := BackStore.resumed b r.epoch n (s.stripesOf i) } (s.resumed r i b n) :=
    (s.besideTile_modTile i fun x => { x with back := BackStore.resumed b r.epoch n (s.stripesOf i) }).of_tiles (State.tiles_setCursor _ i _)
  rw [State.resume_eq]
  split
  · exact hresumed.of_tiles (State.tiles_queueDiscard _ i b)
  · exact hresumed

theorem State.frameRun_resume : (s.resume r i b n).frameRun = s.frameRun.onScene fun x =>
    { x with cursors := x.cursors.set i.val (resumedCursor b r.epoch n (s.stripesOf i)) } := by
  have hresumed : (s.resumed r i b n).frameRun = s.frameRun.onScene fun x =>
      { x with cursors := x.cursors.set i.val (resumedCursor b r.epoch n (s.stripesOf i)) } := by
    unfold State.resumed State.setCursor
    rw [State.modScene_eq]
    rfl
  rw [State.resume_eq]
  split
  · rw [State.frameRun_queueDiscard, hresumed]
  · exact hresumed

theorem State.hasDiscard_resume {p : PortId} (hport : (s.tile i).geom.port = some p) (hlink : (s.port p).link ≠ .off) (hb : b ≠ 0)
    (hgone : ¬(b = r.epoch ∧ n ≤ s.stripesOf i)) : ((s.resume r i b n).port p).hasDiscard b = true := by
  have hsame : (s.resumed r i b n).port p = s.port p := State.port_of_ports (State.ports_modScene _ _) p
  have htile := s.besideTile_resume r i b n
  rw [State.resume_eq, if_pos ⟨hb, hgone⟩] at htile ⊢
  have hgeom := congrArg Tile.geom htile.1
  rw [State.tile_of_tiles (State.tiles_queueDiscard _ i b)] at hgeom
  refine State.hasDiscard_queueDiscard ?_ ?_ b
  · rw [hgeom]
    exact hport
  · rw [hsame]
    exact hlink

end

end Sys2Proof.Machine

/-! SUPPORT. The store report by the rows of R45, R46, R53, R65 and R73. -/
namespace Sys2Proof.Machine

/-- Tile `i` has reported front epoch `f`, no record of it is SCHEDULED, and no other tile is touched. -/
def State.Stored (v : State) (i : TileId) (f : Epoch) (u : State) : Prop :=
  ∃ b : BackStore, b.scheduled? = false ∧ v.BesideTile i { (v.tile i).reported f with back := b } u

theorem BackStore.scheduled?_asReported (b : Epoch) (n : Nat) : (BackStore.asReported b n).scheduled? = false := by
  unfold BackStore.asReported
  split <;> rfl

theorem BackStore.scheduled?_resumed (b e : Epoch) (n stripes : Nat) : (BackStore.resumed b e n stripes).scheduled? = false := by
  unfold BackStore.resumed
  split
  · rfl
  · split <;> rfl

theorem State.AsReported.of_parts {t u : State} {p : PortId} {i : TileId} {b : Epoch} {n : Nat} (h : t.AsReported p i b n)
    (htiles : u.tiles = t.tiles) (hports : u.ports = t.ports) : u.AsReported p i b n := by
  unfold State.AsReported
  rw [State.tile_of_tiles htiles, State.port_of_ports hports]
  exact h

theorem BackStore.isScheduled_of_ne {b : BackStore} {e f : Epoch} (h : b.isScheduled e = true) (hne : f ≠ e) : b.isScheduled f = false := by
  obtain ⟨g, rfl⟩ := BackStore.isScheduled_iff.mp h
  exact beq_eq_false_iff_ne.mpr (Ne.symm hne)

theorem SceneRec.epoch_of_awaits {r : SceneRec} {e : Epoch} {i : TileId} (h : r.awaits e i = true) : r.epoch = e := by
  unfold SceneRec.awaits at h
  simp only [Bool.and_eq_true, beq_iff_eq] at h
  exact h.1.1.1

theorem SceneRec.awaits_of_not {r : SceneRec} {i : TileId} (h : r.awaits r.epoch i = false) (e : Epoch) : r.awaits e i = false :=
  Bool.eq_false_iff.mpr fun hyes => Bool.eq_false_iff.mp h (by rw [SceneRec.epoch_of_awaits hyes]; exact hyes)

theorem SceneRec.awaits_of_ne {r : SceneRec} {i : TileId} {e : Epoch} (h : r.epoch ≠ e) : r.awaits e i = false :=
  Bool.eq_false_iff.mpr fun hyes => h (SceneRec.epoch_of_awaits hyes)

section
variable {v : State} {p : PortId} {i : TileId} (hport : (v.tile i).geom.port = some p) (hlink : (v.port p).link = .offer) (f b : Epoch)
  (n : Nat)

/-! ## A report that resumes nothing (R46, R73) -/

theorem State.storeReport_plain (h : v.scene = none ∨ ∃ r, v.scene = some r ∧ r.awaits r.epoch i = false ∧
    (Mask.has r.participants i && !Mask.has r.dropped i && r.stage.delivering?) = false) :
    v.storeReport i f b n = (v.reportFlip i f).reportBack i b n := by
  unfold State.storeReport
  rcases h with h | ⟨r, hr, hawaits, hrest⟩
  · rw [h]
  · rw [hr]
    dsimp only
    rw [if_neg (by rw [hawaits]; exact Bool.false_ne_true), if_neg (by rw [hrest]; exact Bool.false_ne_true)]

/-- The back store is reported in a state that goes on from `v`. -/
theorem State.stored_reportBack {u : State} (hu : v.BesideTile i ((v.tile i).reported f) u) :
    v.Stored i f (u.reportBack i b n) := by
  refine ⟨_, BackStore.scheduled?_asReported b n, hu.trans ?_⟩
  have hback := u.besideTile_reportBack i b n
  rw [hu.1] at hback
  exact hback

include hport hlink

theorem State.asReported_of_quiet {u : State} (hu : v.BesideTile i ((v.tile i).reported f) u) (hquiet : u.quiet = v.quiet) :
    (u.reportBack i b n).AsReported p i b n := by
  refine State.asReported_reportBack u i b n ?_ ?_
  · rw [hu.1, Tile.geom_reported]
    exact hport
  · rw [Port.link_of_spine (State.spine_of_quiet hquiet p), hlink]
    decide

theorem State.storesReported_plain (h : v.scene = none ∨ ∃ r, v.scene = some r ∧ r.awaits r.epoch i = false ∧
    (Mask.has r.participants i && !Mask.has r.dropped i && r.stage.delivering?) = false) :
    v.Stored i f (v.storeReport i f b n) ∧ (v.storeReport i f b n).AsReported p i b n := by
  rw [State.storeReport_plain f b n h]
  exact ⟨State.stored_reportBack f b n (v.besideTile_reportFlip i f),
    State.asReported_of_quiet hport hlink f b n (v.besideTile_reportFlip i f) (v.quiet_reportFlip i f)⟩

/-! ## A participant still delivered to (R45) -/

section
variable {r : SceneRec} (hr : v.scene = some r) (hawaits : r.awaits r.epoch i = false) (hin : Mask.has r.participants i = true)
  (hkept : Mask.has r.dropped i = false) (hd : r.stage.delivering? = true)
include hr hawaits hin hkept hd

omit hport hlink in
theorem State.storeReport_resumes : v.storeReport i f b n = ((v.reportFlip i f).resume r i b n).armingRule := by
  unfold State.storeReport
  rw [hr]
  dsimp only
  rw [if_neg (by rw [hawaits]; exact Bool.false_ne_true), if_pos (by rw [hin, hkept, hd]; rfl)]

theorem State.storesReported_resumes : v.Stored i f (v.storeReport i f b n) ∧
    ((v.storeReport i f b n).tile i).back = BackStore.resumed b r.epoch n (v.stripesOf i) ∧
    (b ≠ 0 → ¬(b = r.epoch ∧ n ≤ v.stripesOf i) → ((v.storeReport i f b n).port p).hasDiscard b = true) := by
  have hflip := v.besideTile_reportFlip i f
  have hgeom : ((v.reportFlip i f).tile i).geom = (v.tile i).geom := by rw [hflip.1, Tile.geom_reported]
  have hstripes : (v.reportFlip i f).stripesOf i = v.stripesOf i := by
    unfold State.stripesOf
    rw [hgeom]
  have hresumed := (v.reportFlip i f).besideTile_resume r i b n
  rw [hflip.1, hstripes] at hresumed
  have hall := (hflip.trans hresumed).of_tiles (State.tiles_armingRule ((v.reportFlip i f).resume r i b n))
  rw [State.storeReport_resumes f b n hr hawaits hin hkept hd]
  refine ⟨⟨_, BackStore.scheduled?_resumed _ _ _ _, hall⟩, congrArg Tile.back hall.1, fun hb hgone => ?_⟩
  refine ((State.gains_armingRule _) p).2 b (State.hasDiscard_resume _ r i b n ?_ ?_ hb (by rw [hstripes]; exact hgone))
  · rw [hgeom]
    exact hport
  · rw [Port.link_of_spine (State.spine_of_quiet (v.quiet_reportFlip i f) p), hlink]
    decide

omit hport hlink in
/-- Another participant keeps the scene as it is (R58). -/
theorem State.scene_resumes {k : TileId} (hk : k ≠ i) (hkin : Mask.has r.participants k = true) (hkkept : Mask.has r.dropped k = false)
    (hunarmed : (v.tile k).back.isArmed r.epoch = false) (hgoes : r.requireAll = false ∨ r.dropped = 0) :
    (v.storeReport i f b n).scene =
      some { r with cursors := r.cursors.set i.val (resumedCursor b r.epoch n (v.stripesOf i)) } := by
  have hflip := v.besideTile_reportFlip i f
  have hgeom : ((v.reportFlip i f).tile i).geom = (v.tile i).geom := by rw [hflip.1, Tile.geom_reported]
  have hstripes : (v.reportFlip i f).stripesOf i = v.stripesOf i := by
    unfold State.stripesOf
    rw [hgeom]
  have hrun : ((v.reportFlip i f).resume r i b n).frameRun =
      .scene { r with cursors := r.cursors.set i.val (resumedCursor b r.epoch n (v.stripesOf i)) } := by
    rw [State.frameRun_resume, hstripes, State.frameRun_reportFlip v i f fun x hx => .inl ?_, State.scene_eq_some.mp hr]
    · rfl
    · obtain rfl := FrameRun.scene.inj ((State.scene_eq_some.mp hr).symm.trans hx)
      exact SceneRec.awaits_of_not hawaits f
  have hback : (((v.reportFlip i f).resume r i b n).tile k).back = (v.tile k).back :=
    congrArg Tile.back ((hflip.trans ((v.reportFlip i f).besideTile_resume r i b n)).2 k hk)
  rw [State.storeReport_resumes f b n hr hawaits hin hkept hd]
  generalize (v.reportFlip i f).resume r i b n = w at hrun hback
  have hsome := State.scene_eq_some.mpr hrun
  have hnotArmed : Mask.has (w.armedMask { r with cursors := r.cursors.set i.val (resumedCursor b r.epoch n (v.stripesOf i)) }) k = false := by
    refine Bool.eq_false_iff.mpr fun hyes => ?_
    have harmed := State.back_of_armedMask hyes
    rw [hback] at harmed
    exact Bool.eq_false_iff.mp hunarmed (beq_iff_eq.mpr harmed)
  rw [State.armingRule_eq hsome hd, if_neg fun h => ?_, if_neg fun h => ?_, if_neg fun h => ?_]
  · exact hsome
  · have hnone := Mask.eq_zero_iff.mp h k
    rw [Mask.has_and, Mask.has_not, hkkept, hkin] at hnone
    exact nomatch hnone
  · have hnone := Mask.eq_zero_iff.mp h.1 k
    rw [Mask.has_and, Mask.has_not, Mask.has_or, hnotArmed, hkkept, hkin] at hnone
    exact nomatch hnone
  · exact hgoes.elim (fun hno => Bool.false_ne_true (hno.symm.trans h.1)) h.2

end

/-! ## A flip-set tile that is neither confirmed nor unconfirmed (R65) -/

section
variable {r : SceneRec} (hr : v.scene = some r) (hawaits : r.awaits r.epoch i = true)
include hr hawaits

omit hport hlink in
theorem State.storeReport_relinks : v.storeReport i f b n = v.relinkFlip r i f b n := by
  unfold State.storeReport
  rw [hr]
  exact if_pos hawaits

/-- Row 1: the tile has flipped. -/
theorem State.storesReported_flipped (hback : (v.tile i).back.isScheduled r.epoch = true)
    (hf : f = r.epoch) : v.Stored i f (v.storeReport i f b n) ∧ (v.storeReport i f b n).AsReported p i b n ∧
    (r.stage.delivering? = false → r.flipSet &&& ~~~(r.confirmed ||| (r.unconfirmed ||| bitOf i)) ≠ 0 →
      ∃ u, (v.storeReport i f b n).scene = some u ∧ u.confirmed = r.confirmed ||| bitOf i ∧ u.unconfirmed = r.unconfirmed ∧ u.flags = r.flags) := by
  subst hf
  obtain ⟨g, hg⟩ := BackStore.isScheduled_iff.mp hback
  have heq : v.storeReport i r.epoch b n = ((v.confirmFlip i r.epoch).reportBack i b n).settleScene := by
    rw [State.storeReport_relinks r.epoch b n hr hawaits]
    unfold State.relinkFlip
    rw [hg]
    exact if_pos ⟨rfl, rfl⟩
  have hflip : v.BesideTile i ((v.tile i).reported r.epoch) (v.confirmFlip i r.epoch) := by
    rw [Tile.reported_of_scheduled _ _ hback]
    exact v.besideTile_confirmFlip i r.epoch
  have hstored := State.stored_reportBack r.epoch b n hflip
  have hasReported := State.asReported_of_quiet hport hlink r.epoch b n hflip (v.quiet_confirmFlip i r.epoch)
  have hrun : ((v.confirmFlip i r.epoch).reportBack i b n).frameRun = .scene { r with confirmed := r.confirmed ||| bitOf i } := by
    rw [State.frameRun_reportBack, State.frameRun_confirmFlip, State.scene_eq_some.mp hr]
    exact congrArg FrameRun.scene (if_pos hawaits)
  rw [heq]
  generalize (v.confirmFlip i r.epoch).reportBack i b n = w at hstored hasReported hrun
  obtain ⟨htiles, -, -, hports⟩ := w.settleScene_keeps
  obtain ⟨x, hx, hbeside⟩ := hstored
  refine ⟨⟨x, hx, hbeside.of_tiles htiles⟩, hasReported.of_parts htiles hports, fun hd hopen => ?_⟩
  refine ⟨_, State.scene_eq_some.mpr (State.frameRun_settleScene_of_open hrun hd ?_), rfl, rfl, rfl⟩
  have hsame : r.confirmed ||| bitOf i ||| r.unconfirmed = r.confirmed ||| (r.unconfirmed ||| bitOf i) := by
    rw [BitVec.or_assoc, BitVec.or_comm (bitOf i)]
  show r.flipSet &&& ~~~(r.confirmed ||| bitOf i ||| r.unconfirmed) ≠ 0
  rw [hsame]
  exact hopen

/-- Row 2: the whole picture is there, not flipped: the FLIP is sent again with a fresh target. -/
theorem State.storesReported_requeued {g : Word} (hback : (v.tile i).back = .scheduled r.epoch g)
    (hf : f ≠ r.epoch) (hwhole : b = r.epoch ∧ n = v.stripesOf i) : v.Stored i f (v.storeReport i f b n) ∧
    ((v.storeReport i f b n).tile i).back = .armed r.epoch ∧
    (v.storeReport i f b n).scene = some { r with flags := { r.flags with retried := true } } ∧
    ((v.storeReport i f b n).port p).queue = if (v.port p).queue.any (Reliable.isFlipOf r.epoch) then (v.port p).queue
      else (v.port p).queue ++ [.flip r.epoch g true] := by
  have hother : (v.tile i).back.isScheduled f = false := by
    rw [hback]
    exact beq_eq_false_iff_ne.mpr (Ne.symm hf)
  have heq : v.storeReport i f b n = ((v.modTile i fun x => { x.reported f with back := .armed r.epoch }).requeueFlip i r.epoch g).modScene
      fun r => { r with flags := { r.flags with retried := true } } := by
    rw [State.storeReport_relinks f b n hr hawaits]
    unfold State.relinkFlip
    rw [hback]
    dsimp only
    rw [if_neg fun h => hf h.2, if_pos ⟨rfl, hwhole⟩, State.reportFront_eq v i f hother]
    have htwice : (v.modTile i fun x => x.reported f).modTile i (fun x => { x with back := .armed r.epoch }) =
        v.modTile i fun x => { x.reported f with back := .armed r.epoch } := by
      unfold State.modTile State.setTile State.tile
      simp
    rw [htwice]
  have hbeside := v.besideTile_modTile i fun x => { x.reported f with back := .armed r.epoch }
  have hhere : ((v.modTile i fun x => { x.reported f with back := .armed r.epoch }).tile i).geom.port = some p := by
    rw [hbeside.1]
    exact (congrArg Geometry.port (Tile.geom_reported _ f)).trans hport
  have hrequeue : (v.modTile i fun x => { x.reported f with back := .armed r.epoch }).requeueFlip i r.epoch g =
      (v.modTile i fun x => { x.reported f with back := .armed r.epoch }).modPort p
        fun x => if x.queue.any (Reliable.isFlipOf r.epoch) then x else x.enqueue (.flip r.epoch g true) := by
    unfold State.requeueFlip
    rw [hhere]
  rw [heq, hrequeue]
  have hall : v.BesideTile i { (v.tile i).reported f with back := .armed r.epoch } (((v.modTile i fun x =>
      { x.reported f with back := .armed r.epoch }).modPort p fun x =>
        if x.queue.any (Reliable.isFlipOf r.epoch) then x else x.enqueue (.flip r.epoch g true)).modScene
      fun r => { r with flags := { r.flags with retried := true } }) := hbeside.of_tiles (State.tiles_modScene _ _)
  refine ⟨⟨.armed r.epoch, rfl, hall⟩, congrArg Tile.back hall.1, ?_, ?_⟩
  · rw [State.scene_modScene]
    exact congrArg (Option.map _) hr
  · rw [State.port_of_ports (State.ports_modScene _ _), State.port_modPort_self, State.port_modTile]
    split
    · rfl
    · exact congrArg Port.queue (if_neg (by rw [hlink]; decide))

omit hport hlink in
/-- Row 3: the whole picture is there, and its FLIP has not been sent. -/
theorem State.storesReported_armed (hback : (v.tile i).back = .armed r.epoch) (hf : f ≠ r.epoch)
    (hwhole : b = r.epoch ∧ n = v.stripesOf i) : v.Stored i f (v.storeReport i f b n) ∧
    ((v.storeReport i f b n).tile i).back = .armed r.epoch ∧ (v.storeReport i f b n).scene = some r ∧
    (v.storeReport i f b n).ports = v.ports := by
  have hother : (v.tile i).back.isScheduled f = false := by rw [hback]; rfl
  have hkept := Tile.back_reported _ f hother
  have heq : v.storeReport i f b n = v.modTile i fun x => x.reported f := by
    rw [State.storeReport_relinks f b n hr hawaits]
    unfold State.relinkFlip
    rw [hback]
    exact (if_pos ⟨rfl, hf, hwhole⟩).trans (State.reportFront_eq v i f hother)
  have hbeside := v.besideTile_modTile i fun x => x.reported f
  rw [heq]
  refine ⟨⟨((v.tile i).reported f).back, ?_, hbeside⟩, ?_, hr, rfl⟩
  · rw [hkept, hback]
    rfl
  · rw [hbeside.1, hkept, hback]

/-- The last row: the picture is lost. -/
theorem State.storesReported_lost
    (hother : (v.tile i).back.isScheduled r.epoch = false ∨ f ≠ r.epoch)
    (hgone : (v.tile i).back.isScheduled r.epoch = false ∧ (v.tile i).back.isArmed r.epoch = false ∨ f = r.epoch ∨
      ¬(b = r.epoch ∧ n = v.stripesOf i)) : v.Stored i f (v.storeReport i f b n) ∧ (v.storeReport i f b n).AsReported p i b n ∧
    ((v.storeReport i f b n).port p).queue.any (Reliable.isFlipOf r.epoch) = false ∧
    (r.stage.delivering? = false → r.flipSet &&& ~~~(r.confirmed ||| (r.unconfirmed ||| bitOf i)) ≠ 0 →
      ∃ u, (v.storeReport i f b n).scene = some u ∧ u.unconfirmed = r.unconfirmed ||| bitOf i ∧ u.lastUnconf = some .lost ∧ u.confirmed = r.confirmed) := by
  have heq : v.storeReport i f b n = v.loseFlip r i f b n := by
    rw [State.storeReport_relinks f b n hr hawaits]
    unfold State.relinkFlip
    cases hback : (v.tile i).back with
    | scheduled e g =>
      rw [hback] at hother hgone
      dsimp only
      by_cases he : e = r.epoch
      · have hf : f ≠ r.epoch := hother.resolve_left fun h => beq_eq_false_iff_ne.mp h he
        have hpart := hgone.resolve_left fun h => beq_eq_false_iff_ne.mp h.1 he
        rw [if_neg fun h => hf (h.2.trans he), if_neg fun h => (hpart.resolve_left hf) h.2]
      · rw [if_neg fun h => he h.1, if_neg fun h => he h.1]
    | armed e =>
      rw [hback] at hgone
      refine if_neg fun h => ?_
      obtain ⟨rfl, hf, hwhole⟩ := h
      rcases hgone with hnot | hyes | hnot
      · exact beq_eq_false_iff_ne.mp hnot.2 rfl
      · exact hf hyes
      · exact hnot hwhole
    | empty => rfl
    | loading e m => rfl
  have hflip := v.besideTile_reportFlip i f
  have hrun : (v.reportFlip i f).frameRun = .scene r := by
    rw [State.frameRun_reportFlip v i f fun x hx => ?_, State.scene_eq_some.mp hr]
    obtain rfl := FrameRun.scene.inj ((State.scene_eq_some.mp hr).symm.trans hx)
    by_cases hf : f = r.epoch
    · exact .inr (hf ▸ hother.resolve_right fun hne => hne hf)
    · exact .inl (SceneRec.awaits_of_ne (Ne.symm hf))
  rw [heq]
  unfold State.loseFlip
  dsimp only
  have hlost : ((v.reportFlip i f).unconfirm i .lost).frameRun =
      .scene { r with unconfirmed := r.unconfirmed ||| bitOf i, lastUnconf := some .lost } := State.frameRun_modScene_of_scene hrun _
  have hlostTile : v.BesideTile i ((v.tile i).reported f) ((v.reportFlip i f).unconfirm i .lost) :=
    hflip.of_tiles (State.tiles_modScene (v.reportFlip i f) _)
  have hhere : (((v.reportFlip i f).unconfirm i .lost).tile i).geom.port = some p :=
    (congrArg (fun x : Tile => x.geom.port) hlostTile.1).trans ((congrArg Geometry.port (Tile.geom_reported _ f)).trans hport)
  have hquiet : ((v.reportFlip i f).unconfirm i .lost).quiet = v.quiet := by rw [State.quiet_unconfirm, State.quiet_reportFlip]
  rw [hhere]
  dsimp only
  generalize (v.reportFlip i f).unconfirm i .lost = w at hlost hlostTile hhere hquiet
  have hdropped := hlostTile.of_tiles (u := w.modPort p fun x => x.dropQueued (Reliable.isFlipOf r.epoch)) rfl
  have hquiet : (w.modPort p fun x => x.dropQueued (Reliable.isFlipOf r.epoch)).quiet = v.quiet :=
    (w.quiet_dropQueued p _).trans hquiet
  have hclean : ∀ k ∈ ((w.modPort p fun x => x.dropQueued (Reliable.isFlipOf r.epoch)).port p).queue, k.isFlipOf r.epoch = false := by
    rw [State.port_modPort_self]
    intro k hk
    have hkeep := (List.mem_filter.mp hk).2
    exact Bool.not_eq_true' _ ▸ hkeep
  have hrun : (w.modPort p fun x => x.dropQueued (Reliable.isFlipOf r.epoch)).frameRun =
      .scene { r with unconfirmed := r.unconfirmed ||| bitOf i, lastUnconf := some .lost } := hlost
  generalize w.modPort p (fun x => x.dropQueued (Reliable.isFlipOf r.epoch)) = z at hdropped hquiet hclean hrun
  obtain ⟨x, hx, hbeside⟩ := State.stored_reportBack f b n hdropped
  have hasReported := State.asReported_of_quiet hport hlink f b n hdropped hquiet
  have hadds := z.adds_reportBack i b n
  have hrun : (z.reportBack i b n).frameRun = .scene { r with unconfirmed := r.unconfirmed ||| bitOf i, lastUnconf := some .lost } :=
    (z.frameRun_reportBack i b n).trans hrun
  generalize z.reportBack i b n = y at hbeside hasReported hadds hrun
  obtain ⟨htiles, -, -, hports⟩ := y.settleScene_keeps
  refine ⟨⟨x, hx, hbeside.of_tiles htiles⟩, hasReported.of_parts htiles hports, ?_, fun hd hopen => ?_⟩
  · rw [State.port_of_ports hports, List.any_eq_false]
    intro k hk
    rcases hadds p k hk with hkept | rfl
    · rw [hclean k hkept]
      exact Bool.false_ne_true
    · exact Bool.false_ne_true
  · exact ⟨_, State.scene_eq_some.mpr (State.frameRun_settleScene_of_open hrun hd hopen), rfl, rfl, rfl⟩

/-- The last row covers what the others leave. -/
theorem State.stored_relinks : v.Stored i f (v.storeReport i f b n) := by
  by_cases hf : f = r.epoch
  · by_cases hback : (v.tile i).back.isScheduled r.epoch = true
    · exact (State.storesReported_flipped hport hlink f b n hr hawaits hback hf).1
    · exact (State.storesReported_lost hport hlink f b n hr hawaits (.inl (Bool.eq_false_iff.mpr hback)) (.inr (.inl hf))).1
  · by_cases hwhole : b = r.epoch ∧ n = v.stripesOf i
    · by_cases hback : (v.tile i).back.isScheduled r.epoch = true
      · obtain ⟨g, hg⟩ := BackStore.isScheduled_iff.mp hback
        exact (State.storesReported_requeued hport hlink f b n hr hawaits hg hf hwhole).1
      · by_cases harmed : (v.tile i).back.isArmed r.epoch = true
        · exact (State.storesReported_armed f b n hr hawaits (beq_iff_eq.mp harmed) hf hwhole).1
        · exact (State.storesReported_lost hport hlink f b n hr hawaits (.inr hf)
            (.inl ⟨Bool.eq_false_iff.mpr hback, Bool.eq_false_iff.mpr harmed⟩)).1
    · exact (State.storesReported_lost hport hlink f b n hr hawaits (.inr hf) (.inr (.inr hwhole))).1

end

/-- The tile has reported, whatever runs. -/
theorem State.stored_storeReport : v.Stored i f (v.storeReport i f b n) := by
  cases hr : v.scene with
  | none => exact (State.storesReported_plain hport hlink f b n (.inl hr)).1
  | some r =>
    cases hawaits : r.awaits r.epoch i with
    | true => exact State.stored_relinks hport hlink f b n hr hawaits
    | false =>
      cases hrest : Mask.has r.participants i && !Mask.has r.dropped i && r.stage.delivering? with
      | false => exact (State.storesReported_plain hport hlink f b n (.inr ⟨r, hr, hawaits, hrest⟩)).1
      | true =>
        simp only [Bool.and_eq_true, Bool.not_eq_true'] at hrest
        exact (State.storesReported_resumes hport hlink f b n hr hawaits hrest.1.1 hrest.1.2 hrest.2).1

end

end Sys2Proof.Machine

/-! O43, the end of an offer exchange (R79–R82, R126). -/
namespace Sys2Proof.Machine

/-! ## The capability check (R81) -/

section
variable {s : State} {p : PortId} {o : TileOffer}

theorem State.sizeFits_iff : s.sizeFits p o = true ↔ ∀ i, s.tileOfPort p = some i →
    (s.tile i).geom.width ≤ o.width.toNat ∧ (s.tile i).geom.height ≤ o.height.toNat := by
  unfold State.sizeFits
  cases htile : s.tileOfPort p with
  | none => exact ⟨fun _ _ h => (nomatch h), fun _ => rfl⟩
  | some i =>
    dsimp only
    rw [Bool.and_eq_true, decide_eq_true_iff, decide_eq_true_iff]
    exact ⟨fun h m hm => Option.some.inj hm ▸ h, fun h => h i rfl⟩

/-- The grade at which the exchange ends (R81). -/
def State.agreed (s : State) (p : PortId) (o : TileOffer) : Option Grade :=
  usableGrade o.abilities ((s.port p).offeredCeiling.lower s.policy.ceiling)

/-- The port whose exchange is complete, before the reports are taken (R82). -/
def Port.exchanged (x : Port) (o : TileOffer) : Port :=
  { x.dropQueued Reliable.isDiscard with
    identity := { abilities := o.abilities, model := o.model, width := o.width, height := o.height }, nextSeq := 0, offerTimer := none }

theorem State.endExchange_of_usable (hfits : s.sizeFits p o = true) {g : Grade} (hg : s.agreed p o = some g) :
    s.endExchange p o = (((s.setPort p ((s.port p).exchanged o)).takeReports p o).beginAttempt p g) := by
  unfold State.agreed at hg
  unfold State.endExchange
  rw [hfits, hg]
  rfl

theorem State.endExchange_of_mismatch (h : s.sizeFits p o = false ∨ s.agreed p o = none) : s.endExchange p o = s.enterLost p .mismatch := by
  unfold State.agreed at h
  unfold State.endExchange
  cases hfits : s.sizeFits p o with
  | false => rfl
  | true =>
    rw [h.resolve_left fun hfalse => Bool.false_ne_true (hfalse.symm.trans hfits)]

theorem State.takeReports_of_none (h : s.tileOfPort p = none) : s.takeReports p o = s := by
  unfold State.takeReports
  rw [h]

theorem State.takeReports_of_some {i : TileId} (h : s.tileOfPort p = some i) : s.takeReports p o =
    (s.storeReport i o.front o.back o.count.toNat).modTile i fun x => x.tableReport o.activeGen o.pendingTable := by
  unfold State.takeReports
  rw [h]

theorem Tile.stores_tableReport (x : Tile) (a : Half) (flag : Bool) : (x.tableReport a flag).front = x.front ∧
    (x.tableReport a flag).back = x.back := by
  unfold Tile.tableReport
  split
  · exact ⟨rfl, rfl⟩
  · split <;> exact ⟨rfl, rfl⟩

end

/-! ## The end of the exchange (R81, R82) -/

/-- What the end of the exchange does to the port. -/
theorem State.port_ends (u : State) (p : PortId) (o : TileOffer) (g : Grade) :
    (((u.takeReports p o).beginAttempt p g).port p).spine = ((u.port p).training g u.policy.train).spine := by
  have hquiet := u.quiet_takeReports p o
  have hpolicy := congrArg State.policy hquiet
  have hpolicy : (u.takeReports p o).policy = u.policy := hpolicy
  rw [State.port_beginAttempt, hpolicy]
  exact Port.congr_spine (g := fun x => (x.training g u.policy.train).spine) (fun _ => rfl) (State.spine_of_quiet hquiet p)

/-- The tile of a completed exchange: its front epoch, and its tables after its stores (R53, R126). -/
theorem Tile.reports_eq (x : Tile) (f : Epoch) (b : BackStore) (hb : b.scheduled? = false) (a : Half) (flag : Bool) :
    let confirms := x.back.isScheduled f
    let active := if confirms then x.pendingGen.getD x.activeGen else x.activeGen
    let pending := if confirms then none else x.pendingGen
    let y := ({ x.reported f with back := b } : Tile).tableReport a flag
    y.front = (if confirms ∨ x.front = f then f else 0) ∧ y.geom = x.geom ∧
    (a = active ∧ flag = pending.isSome → y.activeGen = active ∧ y.pendingGen = pending ∧ y.stale = x.stale) ∧
    (¬(a = active ∧ flag = pending.isSome) → y.activeGen = a ∧ y.pendingGen = none ∧ y.stale = true) := by
  intro confirms active pending y
  obtain ⟨hactive, hpending, hstale⟩ := x.tables_reported f
  obtain ⟨hfront, -⟩ := ({ x.reported f with back := b } : Tile).stores_tableReport a flag
  refine ⟨hfront.trans (x.front_reported f), (Tile.geom_tableReport _ a flag).trans (x.geom_reported f), fun hsame => ?_, fun hdiffers => ?_⟩
  · have hy : y = { x.reported f with back := b } :=
      (Tile.tableReport_eq _ a flag hb).trans (if_pos ⟨hsame.1.trans hactive.symm, hsame.2.trans (congrArg Option.isSome hpending).symm⟩)
    rw [hy]
    exact ⟨hactive, hpending, hstale⟩
  · have hy : y = { ({ x.reported f with back := b } : Tile) with activeGen := a, pendingGen := none, stale := true } :=
      (Tile.tableReport_eq _ a flag hb).trans (if_neg fun h => hdiffers ⟨h.1.trans hactive, h.2.trans (congrArg Option.isSome hpending)⟩)
    rw [hy]
    exact ⟨rfl, rfl, rfl⟩

/-- What a training attempt and a table report leave of the reported stores. -/
theorem State.attempt_after (u : State) (p : PortId) (i : TileId) (g : Grade) (f : Tile → Tile) :
    (((u.modTile i f).beginAttempt p g).tile i = f (u.tile i)) ∧
    (∀ k : TileId, k ≠ i → ((u.modTile i f).beginAttempt p g).tile k = u.tile k) ∧
    ((u.modTile i f).beginAttempt p g).scene = u.scene ∧
    (((u.modTile i f).beginAttempt p g).port p).queue = (u.port p).queue ∧
    ∀ e, (((u.modTile i f).beginAttempt p g).port p).hasDiscard e = (u.port p).hasDiscard e := by
  obtain ⟨hself, hrest⟩ := (u.besideTile_modTile i f).of_tiles (u := (u.modTile i f).beginAttempt p g) rfl
  refine ⟨hself, hrest, rfl, ?_, fun e => ?_⟩
  · rw [State.port_beginAttempt, State.port_modTile]
    rfl
  · rw [State.port_beginAttempt, State.port_modTile]
    rfl

/-- What the reports of tile `i` have made of `s`, in the rules' own words (R45, R46, R53, R65, R73, R126). -/
def State.ReportsTaken (p : PortId) (i : TileId) (o : TileOffer) (s t : State) : Prop :=
  let x := s.tile i
  let stripes := s.stripesOf i
  let n := o.count.toNat
  let confirms := x.back.isScheduled o.front
  let active := if confirms then x.pendingGen.getD x.activeGen else x.activeGen
  let pending := if confirms then none else x.pendingGen
  let waiting := (s.port p).queue.filter (fun k => !k.isDiscard)
  let discards : Prop := (t.port p).hasDiscard o.back = true
  let asReported : Prop := (t.tile i).back = (if o.back = 0 then .empty else .loading o.back n) ∧ (o.back ≠ 0 → discards)
  (t.tile i).front = (if confirms ∨ x.front = o.front then o.front else 0) ∧ (t.tile i).geom = x.geom ∧
  (∀ k : TileId, k ≠ i → t.tile k = s.tile k) ∧
  (o.activeGen = active ∧ o.pendingTable = pending.isSome → (t.tile i).activeGen = active ∧
    (t.tile i).pendingGen = pending ∧ (t.tile i).stale = x.stale) ∧
  (¬(o.activeGen = active ∧ o.pendingTable = pending.isSome) → (t.tile i).activeGen = o.activeGen ∧
    (t.tile i).pendingGen = none ∧ (t.tile i).stale = true) ∧
  (s.scene = none → asReported) ∧
  (∀ r, s.scene = some r →
    let whole : Prop := o.back = r.epoch ∧ n = stripes
    let others := r.flipSet &&& ~~~(r.confirmed ||| (r.unconfirmed ||| bitOf i))
    (r.awaits r.epoch i = false →
      (Mask.has r.participants i = false ∨ Mask.has r.dropped i = true ∨ r.stage.delivering? = false) → asReported) ∧
    (r.awaits r.epoch i = false → Mask.has r.participants i = true → Mask.has r.dropped i = false →
      r.stage.delivering? = true →
      (t.tile i).back = (if o.back = 0 then .empty else if whole then .armed o.back else .loading o.back n) ∧
      (o.back ≠ 0 → ¬(o.back = r.epoch ∧ n ≤ stripes) → discards) ∧
      ((∃ k, k ≠ i ∧ Mask.has r.participants k = true ∧ Mask.has r.dropped k = false ∧
          (s.tile k).back.isArmed r.epoch = false) → r.requireAll = false ∨ r.dropped = 0 →
        t.scene = some { r with cursors := r.cursors.set i.val (if o.back = r.epoch ∧ o.back ≠ 0 ∧ n ≤ stripes then n else 0) })) ∧
    (r.awaits r.epoch i = true → r.stage.delivering? = false →
      (x.back.isScheduled r.epoch = true → o.front = r.epoch → asReported ∧ (others ≠ 0 → ∃ u, t.scene = some u ∧
        u.confirmed = r.confirmed ||| bitOf i ∧ u.unconfirmed = r.unconfirmed ∧ u.flags = r.flags)) ∧
      (∀ f, x.back = .scheduled r.epoch f → o.front ≠ r.epoch → whole → (t.tile i).back = .armed r.epoch ∧
        t.scene = some { r with flags := { r.flags with retried := true } } ∧
        (t.port p).queue =
          if waiting.any (Reliable.isFlipOf r.epoch) then waiting else waiting ++ [.flip r.epoch f true]) ∧
      (x.back = .armed r.epoch → o.front ≠ r.epoch → whole → (t.tile i).back = .armed r.epoch ∧ t.scene = some r ∧
        (t.port p).queue = waiting) ∧
      (x.back.isScheduled r.epoch = false ∨ o.front ≠ r.epoch →
        (x.back.isScheduled r.epoch = false ∧ x.back.isArmed r.epoch = false ∨ o.front = r.epoch ∨ ¬whole) →
        asReported ∧ (t.port p).queue.any (Reliable.isFlipOf r.epoch) = false ∧
          (others ≠ 0 → ∃ u, t.scene = some u ∧ u.unconfirmed = r.unconfirmed ||| bitOf i ∧ u.lastUnconf = some .lost ∧
            u.confirmed = r.confirmed))))

theorem State.AsReported.after {u t : State} {p : PortId} {i : TileId} {b : Epoch} {n : Nat} (h : u.AsReported p i b n)
    (hback : (t.tile i).back = (u.tile i).back) (hdiscard : ∀ e, (t.port p).hasDiscard e = (u.port p).hasDiscard e) :
    t.AsReported p i b n := by
  unfold State.AsReported
  rw [hback, hdiscard]
  exact h

/-- The reports of a port that is in OFFER, taken in a state that differs from `s` in ports alone. -/
theorem State.reports_of_stores {s v : State} {p : PortId} {i : TileId} (o : TileOffer) (seen : Bool) (g : Grade)
    (htiles : v.tiles = s.tiles) (hscene : v.scene = s.scene) (hqueue : (v.port p).queue = (s.port p).queue.filter fun k => !k.isDiscard)
    (hport : (v.tile i).geom.port = some p) (hlink : (v.port p).link = .offer) : State.ReportsTaken p i o s
      (((v.storeReport i o.front o.back o.count.toNat).modTile i fun x =>
        x.tableReport o.activeGen ({ o with seen := seen } : TileOffer).pendingTable).beginAttempt p g) := by
  have htile (k : TileId) : v.tile k = s.tile k := State.tile_of_tiles htiles k
  have hstripes : v.stripesOf i = s.stripesOf i := by
    unfold State.stripesOf
    rw [htile]
  obtain ⟨hself, hrest, hafter, hkept, hdiscard⟩ := State.attempt_after (v.storeReport i o.front o.back o.count.toNat) p i g
    fun x => x.tableReport o.activeGen ({ o with seen := seen } : TileOffer).pendingTable
  generalize (((v.storeReport i o.front o.back o.count.toNat).modTile i fun x =>
    x.tableReport o.activeGen ({ o with seen := seen } : TileOffer).pendingTable).beginAttempt p g) = t at *
  obtain ⟨b, hb, hreported, hothers⟩ := State.stored_storeReport hport hlink o.front o.back o.count.toNat
  have hback : (t.tile i).back = ((v.storeReport i o.front o.back o.count.toNat).tile i).back := by
    rw [hself]
    exact (Tile.stores_tableReport _ _ _).2
  obtain ⟨hfront, hgeom, hsame, hdiffers⟩ := (v.tile i).reports_eq o.front b hb o.activeGen o.pendingTable
  rw [← hreported, htile] at hfront hgeom hsame hdiffers
  have hself : t.tile i = ((v.storeReport i o.front o.back o.count.toNat).tile i).tableReport o.activeGen o.pendingTable := hself
  rw [← hself] at hfront hgeom hsame hdiffers
  refine ⟨hfront, hgeom, fun k hk => (hrest k hk).trans ((hothers k hk).trans (htile k)), hsame, hdiffers, fun hnone => ?_,
    fun r hr => ⟨fun hawaits hnot => ?_, fun hawaits hin hnotDropped hd => ?_, fun hawaits hd => ⟨fun hscheduled hf => ?_,
      fun f hscheduled hf hwhole => ?_, fun harmed hf hwhole => ?_, fun hother hgone => ?_⟩⟩⟩
  · exact (State.storesReported_plain hport hlink o.front o.back o.count.toNat (.inl (hscene.trans hnone))).2.after hback hdiscard
  · have hplain : (Mask.has r.participants i && !Mask.has r.dropped i && r.stage.delivering?) = false := by
      rcases hnot with h | h | h <;> rw [h] <;> simp
    exact (State.storesReported_plain hport hlink o.front o.back o.count.toNat (.inr ⟨r, hscene.trans hr, hawaits, hplain⟩)).2.after
      hback hdiscard
  · obtain ⟨-, hresumed, hdiscarded⟩ := State.storesReported_resumes hport hlink o.front o.back o.count.toNat (hscene.trans hr) hawaits hin
      hnotDropped hd
    rw [hstripes] at hresumed hdiscarded
    refine ⟨hback.trans hresumed, fun hb hgone => (hdiscard _).trans (hdiscarded hb hgone), fun ⟨k, hk, hkin, hkkept, hkarmed⟩ hgoes => ?_⟩
    have hgoesOn := State.scene_resumes o.front o.back o.count.toNat (hscene.trans hr) hawaits hin hnotDropped hd hk hkin hkkept
      (by rw [htile]; exact hkarmed) hgoes
    rw [hstripes] at hgoesOn
    exact hafter.trans hgoesOn
  · obtain ⟨-, hasReported, hopen⟩ := State.storesReported_flipped hport hlink o.front o.back o.count.toNat (hscene.trans hr) hawaits
      (by rw [htile]; exact hscheduled) hf
    refine ⟨hasReported.after hback hdiscard, fun hothers => ?_⟩
    obtain ⟨u, hu, hrecord⟩ := hopen hd hothers
    exact ⟨u, hafter.trans hu, hrecord⟩
  · obtain ⟨-, harmed, hretried, hqueued⟩ := State.storesReported_requeued hport hlink o.front o.back o.count.toNat (hscene.trans hr) hawaits
      (by rw [htile]; exact hscheduled) hf (by rw [hstripes]; exact hwhole)
    rw [hqueue] at hqueued
    exact ⟨hback.trans harmed, hafter.trans hretried, hkept.trans hqueued⟩
  · obtain ⟨-, hstays, hsame, hports⟩ := State.storesReported_armed o.front o.back o.count.toNat (hscene.trans hr) hawaits
      (by rw [htile]; exact harmed) hf (by rw [hstripes]; exact hwhole)
    exact ⟨hback.trans hstays, hafter.trans hsame, hkept.trans ((congrArg Port.queue (State.port_of_ports hports p)).trans hqueue)⟩
  · obtain ⟨-, hasReported, hclean, hopen⟩ := State.storesReported_lost hport hlink o.front o.back o.count.toNat (hscene.trans hr) hawaits
      (by rw [htile]; exact hother) (by rw [htile, hstripes]; exact hgone)
    refine ⟨hasReported.after hback hdiscard, by rw [hkept]; exact hclean, fun hothers => ?_⟩
    obtain ⟨u, hu, hrecord⟩ := hopen hd hothers
    exact ⟨u, hafter.trans hu, hrecord⟩

/-- The exchange of a port that is in OFFER ends, the record being known but for SEEN (R79–R82). -/
theorem State.exchangeEnds {s : State} {p : PortId} {z : Port} (o : TileOffer) (seen : Bool) (hlink : z.link = .offer)
    (hceiling : z.offeredCeiling = (s.port p).offeredCeiling) (hattempts : z.attempts = (s.port p).attempts)
    (hqueue : z.queue = (s.port p).queue) : ExchangeEnds p o s ((s.setPort p z).endExchange p { o with seen := seen }) := by
  have hfits : (s.setPort p z).sizeFits p { o with seen := seen } = true ↔ ∀ i, s.tileOfPort p = some i →
      (s.tile i).geom.width ≤ o.width.toNat ∧ (s.tile i).geom.height ≤ o.height.toNat := State.sizeFits_iff
  have hagreed : (s.setPort p z).agreed p { o with seen := seen } =
      usableGrade o.abilities ((s.port p).offeredCeiling.lower s.policy.ceiling) := by
    unfold State.agreed
    rw [State.port_setPort_self, hceiling]
    rfl
  refine ⟨fun hfit g hg => ?_, fun hlost => ?_⟩
  · rw [State.endExchange_of_usable (hfits.mpr hfit) (hagreed.trans hg), State.port_setPort_self, setPort_setPort]
    have hspine := (s.setPort p (z.exchanged { o with seen := seen })).port_ends p { o with seen := seen } g
    rw [State.port_setPort_self] at hspine
    have hfield {α} (f : Port → α) := congrArg f hspine
    have hattempt := hfield Port.attempts
    have hattempt : ((((s.setPort p (z.exchanged { o with seen := seen })).takeReports p { o with seen := seen }).beginAttempt p
      g).port p).attempts = z.attempts := hattempt
    refine ⟨hfield Port.link, hfield Port.grade, hfield Port.nextSeq, hfield Port.lockCount, hfield Port.locked, hfield Port.trainTimer,
      hfield Port.offerTimer, hattempt.trans hattempts, hfield Port.identity, fun i hi => ?_⟩
    have hvport : (s.setPort p (z.exchanged { o with seen := seen })).port p = z.exchanged { o with seen := seen } :=
      State.port_setPort_self s p _
    have hvlink : ((s.setPort p (z.exchanged { o with seen := seen })).port p).link = .offer := by
      rw [hvport]
      exact hlink
    have hvqueue : ((s.setPort p (z.exchanged { o with seen := seen })).port p).queue =
        (s.port p).queue.filter fun k => !k.isDiscard := by
      rw [hvport, ← hqueue]
      rfl
    have hvin : ((s.setPort p (z.exchanged { o with seen := seen })).tile i).geom.port = some p := State.port_of_tileOfPort hi
    have hvtile : (s.setPort p (z.exchanged { o with seen := seen })).tileOfPort p = some i := hi
    have hvtiles : (s.setPort p (z.exchanged { o with seen := seen })).tiles = s.tiles := rfl
    have hvscene : (s.setPort p (z.exchanged { o with seen := seen })).scene = s.scene := rfl
    rw [State.takeReports_of_some hvtile]
    exact State.reports_of_stores o seen g hvtiles hvscene hvqueue hvin hvlink
  · have hmismatch : (s.setPort p z).sizeFits p { o with seen := seen } = false ∨ (s.setPort p z).agreed p { o with seen := seen } = none :=
      hlost.imp (fun hnot => Bool.eq_false_iff.mpr fun hyes => hnot (hfits.mp hyes)) hagreed.trans
    rw [State.endExchange_of_mismatch hmismatch]
    have hspine := (s.setPort p z).spine_enterLost p .mismatch
    exact ⟨(congrArg Port.link hspine : _), (congrArg Port.lostCause hspine : _),
      congrArg Causes.tile (State.causes_enterLost (s.setPort p z) p .mismatch)⟩

/-! ## A tile OFFER in OFFER (R79, R80) -/

theorem sameOffer_iff {o r : TileOffer} : sameOffer o r = true ↔ o = { r with seen := o.seen } := by
  cases o
  cases r
  simp [sameOffer]

theorem offerWellFormed_iff {o : TileOffer} : offerWellFormed o = true ↔ ¬(o.width = 0 ∨ o.height = 0 ∨ 128 < o.count.toNat) := by
  unfold offerWellFormed
  simp only [Bool.and_eq_true, bne_iff_ne, decide_eq_true_iff, not_or, Nat.not_lt, and_assoc, ne_eq]

/-- The port that has recorded an OFFER (R80). -/
def Port.recording (x : Port) (o : TileOffer) : Port :=
  { x with offer := some (x.offer.getD o), tileSeen := x.tileSeen || o.seen, offersDue := x.offersDue + 1 }

section
variable {s : State} {p : PortId} {o : TileOffer}

theorem State.takeOffer_restarts (h : offerWellFormed o = false ∨ ∃ r, (s.port p).offer = some r ∧ sameOffer o r = false) :
    s.takeOffer p (some o) = s.restartOffer p := by
  unfold State.takeOffer
  refine if_pos ?_
  rcases h with h | ⟨r, hr, hdiffers⟩
  · rw [h]
    rfl
  · rw [hr]
    dsimp only
    rw [hdiffers]
    exact Bool.or_true _

theorem State.takeOffer_records (hwell : offerWellFormed o = true) (hsame : ∀ r, (s.port p).offer = some r → sameOffer o r = true) :
    s.takeOffer p (some o) = (s.setPort p ((s.port p).recording o)).checkExchange p := by
  unfold State.takeOffer
  refine if_neg ?_
  rw [hwell]
  cases hr : (s.port p).offer with
  | none => exact Bool.false_ne_true
  | some r =>
    dsimp only
    rw [hsame r hr]
    exact Bool.false_ne_true

/-- The exchange ends, or not yet (R79). -/
theorem State.checkExchange_eq {z : Port} {r : TileOffer} (hlink : z.link = .offer) (hr : z.offer = some r) :
    (s.setPort p z).checkExchange p =
      if z.tileSeen = true ∧ z.seenSent = true then (s.setPort p z).endExchange p r else s.setPort p z := by
  unfold State.checkExchange
  rw [State.port_setPort_self, hr]
  dsimp only
  refine if_congr ?_ rfl rfl
  rw [hlink, Bool.and_eq_true, Bool.and_eq_true]
  exact ⟨fun h => ⟨h.1.2, h.2⟩, fun h => ⟨⟨rfl, h.1⟩, h.2⟩⟩

theorem exec_offerReceived (hlink : (s.port p).link = .offer) (x : Option TileOffer) :
    exec (.offerReceived p x) s = .next (s.takeOffer p x).settle := by
  simp only [exec, execOfferReceived, hlink, State.settled]

theorem State.restartOffer_port : ((s.restartOffer p).port p).link = .listen ∧
    ((s.restartOffer p).port p).ind = { (s.port p).ind with offerRestarted := true } ∧
    ((s.restartOffer p).port p).beaconDue = true ∧ ((s.restartOffer p).port p).offer = none := by
  have hspine := s.spine_restartOffer p
  have hfield {α : Type} (f : Port → α) := congrArg f hspine
  generalize s.restartOffer p = t at *
  exact ⟨hfield Port.link, hfield Port.ind, hfield Port.beaconDue, hfield Port.offer⟩

end

/-- Settles O43: the malformed, the differing and the recorded OFFER, and the one that ends the exchange. -/
theorem offersEndTheExchange : Obligations.OffersEndTheExchange := by
  intro s p o hlink
  dsimp only
  refine ⟨⟨_, exec_offerReceived hlink none, State.restartOffer_port⟩, fun hbad => ⟨_, exec_offerReceived hlink _, ?_⟩,
    fun ⟨r, hr, hdiffers⟩ => ⟨_, exec_offerReceived hlink _, ?_⟩, fun hwell hsame hopen => ?_, fun hwell hsame hboth => ?_⟩
  · rw [State.takeOffer_restarts (.inl (Bool.eq_false_iff.mpr fun hyes => offerWellFormed_iff.mp hyes hbad))]
    exact State.restartOffer_port
  · rw [State.takeOffer_restarts (.inr ⟨r, hr, Bool.eq_false_iff.mpr fun hyes => hdiffers (sameOffer_iff.mp hyes)⟩)]
    exact State.restartOffer_port
  all_goals
    have hknown : ∀ r, (s.port p).offer = some r → sameOffer o r = true := fun r hr =>
      sameOffer_iff.mpr (by_contra fun hne => hsame ⟨r, hr, hne⟩)
    rw [exec_offerReceived hlink, State.takeOffer_records (offerWellFormed_iff.mpr hwell) hknown,
      State.checkExchange_eq (z := (s.port p).recording o) hlink rfl]
  · rw [if_neg (show ¬(((s.port p).recording o).tileSeen = true ∧ ((s.port p).recording o).seenSent = true) from hopen)]
    rfl
  · rw [if_pos (show ((s.port p).recording o).tileSeen = true ∧ ((s.port p).recording o).seenSent = true from hboth)]
    refine ⟨_, rfl, ?_⟩
    have hrecord : (s.port p).offer.getD o = { o with seen := ((s.port p).offer.getD o).seen } := by
      cases hr : (s.port p).offer with
      | none => rfl
      | some r =>
        have hrecorded := sameOffer_iff.mp (hknown r hr)
        rw [Option.getD_some]
        generalize o.seen = b at hrecorded
        subst hrecorded
        rfl
    rw [hrecord]
    exact State.exchangeEnds (z := (s.port p).recording o) o _ hlink rfl rfl rfl

end Sys2Proof.Machine

/-! O46, what a free transmitter begins (R78, R79, R83, R99, R101, R106). -/
namespace Sys2Proof.Machine

/-! ## A port that goes OFF keeps no packet (R77) -/

section
variable {P : Reliable → Prop} (s : State)

theorem Port.adds_flush (x : Port) : x.Adds P x.flush := by
  refine Port.Adds.trans (y := (x.freeBuf .first).freeBuf .second) (Port.adds_of_queue ?_) (Port.adds_dropQueued _ _)
  rw [Port.queue_freeBuf, Port.queue_freeBuf]

theorem State.adds_flushPort (p : PortId) : s.Adds P (s.flushPort p) := by
  have hflush := (s.adds_modPort p (Port.adds_flush (P := P) (s.port p))).trans (State.adds_releaseEngine _ p)
  unfold State.flushPort
  dsimp only
  split
  · split
    · exact hflush.trans (State.adds_of_ports (State.ports_modScene _ _))
    · exact hflush
  · exact hflush

theorem State.adds_dropQueuedOf (t : TileId) (f : Reliable → Bool) : s.Adds P (s.dropQueuedOf t f) := by
  unfold State.dropQueuedOf
  split
  · exact State.Adds.refl s
  · exact s.adds_modPort _ (Port.adds_dropQueued _ _)

theorem State.ports_settleLut : s.settleLut.ports = s.ports := by
  unfold State.settleLut
  split
  · rfl
  · split
    · exact s.completeFrame_ports _
    · rfl

theorem State.ports_settleVerify : s.settleVerify.ports = s.ports := by
  unfold State.settleVerify
  split
  · rfl
  · split
    · split
      · exact s.completeFrame_ports _
      · rfl
    · rfl

theorem State.ports_modLut (f : LutRec → LutRec) : (s.modLut f).ports = s.ports := by
  unfold State.modLut
  split <;> rfl

theorem State.ports_modVerify (f : VerifyRec → VerifyRec) : (s.modVerify f).ports = s.ports := by
  unfold State.modVerify
  split <;> rfl

theorem State.adds_lutSkip (t : TileId) : s.Adds P (s.lutSkip t) := by
  unfold State.lutSkip
  split
  · exact State.Adds.refl s
  · split
    · exact ((State.adds_of_ports (s.ports_modLut _)).trans (State.adds_dropQueuedOf _ t _)).trans
        (State.adds_of_ports (State.ports_settleLut _))
    · exact State.Adds.refl s

theorem State.adds_verifyMiss (t : TileId) : s.Adds P (s.verifyMiss t) := by
  unfold State.verifyMiss
  split
  · exact State.Adds.refl s
  · split
    · exact ((State.adds_of_ports (s.ports_modVerify _)).trans (State.adds_dropQueuedOf _ t _)).trans
        (State.adds_of_ports (State.ports_settleVerify _))
    · exact State.Adds.refl s

theorem State.adds_portLeft (p : PortId) : s.Adds P (s.portLeft p) := by
  unfold State.portLeft
  split
  · exact State.Adds.refl s
  · exact (s.adds_lutSkip _).trans (State.adds_verifyMiss _ _)

theorem State.queue_goOff (p : PortId) : ((s.goOff p).port p).queue = [] := by
  have hadds := ((s.modPort p Port.switchedOff).adds_flushPort (P := fun _ => False) p).trans (State.adds_portLeft _ p)
  refine List.eq_nil_iff_forall_not_mem.mpr fun k hk => ?_
  rcases hadds p k hk with hkept | hno
  · rw [State.port_modPort_self] at hkept
    exact nomatch hkept
  · exact hno

end

/-! ## What an idle transmitter begins (R99) -/

section
variable {v : State} {p : PortId} (htx : (v.port p).tx = none)
include htx

theorem State.transmit_listen (hlink : (v.port p).link = .listen) (hdue : (v.port p).beaconDue = true) : v.transmit p none =
    v.setPort p (Port.begin { v.port p with beaconDue := false } (.beacon p)) := by
  generalize hsent : v.setPort p (Port.begin { v.port p with beaconDue := false } (.beacon p)) = t
  unfold State.transmit
  dsimp only
  rw [htx, hlink]
  exact (if_pos hdue).trans hsent

theorem State.transmit_offer (hlink : (v.port p).link = .offer) {k : Nat} (hdue : (v.port p).offersDue = k + 1) : v.transmit p none =
    (v.setPort p (Port.begin { v.port p with offersDue := k, seenSent := (v.port p).seenSent || (v.port p).offer.isSome }
      (.offer (v.port p).offeredCeiling (v.port p).offer.isSome p))).checkExchange p := by
  generalize hsent : (v.setPort p (Port.begin { v.port p with
    offersDue := k, seenSent := (v.port p).seenSent || (v.port p).offer.isSome }
      (.offer (v.port p).offeredCeiling (v.port p).offer.isSome p))).checkExchange p = t
  unfold State.transmit
  dsimp only
  rw [htx, hlink]
  dsimp only
  rw [hdue]
  exact hsent

theorem State.transmit_train (hlink : (v.port p).link = .train) : v.transmit p none = v.setPort p ((v.port p).begin (v.trainPacket p)) := by
  generalize hsent : v.setPort p ((v.port p).begin (v.trainPacket p)) = t
  unfold State.transmit
  dsimp only
  rw [htx, hlink]
  exact hsent

theorem State.transmit_off (hlink : (v.port p).link = .off ∨ (v.port p).link = .lost) : v.transmit p none = v := by
  unfold State.transmit
  dsimp only
  rcases hlink with h | h <;> rw [htx, h]

theorem State.transmit_up (hlink : (v.port p).link = .up) : v.transmit p none = v.transmitUp p none := by
  unfold State.transmit
  dsimp only
  rw [htx, hlink]

end

/-- The OFFER that does not end the exchange (R79). -/
theorem State.checkExchange_of_open {v : State} {p : PortId} {z : Port} (h : z.tileSeen = false ∨ z.offer = none) :
    (v.setPort p z).checkExchange p = v.setPort p z := by
  unfold State.checkExchange
  rw [State.port_setPort_self]
  split
  · rfl
  · next o ho =>
    refine if_neg fun hyes => ?_
    rw [Bool.and_eq_true, Bool.and_eq_true] at hyes
    rcases h with h | h
    · exact Bool.false_ne_true (h.symm.trans hyes.1.2)
    · exact nomatch h.symm.trans ho

/-! ### In UP -/

/-- What an UP port begins where no packet of an open run is ready: the head of its queue, or the packet of a LINK_TEST (R99). -/
def State.transmitFresh (v : State) (p : PortId) (x : Port) : State :=
  match x.queue, x.mayStart, x.test with
  | k :: _, true, _ => v.sendHead p k none
  | _, _, some k => if k.due then v.modPort p (fun x => x.sendTest v.policy.ack k) else v
  | _, _, none => v


section
variable {v : State} {p : PortId} {x : Port} (hx : v.port p = x)
include hx

theorem State.transmitUp_notice (hdue : x.noticeDue = true) :
    v.transmitUp p none = ((v.setPort p (x.begin .sleepNotice)).exitUp p).goOff p := by
  unfold State.transmitUp
  dsimp only
  rw [hx, if_pos hdue, State.modPort_eq, hx]

section
variable (hnotice : x.noticeDue = false)
include hnotice

theorem State.transmitUp_sync {n : Word} (hdue : x.syncDue = some n) :
    v.transmitUp p none = v.setPort p (Port.begin { x with syncDue := none } (.sync n)) := by
  unfold State.transmitUp
  dsimp only
  rw [hx, if_neg (by rw [hnotice]; exact Bool.false_ne_true), hdue]
  dsimp only
  rw [State.modPort_eq, hx]

section
variable (hsync : x.syncDue = none)
include hsync

theorem State.transmitUp_run (hhold : x.holdTimer = none) {n : Byte} {rest : List Byte} (hrun : x.run = n :: rest) :
    v.transmitUp p none = v.sendResend p n rest none := by
  unfold State.transmitUp
  dsimp only
  rw [hx, if_neg (by rw [hnotice]; exact Bool.false_ne_true), hsync, hhold, hrun]

/-- Nothing of an open run is ready. -/
theorem State.transmitUp_later (h : x.holdTimer ≠ none ∨ x.run = []) : v.transmitUp p none = v.transmitFresh p x := by
  unfold State.transmitUp State.transmitFresh
  dsimp only
  rw [hx, if_neg (by rw [hnotice]; exact Bool.false_ne_true), hsync]
  rcases h with h | h
  · cases hn : x.holdTimer with
    | none => exact absurd hn h
    | some n => rfl
  · rw [h]
    cases x.holdTimer <;> rfl

theorem State.transmitUp_head (hstart : x.mayStart = true) {k : Reliable} {rest : List Reliable} (hqueue : x.queue = k :: rest) :
    v.transmitUp p none = v.sendHead p k none := by
  have hrun : x.run = [] := by
    unfold Port.mayStart at hstart
    simp only [Bool.and_eq_true, List.isEmpty_iff] at hstart
    exact hstart.1.2
  rw [State.transmitUp_later hx hnotice hsync (.inr hrun), State.transmitFresh, hqueue, hstart]

section
variable (hidle : x.holdTimer.isSome = true ∨ x.run = [] ∧ x.queue = [])
include hidle

theorem State.transmitUp_test {k : LinkTest} (htest : x.test = some k) (hdue : k.due = true) :
    v.transmitUp p none = v.setPort p (Port.begin { x with test := some (k.afterSend v.policy.ack) } k.packet) := by
  have hsent : v.modPort p (fun x => x.sendTest v.policy.ack k) =
      v.setPort p (Port.begin { x with test := some (k.afterSend v.policy.ack) } k.packet) := by
    rw [State.modPort_eq, hx]
    rfl
  generalize v.setPort p (Port.begin { x with test := some (k.afterSend v.policy.ack) } k.packet) = t at hsent ⊢
  rcases hidle with h | ⟨hrun, hqueue⟩
  · have hnot : x.mayStart = false := by
      unfold Port.mayStart
      rw [Option.isNone_eq_false_iff.mpr h]
      simp
    rw [State.transmitUp_later hx hnotice hsync (.inl (Option.isSome_iff_ne_none.mp h)), State.transmitFresh, hnot, htest]
    cases x.queue <;> exact (if_pos hdue).trans hsent
  · rw [State.transmitUp_later hx hnotice hsync (.inr hrun), State.transmitFresh, hqueue, htest]
    exact (if_pos hdue).trans hsent

theorem State.transmitUp_nothing (htest : ∀ k, x.test = some k → k.due = false) : v.transmitUp p none = v := by
  rcases hidle with h | ⟨hrun, hqueue⟩
  · have hnot : x.mayStart = false := by
      unfold Port.mayStart
      rw [Option.isNone_eq_false_iff.mpr h]
      simp
    rw [State.transmitUp_later hx hnotice hsync (.inl (Option.isSome_iff_ne_none.mp h)), State.transmitFresh, hnot]
    cases hk : x.test with
    | none => cases x.queue <;> rfl
    | some k => cases x.queue <;> exact if_neg (by rw [htest k hk]; exact Bool.false_ne_true)
  · rw [State.transmitUp_later hx hnotice hsync (.inr hrun), State.transmitFresh, hqueue]
    cases hk : x.test with
    | none => rfl
    | some k => exact if_neg (by rw [htest k hk]; exact Bool.false_ne_true)

end

end

end

end

/-! ## The head of the queue (R40, R41, R59, R101) -/

section
variable {v : State} {p : PortId} {x : Port} (hx : v.port p = x)
include hx

/-- A DISCARD, a TABLE or a CHECK is sent as it waits. -/
theorem State.sendHead_plain {k : Reliable} {packet : Packet} {rest : List Reliable} (hqueue : x.queue = k :: rest)
    (h : (∃ e, k = .discard e ∧ packet = .discard x.nextSeq e) ∨ (∃ l n again, k = .table l n again ∧ packet = .table x.nextSeq l) ∨
      ∃ e n again, k = .check e n again ∧ packet = .check x.nextSeq e) :
    v.sendHead p k none = v.setPort p (Port.begin { x.armAckTimer v.policy.ack with
      queue := rest, window := x.window ++ [{ number := x.nextSeq, packet := k, retries := 0 }], nextSeq := x.nextSeq + 1 } packet) := by
  have hsend : x.sendFirst v.policy.ack k packet = Port.begin { x.armAckTimer v.policy.ack with
      queue := rest, window := x.window ++ [{ number := x.nextSeq, packet := k, retries := 0 }], nextSeq := x.nextSeq + 1 } packet := by
    unfold Port.sendFirst
    rw [hqueue]
    rfl
  rcases h with ⟨e, rfl, rfl⟩ | ⟨l, n, again, rfl, rfl⟩ | ⟨e, n, again, rfl, rfl⟩ <;>
  · unfold State.sendHead
    dsimp only
    rw [State.modPort_eq, hx, hsend]

theorem State.sendStripe_intact {b : BufId} {st : Stripe} (hb : x.buf b = .ready st) (hcheck : crc32 st.pixels = st.check) :
    v.sendStripe p b none = (v.setPort p ((x.setBuf b (.sent st)).sendFirst v.policy.ack (.stripe b)
      (.stripe x.nextSeq st.id st.pixels))).modTile st.id.tile fun r => { r with back := r.back.afterFirstSend st.id.epoch } := by
  unfold State.sendStripe
  dsimp only
  rw [hx, hb]
  exact if_pos (beq_iff_eq.mpr hcheck)

theorem State.sendStripe_damaged {b : BufId} {st : Stripe} (hb : x.buf b = .ready st) (hcheck : crc32 st.pixels ≠ st.check) :
    v.sendStripe p b none = v.halt .bufferFault := by
  unfold State.sendStripe
  dsimp only
  rw [hx, hb]
  exact if_neg fun h => hcheck (beq_iff_eq.mp h)

end

theorem BackStore.afterFirstSend_of_ne {b : BackStore} (h : b ≠ .empty) (e : Epoch) : b.afterFirstSend e = b := by
  cases b with
  | empty => exact absurd rfl h
  | loading e' n => rfl
  | armed e' => rfl
  | scheduled e' f => rfl

theorem Port.buf_sendFirst (x : Port) (timeout : Nat) (kept : Reliable) (k : Packet) (b : BufId) :
    (x.sendFirst timeout kept k).buf b = x.buf b := by
  unfold Port.sendFirst Port.armAckTimer
  cases b <;> split <;> rfl

/-- The FLIP at the head of the queue is transmitted (R59, R64). -/
theorem State.sendFlip_sent {v : State} {p : PortId} {x : Port} (hx : v.port p = x) {i : TileId} (htile : v.tileOfPort p = some i)
    {e : Epoch} (hholds : (v.tile i).back.holds e = true) (f : Word) (fresh : Bool) :
    let target := if fresh then freshTarget v.ref.frameNumber ((v.tile i).back.targetOr f) else f
    ((v.sendFlip p e f fresh).port p).tx = some (.flip x.nextSeq e target) ∧
    ((v.sendFlip p e f fresh).tile i).back = .scheduled e target := by
  intro target
  have heq : ∃ g, v.sendFlip p e f fresh = State.settleScene (((v.modPort p fun x =>
      x.sendFirst v.policy.ack (.flip e target false) (.flip x.nextSeq e target)).modTile i
        fun r => { r with back := r.back.afterFlip e target }).modScene g) := by
    unfold State.sendFlip
    rw [htile]
    exact ⟨_, rfl⟩
  obtain ⟨g, heq⟩ := heq
  obtain ⟨htiles, -, -, hports⟩ := State.settleScene_keeps (((v.modPort p fun x =>
      x.sendFirst v.policy.ack (.flip e target false) (.flip x.nextSeq e target)).modTile i
        fun r => { r with back := r.back.afterFlip e target }).modScene g)
  rw [heq]
  refine ⟨?_, ?_⟩
  · rw [State.port_of_ports (hports.trans (State.ports_modScene _ g)), State.port_modTile, State.port_modPort_self, hx]
    rfl
  · rw [State.tile_of_tiles (htiles.trans (State.tiles_modScene _ g)), (State.besideTile_modTile _ i _).1]
    exact if_pos hholds

/-! ## The next packet of the open run (R106) -/

/-- A retransmission (R106, R113, R114). -/
theorem State.sendResend_sent {v : State} {p : PortId} {x : Port} (hx : v.port p = x) {n : Byte} {rest : List Byte} {o : Outstanding}
    {k : Packet} (hfind : x.window.find? (fun k => k.number == n) = some o) (hintact : x.resendIntact o none = true)
    (htally : x.tally < 254) (hsent : x.resent o none = some k) : (v.sendResend p n rest none).port p =
      Port.begin { x with
        run := rest
        window := x.window.map (fun y => if y.number = n then { y with retries := y.retries + 1 } else y)
        ctr := { x.ctr with retransmits := satInc x.ctr.retransmits }
        tally := x.tally + 1 } k := by
  have hnote (u : State) (m : Reliable) : (u.noteResent p m).ports = u.ports := by
    unfold State.noteResent State.noteTable State.noteCheck
    rw [State.ports_modVerify, State.ports_modLut]
    split
    · rfl
    · exact State.ports_modScene u _
  unfold State.sendResend
  dsimp only
  rw [State.port_modPort_self, hx]
  dsimp only
  rw [hfind]
  dsimp only
  have hsame : ({ x with run := rest } : Port).resendIntact o none = true := hintact
  have hresent : ({ x with run := rest } : Port).resent o none = some k := hsent
  have hport : ((((v.modPort p fun x => { x with run := rest }).modPort p fun x => x.countResend n).noteResent p o.packet).port p) =
      ({ x with run := rest } : Port).countResend n := by
    rw [State.port_of_ports (hnote _ _), State.port_modPort_self, State.port_modPort_self, hx]
  have hbelow : (({ x with run := rest } : Port).countResend n).tally ≠ Config.tallyLimit := by
    show x.tally + 1 ≠ 255
    omega
  rw [hsame, hport, hresent, if_neg hbelow]
  dsimp only
  rw [if_neg (by decide), State.port_modPort_self, hport]
  rfl

end Sys2Proof.Machine

/-! O46, the transmitter that becomes free (R40, R41, R59, R78–R83, R99, R106, R142, R175). -/
namespace Sys2Proof.Machine

/-- A port whose packet has been sent to its end (R99). -/
def Port.freed (x : Port) : Port := { x with tx := none, txTimer := none }

theorem exec_transmitterFree {s : State} {p : PortId} {busy : Packet} (h : (s.port p).tx = some busy) :
    exec (.transmitterFree p none) s = .next ((s.setPort p (s.port p).freed).transmit p none).settle := by
  show execTransmitterFree p none s = _
  unfold execTransmitterFree
  rw [h]
  rfl

section
variable {s : State} {p : PortId}

theorem State.trainPacket_setPort {z : Port} (hgrade : z.grade = (s.port p).grade) (hlocked : z.locked = (s.port p).locked) :
    (s.setPort p z).trainPacket p = s.trainPacket p := by
  have htile : (s.setPort p z).tileOfPort p = s.tileOfPort p := rfl
  unfold State.trainPacket
  dsimp only
  rw [State.port_setPort_self, hgrade, hlocked, htile]
  rfl

theorem Port.queue_sendFirst (x : Port) (timeout : Nat) (kept : Reliable) (k : Packet) :
    (x.sendFirst timeout kept k).queue = x.queue.tail := rfl

/-- The transmitter is beside the exchange. -/
theorem State.endExchange_keeps (u : State) (p : PortId) (o : TileOffer) :
    ((u.endExchange p o).port p).tx = (u.port p).tx ∧ ((u.endExchange p o).port p).ctr = (u.port p).ctr := by
  by_cases hmismatch : u.sizeFits p o = false ∨ u.agreed p o = none
  · rw [State.endExchange_of_mismatch hmismatch]
    have hspine := u.spine_enterLost p .mismatch
    exact ⟨(congrArg Port.tx hspine : _), (congrArg Port.ctr hspine : _)⟩
  · obtain ⟨hfits, hagreed⟩ := not_or.mp hmismatch
    obtain ⟨g, hg⟩ := Option.ne_none_iff_exists'.mp hagreed
    rw [State.endExchange_of_usable (Bool.not_eq_false _ ▸ hfits) hg]
    have hspine := (u.setPort p ((u.port p).exchanged o)).port_ends p o g
    rw [State.port_setPort_self] at hspine
    exact ⟨(congrArg Port.tx hspine : _), (congrArg Port.ctr hspine : _)⟩

/-- The OFFER with SEEN that ends the exchange (R79). -/
theorem State.transmit_ends {x : Port} (htx : x.tx = none) (hlink : x.link = .offer) (hceiling : x.offeredCeiling = (s.port p).offeredCeiling)
    (hattempts : x.attempts = (s.port p).attempts) (hqueue : x.queue = (s.port p).queue) {k : Nat} (hdue : x.offersDue = k + 1)
    (hseen : x.tileSeen = true) {o : TileOffer} (ho : x.offer = some o) :
    (((s.setPort p x).transmit p none).port p).tx = some (.offer x.offeredCeiling true p) ∧
    (((s.setPort p x).transmit p none).port p).ctr.sent = satInc x.ctr.sent ∧ ExchangeEnds p o s ((s.setPort p x).transmit p none) := by
  have hport := State.port_setPort_self s p x
  have hsome : x.offer.isSome = true := by rw [ho]; rfl
  rw [State.transmit_offer (by rw [hport]; exact htx) (by rw [hport]; exact hlink) (by rw [hport]; exact hdue), hport, setPort_setPort, hsome]
  generalize hz : Port.begin { x with offersDue := k, seenSent := x.seenSent || true } (.offer x.offeredCeiling true p) = z
  have hzseen : z.tileSeen = true ∧ z.seenSent = true := by
    rw [← hz]
    exact ⟨hseen, Bool.or_true _⟩
  have hzoffer : z.offer = some o := by
    rw [← hz]
    exact ho
  have hzlink : z.link = .offer := by
    rw [← hz]
    exact hlink
  rw [State.checkExchange_eq hzlink hzoffer, if_pos hzseen]
  obtain ⟨hkeptTx, hkeptCtr⟩ := (s.setPort p z).endExchange_keeps p o
  rw [hkeptTx, hkeptCtr, State.port_setPort_self]
  refine ⟨?_, ?_, State.exchangeEnds o o.seen hzlink ?_ ?_ ?_⟩
  · rw [← hz]
    rfl
  · rw [← hz]
    rfl
  · rw [← hz]
    exact hceiling
  · rw [← hz]
    exact hattempts
  · rw [← hz]
    exact hqueue

/-- A SLEEP_NOTICE is begun, and the port goes OFF (R142). -/
theorem State.notice_sent {u t : State} {p : PortId} {x : Port} (ht : t = ((u.setPort p (x.begin .sleepNotice)).exitUp p).goOff p) :
    (t.port p).link = .off ∧ (t.port p).tx = some .sleepNotice ∧ (t.port p).ctr.sent = satInc x.ctr.sent ∧ (t.port p).window = [] ∧
      (t.port p).queue = [] := by
  have hqueue : (t.port p).queue = [] := by
    rw [ht]
    exact State.queue_goOff _ p
  have hspine : (t.port p).spine = (x.begin .sleepNotice).leftUp.switchedOff.spine := by
    rw [ht]
    refine (State.spine_goOff _ p).trans (Port.congr_spine (g := fun x => x.switchedOff.spine) (fun _ => rfl) ?_)
    rw [State.spine_exitUp, State.port_setPort_self]
  generalize t.port p = y at hqueue hspine
  have hfield {α} (f : Port → α) := congrArg f hspine
  exact ⟨hfield Port.link, hfield Port.tx, hfield fun x => x.ctr.sent, hfield Port.window, hqueue⟩

end

/-- Settles O46: each link state, and in UP the first that is ready. -/
theorem transmitterTakesTheFirstReady : Obligations.TransmitterTakesTheFirstReady := by
  intro s p busy hbusy
  have hexec := exec_transmitterFree hbusy
  intro x free
  have hexec : free = .next ((s.setPort p x).transmit p none).settle := hexec
  have hport : (s.setPort p x).port p = x := State.port_setPort_self s p x
  have htx : ((s.setPort p x).port p).tx = none := by rw [hport]
  have hgen {t : State} (h : (s.setPort p x).transmit p none = t) : free = .next t.settle := by rw [hexec, h]
  have hset {z : Port} (h : (s.setPort p x).transmit p none = (s.setPort p x).setPort p z) : free = .next (s.setPort p z).settle :=
    hgen (h.trans (State.setPort_setPort s p x z))
  have hup (hlink : x.link = .up) : (s.setPort p x).transmit p none = (s.setPort p x).transmitUp p none :=
    State.transmit_up htx (by rw [hport]; exact hlink)
  refine ⟨fun hlink hdue => ?_, fun hlink k hdue hopen => ?_, fun hlink k hdue hseen o ho => ⟨_, hexec, ?_⟩, fun hlink => ?_,
    fun hlink => hgen (State.transmit_off htx (by rw [hport]; exact hlink)),
    fun hlink => ⟨fun hdue => ⟨_, hgen ((hup hlink).trans (State.transmitUp_notice hport hdue)), ?_⟩,
      fun hnotice n hdue => hset ((hup hlink).trans (State.transmitUp_sync hport hnotice hdue)),
      fun hnotice hsync hhold n rest o k hrun hfind hintact htally hsent =>
        ⟨_, hgen ((hup hlink).trans (State.transmitUp_run hport hnotice hsync hhold hrun)),
          State.sendResend_sent hport hfind hintact htally hsent⟩,
      fun hnotice hsync hstart k packet rest hqueue hk => hset ((hup hlink).trans
        ((State.transmitUp_head hport hnotice hsync hstart hqueue).trans (State.sendHead_plain hport hqueue hk))),
      fun hnotice hsync hhold => ⟨fun k htest hdue =>
        hset ((hup hlink).trans (State.transmitUp_test hport hnotice hsync (.inl hhold) htest hdue)),
        fun htest => hgen ((hup hlink).trans (State.transmitUp_nothing hport hnotice hsync (.inl hhold) htest))⟩,
      fun hnotice hsync hstart b st rest hqueue hb => ⟨fun hcheck => ⟨_, hgen ((hup hlink).trans
          ((State.transmitUp_head hport hnotice hsync hstart hqueue).trans (State.sendStripe_intact hport hb hcheck))), ?_⟩,
        fun hcheck hrunning => ⟨_, hgen ((hup hlink).trans
          ((State.transmitUp_head hport hnotice hsync hstart hqueue).trans (State.sendStripe_damaged hport hb hcheck))), ?_⟩⟩,
      fun hnotice hsync hstart e f fresh rest i hqueue htile hholds => ⟨_, hgen ((hup hlink).trans
        (State.transmitUp_head hport hnotice hsync hstart hqueue)), State.sendFlip_sent hport htile hholds f fresh⟩,
      fun hnotice hsync hrun hqueue k htest hdue =>
        hset ((hup hlink).trans (State.transmitUp_test hport hnotice hsync (.inr ⟨hrun, hqueue⟩) htest hdue)),
      fun hnotice hsync hrun hqueue htest => hgen ((hup hlink).trans (State.transmitUp_nothing hport hnotice hsync (.inr ⟨hrun, hqueue⟩)
        fun k hk => nomatch htest.symm.trans hk))⟩⟩
  · have hsent := State.transmit_listen htx (by rw [hport]; exact hlink) (by rw [hport]; exact hdue)
    rw [hport] at hsent
    exact hset hsent
  · have hsent := State.transmit_offer htx (by rw [hport]; exact hlink) (by rw [hport]; exact hdue)
    rw [hport, State.checkExchange_of_open (by exact hopen)] at hsent
    exact hset hsent
  · exact State.transmit_ends rfl hlink rfl rfl rfl hdue hseen ho
  · have hsent := State.transmit_train htx (by rw [hport]; exact hlink)
    rw [hport, State.trainPacket_setPort (z := x) rfl rfl] at hsent
    exact hset hsent
  · exact State.notice_sent (u := s.setPort p x) rfl
  · have htile : (s.setPort p x).tile st.id.tile = s.tile st.id.tile := rfl
    rw [State.port_modTile, State.port_setPort_self, (State.besideTile_modTile _ st.id.tile _).1]
    refine ⟨?_, rfl, ?_, fun hempty => ?_, fun hfull => ?_⟩
    · rw [Port.buf_sendFirst, Port.buf_setBuf, if_pos rfl]
    · have hkept : (x.setBuf b (.sent st)).queue = x.queue := by cases b <;> rfl
      rw [Port.queue_sendFirst, hkept, hqueue, List.tail_cons]
    · show ((s.tile st.id.tile).back.afterFirstSend st.id.epoch) = _
      rw [hempty]
      rfl
    · exact BackStore.afterFirstSend_of_ne hfull _
  · refine ⟨State.halted_halt (s := s.setPort p x) hrunning _, ?_, ?_⟩
    · rw [State.causes_halt]
    · have hspine := State.spine_halt (s.setPort p x) .bufferFault p
      rw [hport] at hspine
      exact (congrArg Port.tx hspine : _)

end Sys2Proof.Machine

/-! O55, the arbiter, and what follows a command in its own step (R37, R38, R52, R99, R181). -/
namespace Sys2Proof.Machine

/-! ## Eligibility (R37) -/

theorem Port.grantBuf_eq_some_iff (x : Port) (b : BufId) :
    x.grantBuf = some b ↔ x.buf b = .free ∧ (b = x.olderFree ∨ x.buf x.olderFree ≠ .free) := by
  have hother (h : b ≠ x.olderFree) : b = x.olderFree.other := by
    revert h
    cases b <;> cases x.olderFree <;> decide
  have hne : x.olderFree.other ≠ x.olderFree := by cases x.olderFree <;> decide
  unfold Port.grantBuf
  by_cases holder : x.buf x.olderFree = .free
  · rw [if_pos holder]
    refine ⟨fun h => ?_, fun ⟨_, h⟩ => ?_⟩
    · cases h
      exact ⟨holder, .inl rfl⟩
    · rw [h.resolve_right (· holder)]
  · rw [if_neg holder]
    refine ⟨fun h => ?_, fun ⟨hfree, _⟩ => ?_⟩
    · obtain ⟨hfree, h⟩ := Option.ite_none_right_eq_some.mp h
      cases h
      exact ⟨hfree, .inr holder⟩
    · have hb := hother fun h => holder (h ▸ hfree)
      rw [if_pos (hb ▸ hfree), hb]

theorem Port.grantBuf_eq_none {x : Port} (h : ∀ b, x.buf b ≠ .free) : x.grantBuf = none := by
  unfold Port.grantBuf
  rw [if_neg (h _), if_neg (h _)]

theorem Stage.delivering_iff (g : Stage) : g.delivering? = true ↔ g = .layersRead ∨ g = .delivering := by
  cases g <;> simp [Stage.delivering?]

theorem BackStore.open_iff (b : BackStore) (e : Epoch) : b.open? e = true ↔ b = .empty ∨ ∃ n, b = .loading e n := by
  cases b <;> simp [BackStore.open?]

theorem Reliable.isDiscard_iff (k : Reliable) : k.isDiscard = true ↔ ∃ e, k = .discard e := by
  cases k <;> simp [Reliable.isDiscard]

theorem Port.anyDiscard_eq_false_iff (x : Port) :
    x.anyDiscard = false ↔ ∀ e, .discard e ∉ x.queue ∧ ∀ o ∈ x.window, o.packet ≠ .discard e := by
  unfold Port.anyDiscard
  rw [Bool.or_eq_false_iff, List.any_eq_false, List.any_eq_false]
  simp only [Reliable.isDiscard_iff]
  exact ⟨fun ⟨hqueue, hwindow⟩ e => ⟨fun h => hqueue _ h ⟨e, rfl⟩, fun o ho h => hwindow o ho ⟨e, h⟩⟩,
    fun h => ⟨fun k hk ⟨e, he⟩ => (h e).1 (he ▸ hk), fun o ho ⟨e, he⟩ => (h e).2 o ho he⟩⟩

theorem State.eligible_iff (s : State) (r : SceneRec) (i : TileId) (p : PortId) (b : BufId) : s.eligible r i = some (p, b) ↔
    (s.tile i).geom.port = some p ∧ (s.port p).grantBuf = some b ∧ r.stage.delivering? = true ∧ Mask.has r.participants i = true ∧
      Mask.has r.dropped i = false ∧ (s.port p).link = .up ∧ (s.port p).test = none ∧ (s.tile i).back.open? r.epoch = true ∧
      (s.port p).anyDiscard = false ∧ r.cursor i < s.stripesOf i := by
  unfold State.eligible
  cases hport : (s.tile i).geom.port with
  | none => simp
  | some q =>
    dsimp only
    by_cases hq : q = p
    · subst hq
      cases (s.port q).grantBuf with
      | none => simp
      | some c =>
        simp only [Option.ite_none_right_eq_some, Bool.and_eq_true, Bool.not_eq_true', beq_iff_eq, Option.isNone_iff_eq_none,
          decide_eq_true_eq, Option.some.injEq, Prod.mk.injEq, true_and, and_assoc]
        tauto
    · refine ⟨fun h => absurd h ?_, fun ⟨h, _⟩ => absurd (Option.some.inj h) hq⟩
      cases (s.port q).grantBuf with
      | none => exact nofun
      | some c => exact fun h => hq (Prod.mk.inj (Option.some.inj (Option.ite_none_right_eq_some.mp h).2)).1

theorem State.mayCompose_iff (s : State) :
    s.mayCompose = true ↔ s.halted = none ∧ s.power.state = .run ∧ s.power.phase ≠ .enteringSleep := by
  unfold State.mayCompose State.pictureWorkStopped
  cases s.halted <;> simp

/-! ## The service order (R38) -/

theorem findSome_range {α : Type} {f : Nat → Option α} {n d : Nat} {a : α} (hd : d < n) (ha : f d = some a) (hbefore : ∀ k < d, f k = none) :
    (List.range n).findSome? f = some a := by
  obtain ⟨m, rfl⟩ := Nat.exists_eq_add_of_lt hd
  rw [Nat.add_assoc, List.range_add, List.range_succ_eq_map, List.map_cons]
  exact List.findSome?_eq_some_iff.mpr ⟨_, _, _, rfl, ha, fun k hk => hbefore k (List.mem_range.mp hk)⟩

section
variable {s : State} {r : SceneRec}

theorem State.nextGrant_eq_some {d : Nat} {i : TileId} {p : PortId} {b : BufId} (hd : d < s.composer.order.length)
    (hplace : s.composer.order[(s.composer.pointer + d) % s.composer.order.length]? = some i) (hi : s.eligible r i = some (p, b))
    (hbefore : ∀ k < d, ∀ m, s.composer.order[(s.composer.pointer + k) % s.composer.order.length]? = some m → s.eligible r m = none) :
    s.nextGrant r = some ((s.composer.pointer + d) % s.composer.order.length, i, p, b) := by
  unfold State.nextGrant orderFrom
  rw [List.findSome?_map]
  refine findSome_range hd ?_ fun k hk => ?_
  · rw [Function.comp_apply, hplace]
    dsimp only
    rw [hi]
    rfl
  · rw [Function.comp_apply]
    split
    · rfl
    · next m hm => rw [hbefore k hk m hm, Option.map_none]

theorem State.nextGrant_eq_none (h : ∀ i : TileId, s.eligible r i = none) : s.nextGrant r = none := by
  refine List.findSome?_eq_none_iff.mpr fun k _ => ?_
  split
  · rfl
  · next m _ => rw [h m, Option.map_none]

/-! ## The grant -/

theorem State.startDelivering_keeps (v : State) (r : SceneRec) :
    (v.startDelivering r).ports = v.ports ∧ (v.startDelivering r).tiles = v.tiles ∧ (v.startDelivering r).composer = v.composer := by
  unfold State.startDelivering
  split
  · rw [State.modScene_eq]
    unfold State.writeProgress
    split <;> exact ⟨rfl, rfl, rfl⟩
  · exact ⟨rfl, rfl, rfl⟩

theorem State.startDelivering_stage {v : State} {u : SceneRec} (hv : v.frameRun = .scene u) (hstage : u.stage = r.stage)
    (h : r.stage.delivering? = true) : (v.startDelivering r).frameRun = .scene { u with stage := .delivering } := by
  unfold State.startDelivering
  rcases (Stage.delivering_iff _).mp h with h | h
  · rw [if_pos h, State.frameRun_writeProgress, State.frameRun_modScene_of_scene hv]
  · rw [if_neg (by rw [h]; decide), hv, ← hstage.trans h]

/-- The record with the granted tile's cursor moved on (R38). -/
def SceneRec.granted (r : SceneRec) (i : TileId) : SceneRec := { r with cursors := r.cursors.set i.val (r.cursors[i.val] + 1) }

/-- A grant before the stage moves (R38). -/
def State.grantedTo (s : State) (r : SceneRec) (place : Nat) (i : TileId) (p : PortId) (b : BufId) : State :=
  { s.setPort p ((s.port p).setBuf b (.composing (s.stripeId i r.epoch (r.cursor i)))) with
    frameRun := .scene (r.granted i)
    composer := { s.composer with engine := .scene i p b, pointer := (place + 1) % s.composer.order.length } }

theorem State.grant_eq (hr : s.frameRun = .scene r) (place : Nat) (i : TileId) (p : PortId) (b : BufId) :
    s.grant r place i p b = (s.grantedTo r place i p b).startDelivering r := by
  unfold State.grant State.setCursor
  dsimp only
  rw [State.modScene_eq, show (s.modPort p fun x => x.setBuf b (.composing (s.stripeId i r.epoch (r.cursor i)))).frameRun = .scene r from hr]
  rfl

section
variable (hengine : s.composer.engine = .free) (hmay : s.mayCompose = true)
include hengine hmay

theorem State.arbitrate_scene (hr : s.frameRun = .scene r) {place : Nat} {i : TileId} {p : PortId} {b : BufId}
    (hnext : s.nextGrant r = some (place, i, p, b)) : s.arbitrate = s.grant r place i p b := by
  unfold State.arbitrate
  rw [if_pos ⟨hengine, hmay⟩, hr]
  dsimp only
  rw [hnext]

theorem State.arbitrate_verify {r : VerifyRec} (hr : s.frameRun = .verify r) : s.arbitrate = s.grantVerify r := by
  unfold State.arbitrate
  rw [if_pos ⟨hengine, hmay⟩, hr]

end

theorem State.arbitrate_of_busy (h : s.composer.engine ≠ .free ∨ s.mayCompose = false) : s.arbitrate = s := by
  unfold State.arbitrate
  refine if_neg fun ⟨hengine, hmay⟩ => ?_
  exact h.elim (· hengine) fun hno => Bool.noConfusion (hmay.symm.trans hno)

theorem State.arbitrate_of_none (hr : s.frameRun = .scene r) (h : ∀ i : TileId, s.eligible r i = none) : s.arbitrate = s := by
  unfold State.arbitrate
  rw [hr]
  dsimp only
  rw [State.nextGrant_eq_none h]
  exact ite_self s

end

/-! ## What follows a command (log 7) -/

section
variable {s : State}

theorem State.transmit_of_busy {p : PortId} (h : (s.port p).tx.isSome = true) : s.transmit p none = s := by
  obtain ⟨k, hk⟩ := Option.isSome_iff_exists.mp h
  unfold State.transmit
  dsimp only
  rw [hk]

theorem State.pump_of_busy (h : ∀ p : PortId, (s.port p).tx.isSome = true) : s.pump = s := by
  refine State.forEach_invariant (P := fun u => u = s) (fun p u => u.transmit p none) (fun p u hu => ?_) allIds s rfl
  subst hu
  exact State.transmit_of_busy (h p)

/-- The rounds of the other ports, whose transmitters are busy, change nothing. -/
theorem State.forEach_transmit_of_one {p : PortId} {t : State} (ht : s.transmit p none = t)
    (hbefore : ∀ q : PortId, q ≠ p → (s.port q).tx.isSome = true) (hafter : ∀ q : PortId, q ≠ p → (t.port q).tx.isSome = true) :
    ∀ ids : List PortId, ids.Nodup → s.forEach ids (fun p s => s.transmit p none) = if p ∈ ids then t else s := by
  have hrest (ids : List PortId) (hp : p ∉ ids) (u : State) (hu : ∀ q : PortId, q ≠ p → (u.port q).tx.isSome = true) :
      u.forEach ids (fun p s => s.transmit p none) = u := by
    induction ids with
    | nil => rfl
    | cons q ids ih =>
      obtain ⟨hq, hids⟩ := not_or.mp (List.mem_cons.not.mp hp)
      show (u.transmit q none).forEach ids _ = u
      rw [State.transmit_of_busy (hu q (Ne.symm hq)), ih hids]
  intro ids hnodup
  induction ids with
  | nil => rfl
  | cons q ids ih =>
    obtain ⟨hq, hids⟩ := List.nodup_cons.mp hnodup
    by_cases hqp : q = p
    · subst hqp
      rw [if_pos List.mem_cons_self]
      show (s.transmit q none).forEach ids _ = t
      rw [ht]
      exact hrest ids hq t hafter
    · show (s.transmit q none).forEach ids _ = _
      rw [State.transmit_of_busy (hbefore q hqp), ih hids]
      simp only [List.mem_cons, Ne.symm hqp, false_or]

section
variable (hphase : s.power.phase ≠ .enteringSleep)
include hphase

theorem State.settle_of_pumped {t : State} (hpump : s.pump.pump = t) (hpower : t.power = s.power) : s.settle = t.arbitrate := by
  have hsleepPorts : s.sleepPorts = s := if_neg hphase
  have hphaseT : t.power.phase ≠ .enteringSleep := by rw [hpower]; exact hphase
  have hphaseA : t.arbitrate.power.phase ≠ .enteringSleep := by
    have h := congrArg State.power t.quiet_arbitrate
    have h : t.arbitrate.power = t.power := h
    rw [h]
    exact hphaseT
  have hlast : t.arbitrate.settleSleep = t.arbitrate := if_neg fun h => hphaseA h.1
  unfold State.settle
  rw [hsleepPorts, hpump, show t.sleepPorts = t from if_neg hphaseT, hlast]

theorem State.settle_of_busy (h : ∀ p : PortId, (s.port p).tx.isSome = true) : s.settle = s.arbitrate :=
  State.settle_of_pumped hphase (by rw [State.pump_of_busy h, State.pump_of_busy h]) rfl

section
variable {p : PortId} (hothers : ∀ q : PortId, q ≠ p → (s.port q).tx.isSome = true)
include hothers

theorem State.settle_of_none (h : s.transmit p none = s) : s.settle = s.arbitrate := by
  have hpump : s.pump = s := (State.forEach_transmit_of_one h hothers hothers allIds nodup_allIds).trans (if_pos (mem_allIds p))
  exact State.settle_of_pumped hphase (by rw [hpump, hpump]) rfl

theorem State.settle_of_begins {t : State} (h : s.transmit p none = t) (hp : (t.port p).tx.isSome = true) : s.settle = t.arbitrate := by
  have hwithout : t.quiet.without p = s.quiet.without p := h ▸ s.without_transmit p none
  have hafter (q : PortId) (hq : q ≠ p) : (t.port q).tx.isSome = true := by
    have hspine := State.spine_of_without hwithout hq
    have htx : (t.port q).tx = (s.port q).tx := (congrArg Port.tx hspine : _)
    rw [htx]
    exact hothers q hq
  have hpump : s.pump = t := (State.forEach_transmit_of_one h hothers hafter allIds nodup_allIds).trans (if_pos (mem_allIds p))
  have hagain : t.pump = t := State.pump_of_busy fun q => if hq : q = p then hq ▸ hp else hafter q hq
  refine State.settle_of_pumped hphase (by rw [hpump, hagain]) ?_
  have hpower := congrArg State.power hwithout
  exact hpower

end
end

theorem State.setPort_port (s : State) (p : PortId) : s.setPort p (s.port p) = s := s.modPort_id p

end

/-- Settles O55: the grant of a scene and of a VERIFY, and the one idle transmitter before it. -/
theorem grantsGoRoundTheServiceOrder : Obligations.GrantsGoRoundTheServiceOrder := by
  refine ⟨fun s r d i p b => ?_, fun s r i p b => ?_, State.mayCompose_iff, fun s => State.arbitrate_of_busy,
    fun s r hengine hmay hr => ⟨fun hreports => ?_, fun rep rest p hreports hport => ⟨fun hfull => ?_, fun b hfree holder => ?_⟩⟩,
    fun s r hr h => State.arbitrate_of_none hr h,
    fun s hbusy hphase => ⟨State.settle_of_busy hphase hbusy, fun hengine =>
      (State.settle_of_busy hphase hbusy).trans (State.arbitrate_of_busy (.inl hengine))⟩,
    fun s p hphase htx hothers => ?_⟩
  · intro place hengine hmay hr hd hplace hi hbefore
    rw [State.arbitrate_scene hengine hmay hr (State.nextGrant_eq_some hd hplace hi hbefore), State.grant_eq hr]
    have hdelivering := ((s.eligible_iff r i p b).mp hi).2.2.1
    generalize hv : s.grantedTo r ((s.composer.pointer + d) % s.composer.order.length) i p b = v
    obtain ⟨hports, htiles, hcomposer⟩ := v.startDelivering_keeps r
    have hkept (q : PortId) := State.port_of_ports hports q
    refine ⟨_, State.startDelivering_stage (u := r.granted i) (by rw [← hv]; rfl) rfl hdelivering, rfl, rfl, ?_, ?_, fun q hq => ?_, ?_⟩
    · rw [hcomposer, ← hv]
      rfl
    · rw [hkept, ← hv]
      exact State.port_setPort_self s p _
    · rw [hkept, ← hv]
      exact State.port_setPort_ne s (Ne.symm hq) _
    · rw [htiles, ← hv]
      rfl
  · rw [State.eligible_iff, Port.grantBuf_eq_some_iff, Stage.delivering_iff, BackStore.open_iff, Port.anyDiscard_eq_false_iff]
    unfold SceneRec.cursor
    tauto
  · rw [State.arbitrate_verify hengine hmay hr]
    unfold State.grantVerify
    rw [hreports]
  · rw [State.arbitrate_verify hengine hmay hr]
    unfold State.grantVerify
    rw [hreports]
    dsimp only
    rw [hport]
    dsimp only
    rw [Port.grantBuf_eq_none hfull]
  · rw [State.arbitrate_verify hengine hmay hr]
    unfold State.grantVerify
    rw [hreports]
    dsimp only
    rw [hport]
    dsimp only
    rw [(Port.grantBuf_eq_some_iff _ b).mpr ⟨hfree, holder⟩]
    rfl
  · intro x begins
    have hx : s.port p = x := rfl
    have hbegins {y : Port} {k : Packet} (h : s.transmit p none = s.setPort p (y.begin k)) : begins y k :=
      State.settle_of_begins hphase hothers h (by rw [State.port_setPort_self]; rfl)
    have hup (hlink : x.link = .up) : s.transmit p none = s.transmitUp p none := State.transmit_up htx hlink
    refine ⟨fun hlink hdue => hbegins (State.transmit_listen htx hlink hdue), fun hlink k hdue hseen o ho => ?_,
      fun hlink k hdue hopen => ?_, fun hlink => hbegins (State.transmit_train htx hlink),
      fun hlink hnotice => ⟨fun n hdue => hbegins ((hup hlink).trans (State.transmitUp_sync hx hnotice hdue)),
        fun hsync hstart k packet rest hqueue hk => hbegins ((hup hlink).trans
          ((State.transmitUp_head hx hnotice hsync hstart hqueue).trans (State.sendHead_plain hx hqueue hk))),
        fun hsync hstart b st rest hqueue hb hcheck => ?_,
        fun hsync hrun hqueue k htest hdue =>
          hbegins ((hup hlink).trans (State.transmitUp_test hx hnotice hsync (.inr ⟨hrun, hqueue⟩) htest hdue)),
        fun hsync hrun hqueue htest => State.settle_of_none hphase hothers ((hup hlink).trans
          (State.transmitUp_nothing hx hnotice hsync (.inr ⟨hrun, hqueue⟩) fun k hk => nomatch htest.symm.trans hk))⟩,
      fun hlink => State.settle_of_none hphase hothers (State.transmit_off htx hlink)⟩
    · have hends := State.transmit_ends (s := s) (p := p) (x := x) htx hlink rfl rfl rfl hdue hseen ho
      rw [State.setPort_port] at hends
      obtain ⟨hsent, hcount, hexchange⟩ := hends
      exact ⟨_, State.settle_of_begins hphase hothers rfl (by rw [hsent]; rfl), hsent, hcount, hexchange⟩
    · refine hbegins ?_
      rw [State.transmit_offer htx hlink hdue]
      exact State.checkExchange_of_open hopen
    · have hsent := (hup hlink).trans ((State.transmitUp_head hx hnotice hsync hstart hqueue).trans (State.sendStripe_intact hx hb hcheck))
      generalize ht : ((s.setPort p ((x.setBuf b (.sent st)).sendFirst s.policy.ack (.stripe b) (.stripe x.nextSeq st.id st.pixels))).modTile
        st.id.tile fun r => { r with back := r.back.afterFirstSend st.id.epoch }) = t at hsent
      have htxT : (t.port p).tx = some (.stripe x.nextSeq st.id st.pixels) := by
        rw [← ht, State.port_modTile, State.port_setPort_self]
        rfl
      rw [State.settle_of_begins hphase hothers hsent (by rw [htxT]; rfl)]
      have hspine := State.spine_of_quiet t.quiet_arbitrate p
      have hkept : (t.arbitrate.port p).tx = (t.port p).tx := (congrArg Port.tx hspine : _)
      rw [hkept, htxT]

end Sys2Proof.Machine

/-! What picture work can do at one port: FREE buffers stay FREE, and only DISCARDs of the scene's epoch join its queue
(R48, R49, R58). -/
namespace Sys2Proof.Machine

/-! ## Properties of a port that picture work keeps -/

/-- A property of a port that the end of a delivery keeps, its epoch being `e` (R48, R49). -/
structure Port.Tended (P : Port → Prop) (e : Epoch) : Prop where
  discard : ∀ x, P x → P (x.enqueue (.discard e))
  drop : ∀ x f, P x → P (x.dropQueued f)
  free : ∀ x b, P x → P (x.freeBuf b)

section
variable {P : Port → Prop} {e : Epoch} (hP : Port.Tended P e)
include hP

theorem Port.Tended.freeUnsent {x : Port} (h : P x) : P x.freeUnsent := by
  have hfreed (b : BufId) (y : Port) (hy : P y) : P (match y.buf b with
      | .composing _ | .ready _ => y.freeBuf b
      | .free | .sent _ => y) := by
    split
    · exact hP.free y b hy
    · exact hP.free y b hy
    · exact hy
    · exact hy
  exact hP.drop _ _ (hfreed .second _ (hfreed .first x h))

theorem Port.Tended.flush {x : Port} (h : P x) : P x.flush := hP.drop _ _ (hP.free _ _ (hP.free _ _ h))

end

theorem State.holds_modPort {P : Port → Prop} {s : State} {p q : PortId} {f : Port → Port} (h : P (s.port p)) (hf : ∀ x, P x → P (f x)) :
    P ((s.modPort q f).port p) := by
  rw [State.port_modPort]
  split
  · next hq => exact hf _ (hq ▸ h)
  · exact h

section
variable {P : Port → Prop} {p : PortId}

theorem State.holds_foldl {β : Type} {f : State → β → State} (hf : ∀ u b, P (State.port u p) → P (State.port (f u b) p)) (bs : List β)
    {s : State} (h : P (s.port p)) : P ((bs.foldl f s).port p) := by
  induction bs generalizing s with
  | nil => exact h
  | cons b bs ih => exact ih (hf s b h)

variable {s : State} (h : P (s.port p))
include h

theorem State.holds_of_ports {t : State} (ht : t.ports = s.ports) : P (t.port p) := by
  rw [State.port_of_ports ht p]
  exact h

section
variable {e : Epoch} (hP : Port.Tended P e)
include hP

theorem Port.Tended.freeTile (i : TileId) : P ((s.freeTile i).port p) := by
  unfold State.freeTile
  split
  · exact h
  · rw [State.port_releaseEngine]
    exact State.holds_modPort h fun _ => hP.freeUnsent

theorem Port.Tended.flushPort (q : PortId) : P ((s.flushPort q).port p) := by
  have hflushed : P (((s.modPort q Port.flush).releaseEngine q).port p) := by
    rw [State.port_releaseEngine]
    exact State.holds_modPort h fun _ => hP.flush
  unfold State.flushPort
  dsimp only
  split
  · split
    · exact State.holds_of_ports hflushed (State.ports_modScene _ _)
    · exact hflushed
  · exact hflushed

theorem Port.Tended.queueDiscard (i : TileId) : P ((s.queueDiscard i e).port p) := by
  unfold State.queueDiscard
  split
  · exact h
  · refine State.holds_modPort h fun x hx => ?_
    split
    · exact hx
    · exact hP.discard x hx

theorem Port.Tended.stopDelivery (i : TileId) : P ((s.stopDelivery e i).port p) := by
  unfold State.stopDelivery
  dsimp only
  split
  · exact hP.queueDiscard (hP.freeTile h i) i
  · exact hP.freeTile h i

theorem Port.Tended.endAtTile (i : TileId) : P ((s.endAtTile e i).port p) := by
  have hfreed := hP.freeTile h i
  have hqueued {u : State} (hu : P (u.port p)) : P ((if (u.tile i).back.holds e then u.queueDiscard i e else u).port p) := by
    split
    · exact hP.queueDiscard hu i
    · exact hu
  unfold State.endAtTile
  refine hqueued ?_
  split
  · exact hfreed
  · split
    · exact hfreed
    · exact State.holds_modPort hfreed fun x => hP.drop x _

end

section
variable (hP : ∀ r, s.scene = some r → Port.Tended P r.epoch)
include hP

theorem State.holds_endSceneEarly (o : JobOutcome) : P ((s.endSceneEarly o).port p) := by
  unfold State.endSceneEarly
  split
  · exact h
  · next r hr =>
    rw [State.endSceneWith_eq]
    exact State.holds_of_ports (State.holds_foldl (fun u i hu => (hP r hr).endAtTile hu i) _ h) (State.ports_completeScene _ _)

theorem State.holds_armingRule (harm : ∀ r, s.scene = some r → P ((s.armScene r).port p)) : P (s.armingRule.port p) := by
  cases hr : s.scene with
  | none =>
    unfold State.armingRule
    rw [hr]
    exact h
  | some r =>
    cases hd : r.stage.delivering? with
    | false =>
      unfold State.armingRule
      rw [hr]
      dsimp only
      rw [if_pos (by rw [hd]; rfl)]
      exact h
    | true =>
      rw [State.armingRule_eq hr hd]
      split
      · exact State.holds_endSceneEarly h hP _
      · split
        · exact harm r hr
        · split
          · exact State.holds_endSceneEarly h hP _
          · exact h

end

theorem State.holds_settleScene : P (s.settleScene.port p) := by
  unfold State.settleScene
  split
  · exact h
  · split
    · exact h
    · split
      · exact State.holds_of_ports h (State.ports_completeScene _ _)
      · split
        · exact State.holds_of_ports h ((State.ports_writeProgress _ _).trans (State.ports_modScene _ _))
        · exact h

end

/-! ## Buffers -/

theorem Port.buf_freeBuf (x : Port) (b c : BufId) : (x.freeBuf b).buf c = if b = c then .free else x.buf c := by
  unfold Port.freeBuf
  split
  · next h =>
    split
    · next hc => rw [← hc, h]
    · rfl
  all_goals cases b <;> cases c <;> rfl

theorem Port.tended_free (b : BufId) (e : Epoch) : Port.Tended (fun x => x.buf b = .free) e where
  discard x h := by
    unfold Port.enqueue
    split
    · exact h
    · cases b <;> exact h
  drop x f h := by cases b <;> exact h
  free x c h := by
    rw [Port.buf_freeBuf]
    split
    · rfl
    · exact h

theorem Port.buf_enqueue (x : Port) (k : Reliable) (b : BufId) : (x.enqueue k).buf b = x.buf b := by
  unfold Port.enqueue
  split <;> cases b <;> rfl

theorem State.buf_armScene {s : State} {p : PortId} {b : BufId} (h : (s.port p).buf b = .free) (r : SceneRec) :
    ((s.armScene r).port p).buf b = .free := by
  rw [State.armScene_eq]
  have hscene : ((s.modScene fun x => x.arm (s.armedMask r) (s.ref.frameNumber + 2)).port p).buf b = .free := by
    rw [State.port_of_ports (State.ports_modScene s _)]
    exact h
  refine State.holds_of_ports (P := fun x => x.buf b = .free) ?_ (State.ports_writeProgress _ _)
  refine State.holds_foldl (P := fun x => x.buf b = .free) (f := fun u i => u.handPacket i _) (fun u i hu => ?_) _ hscene
  unfold State.handPacket
  split
  · exact hu
  · exact State.holds_modPort (P := fun x => x.buf b = .free) hu fun x hx => (x.buf_enqueue _ b).trans hx

/-- A FREE buffer stays FREE where the arming rule is applied. -/
theorem State.buf_armingRule {s : State} {p : PortId} {b : BufId} (h : (s.port p).buf b = .free) : (s.armingRule.port p).buf b = .free :=
  State.holds_armingRule (P := fun x => x.buf b = .free) h (fun r _ => Port.tended_free b r.epoch) fun r _ => State.buf_armScene h r

/-! ## The queue of a port that is given up -/

/-- Nothing but DISCARDs of the epoch of the scene waits, if there is one. -/
def Port.Emptied (o : Option Epoch) (x : Port) : Prop := ∀ k ∈ x.queue, ∃ e, o = some e ∧ k = .discard e

theorem Port.tended_emptied (e : Epoch) : Port.Tended (Port.Emptied (some e)) e where
  discard x h := by
    unfold Port.enqueue
    split
    · exact h
    · exact fun k hk => (List.mem_append.mp hk).elim (h k) fun hk => ⟨e, rfl, List.mem_singleton.mp hk⟩
  drop x f h := fun k hk => h k (List.mem_of_mem_filter hk)
  free x b h := fun k hk => h k (by rwa [x.queue_freeBuf b] at hk)

end Sys2Proof.Machine

/-! O47, acknowledgements (R42, R50, R58, R103–R106, R110, R122, R123). -/
namespace Sys2Proof.Machine

/-! ## The window -/

section
variable (s : State) (p : PortId)

/-- The window after `k` acknowledgements; the picture work they bring leaves the rest of the port as it was (R103). -/
theorem State.spine_ackOldest (k : Nat) : ∃ run,
    ((s.ackOldest p k).port p).spine = { s.port p with window := (s.port p).window.drop k, run := run }.spine := by
  induction k generalizing s with
  | zero => exact ⟨(s.port p).run, rfl⟩
  | succ k ih =>
    unfold State.ackOldest
    cases hw : (s.port p).window with
    | nil =>
      have hsame : { s.port p with window := [], run := (s.port p).run } = s.port p := by rw [← hw]
      refine ⟨(s.port p).run, ?_⟩
      rw [List.drop_nil]
      exact congrArg Port.spine hsame.symm
    | cons o rest =>
      obtain ⟨run, hspine⟩ := ih ((s.modPort p fun x => x.popWindow o).ackOwner p o.packet)
      refine ⟨run, hspine.trans ?_⟩
      have howner := State.spine_of_quiet (State.quiet_ackOwner (s.modPort p fun x => x.popWindow o) p o.packet) p
      have hpopped : (s.modPort p fun x => x.popWindow o).port p = (s.port p).popWindow o := by
        rw [State.modPort_eq, State.port_setPort_self]
      rw [hpopped] at howner
      refine (Port.congr_spine (g := fun y => { y with window := y.window.drop k, run := run }.spine) (fun _ => rfl) howner).trans ?_
      unfold Port.popWindow
      dsimp only
      rw [hw]
      rfl

theorem State.spine_acknowledge {k : Nat} (hk : k ≠ 0) : ∃ run recorded, ((s.acknowledge p k).port p).spine = { s.port p with
    window := (s.port p).window.drop k, run := run, recorded := recorded, answered := none
    ackTimer := if (s.port p).window.drop k = [] then none else some s.policy.ack }.spine := by
  obtain ⟨run, hspine⟩ := s.spine_ackOldest p k
  refine ⟨run, (s.port p).recorded && !((s.port p).window.drop k).isEmpty, ?_⟩
  unfold State.acknowledge
  rw [if_neg hk, State.modPort_eq, State.port_setPort_self]
  exact Port.congr_spine (g := fun y => (y.afterAcks s.policy.ack).spine) (fun _ => rfl) hspine

/-- What no acknowledgement changes at the port it comes to. -/
theorem State.acknowledge_keeps (k : Nat) : ((s.acknowledge p k).port p).window = (s.port p).window.drop k ∧
    ((s.acknowledge p k).port p).ctr = (s.port p).ctr ∧ ((s.acknowledge p k).port p).holdTimer = (s.port p).holdTimer ∧
    (s.acknowledge p k).policy = s.policy := by
  by_cases hk : k = 0
  · subst hk
    exact ⟨rfl, rfl, rfl, rfl⟩
  · obtain ⟨run, recorded, hspine⟩ := s.spine_acknowledge p hk
    have hfield {α} (f : Port → α) := congrArg f hspine
    have hpolicy := congrArg State.policy (s.without_acknowledge p k)
    exact ⟨hfield Port.window, hfield Port.ctr, hfield Port.holdTimer, hpolicy⟩

end

/-! ## The oldest packet is acknowledged -/

section
variable {v : State} {p : PortId} {x : Port} (hx : v.port p = x) {o : Outstanding} {rest : List Outstanding} (hw : x.window = o :: rest)
include hx hw

theorem State.takeAck_head : v.takeAck p o.number =
    ((v.setPort p (x.popWindow o)).ackOwner p o.packet).modPort p fun x => x.afterAcks v.policy.ack := by
  have hfirst : x.outstanding o.number = some 0 := by
    unfold Port.outstanding
    rw [hw, List.findIdx?_cons, if_pos (beq_self_eq_true _)]
  have hold : v.ackOldest p 1 = (v.setPort p (x.popWindow o)).ackOwner p o.packet := by
    unfold State.ackOldest
    rw [hx, hw]
    dsimp only
    rw [State.modPort_eq, hx]
    rfl
  unfold State.takeAck
  rw [hx, hfirst]
  exact congrArg (fun u => State.modPort u p fun x => x.afterAcks v.policy.ack) hold

end

/-! ## An acknowledged STRIPE (R42) -/

/-- A record is ARMED by the acknowledgement of its last STRIPE (R42). -/
theorem BackStore.afterAck_last {b : BackStore} {e : Epoch} {n stripes : Nat} (h : b = .loading e n) (hlast : n + 1 = stripes) :
    b.afterAck e n stripes = .armed e := by
  subst h hlast
  unfold BackStore.afterAck
  dsimp only
  rw [if_pos ⟨rfl, rfl⟩, if_neg (Nat.lt_irrefl _), if_pos rfl]

/-- A STRIPE's record and buffer after its acknowledgement, before the arming rule is applied (R42). -/
def State.stripeTaken (u : State) (p : PortId) (b : BufId) (st : Stripe) : State :=
  (u.modPort p fun x => x.freeBuf b).modTile st.id.tile fun y =>
    { y with back := (u.tile st.id.tile).back.afterAck st.id.epoch st.id.number (u.stripesOf st.id.tile) }

section
variable {u : State} {p : PortId} {b : BufId} {st : Stripe} (hb : (u.port p).buf b = .sent st)

theorem State.tile_stripeTaken : (u.stripeTaken p b st).tile st.id.tile = { u.tile st.id.tile with
    back := (u.tile st.id.tile).back.afterAck st.id.epoch st.id.number (u.stripesOf st.id.tile) } :=
  (State.besideTile_modTile _ st.id.tile _).1

theorem State.tile_stripeTaken_of_ne {k : TileId} (h : k ≠ st.id.tile) : (u.stripeTaken p b st).tile k = u.tile k :=
  (State.besideTile_modTile _ st.id.tile _).2 k h

theorem State.buf_stripeTaken : ((u.stripeTaken p b st).port p).buf b = .free := by
  unfold State.stripeTaken
  rw [State.port_modTile, State.modPort_eq, State.port_setPort_self, Port.buf_freeBuf, if_pos rfl]

/-- The other ports, and the queue and link of this one, are as they were. -/
theorem State.port_stripeTaken (q : PortId) :
    ((u.stripeTaken p b st).port q).queue = (u.port q).queue ∧ ((u.stripeTaken p b st).port q).link = (u.port q).link := by
  unfold State.stripeTaken
  rw [State.port_modTile]
  refine State.holds_modPort (P := fun y => y.queue = (u.port q).queue ∧ y.link = (u.port q).link) ⟨rfl, rfl⟩ fun y ⟨hqueue, hlink⟩ => ?_
  have hspine := y.spine_freeBuf b
  exact ⟨(y.queue_freeBuf b).trans hqueue, (congrArg Port.link hspine).trans hlink⟩

include hb

theorem State.ackStripe_eq : u.ackStripe p b = (u.stripeTaken p b st).armingRule ∨ u.ackStripe p b = u.stripeTaken p b st := by
  unfold State.ackStripe
  rw [hb]
  dsimp only
  split
  · exact .inl rfl
  · exact .inr rfl

theorem State.ackStripe_of_last (hback : (u.tile st.id.tile).back = .loading st.id.epoch st.id.number)
    (hlast : st.id.number + 1 = u.stripesOf st.id.tile) : u.ackStripe p b = (u.stripeTaken p b st).armingRule := by
  have harmed : ((BackStore.armed st.id.epoch).isArmed st.id.epoch && !(BackStore.loading st.id.epoch st.id.number).isArmed st.id.epoch) =
      true := by simp [BackStore.isArmed]
  unfold State.ackStripe
  rw [hb]
  dsimp only
  rw [BackStore.afterAck_last hback hlast, hback, if_pos harmed]
  unfold State.stripeTaken
  rw [BackStore.afterAck_last hback hlast]

theorem State.ackStripe_freed : ((u.ackStripe p b).port p).buf b = .free ∧ ((u.ackStripe p b).tile st.id.tile).back =
    (u.tile st.id.tile).back.afterAck st.id.epoch st.id.number (u.stripesOf st.id.tile) := by
  have hback : ((u.stripeTaken p b st).tile st.id.tile).back =
      (u.tile st.id.tile).back.afterAck st.id.epoch st.id.number (u.stripesOf st.id.tile) := by rw [State.tile_stripeTaken]
  rcases State.ackStripe_eq hb with h | h
  · rw [h]
    exact ⟨State.buf_armingRule State.buf_stripeTaken, (congrArg Tile.back (State.tile_of_tiles (State.tiles_armingRule _) _)).trans hback⟩
  · rw [h]
    exact ⟨State.buf_stripeTaken, hback⟩

end

section
variable {u : State} {p : PortId} {b : BufId} {st : Stripe} {r : SceneRec} (hb : (u.port p).buf b = .sent st) (hr : u.frameRun = .scene r)
  (hd : r.stage.delivering? = true) (hepoch : st.id.epoch = r.epoch) (hback : (u.tile st.id.tile).back = .loading r.epoch st.id.number)
  (hlast : st.id.number + 1 = u.stripesOf st.id.tile) (hin : Mask.has r.participants st.id.tile = true)
  (hkept : Mask.has r.dropped st.id.tile = false)

section
include hepoch hback hlast hin hkept

theorem State.armedMask_stripeTaken : (u.stripeTaken p b st).armedMask r = u.armedMask r ||| bitOf st.id.tile := by
  refine Mask.ext fun k => ?_
  unfold State.armedMask
  rw [Mask.has_or, Mask.has_maskOf, Mask.has_maskOf, Mask.has_bitOf]
  by_cases hk : k = st.id.tile
  · subst hk
    rw [State.tile_stripeTaken, hepoch, BackStore.afterAck_last hback hlast, hin, hkept]
    simp [BackStore.isArmed]
  · rw [State.tile_stripeTaken_of_ne hk, decide_eq_false (Ne.symm hk), Bool.or_false]

end

include hb hr hd hepoch hback hlast hin hkept

/-- The acknowledgement that makes the last awaited participant ARMED arms the scene (R42, R58, R59). -/
theorem State.ackStripe_arms (hrequire : r.requireAll = true → r.dropped = 0)
    (hall : r.participants &&& ~~~(u.armedMask r ||| bitOf st.id.tile ||| r.dropped) = 0) :
    u.ackStripe p b = (u.stripeTaken p b st).armScene r := by
  rw [State.ackStripe_of_last hb (hepoch ▸ hback) hlast]
  have hscene : (u.stripeTaken p b st).scene = some r := State.scene_eq_some.mpr hr
  rw [State.armingRule_eq hscene hd, if_neg fun h => h.2 (hrequire h.1),
    State.armedMask_stripeTaken hepoch hback hlast hin hkept, if_pos ⟨hall, Mask.or_bitOf_ne_zero _ _⟩]

/-- The record, the scene, its job and the queues once it is armed (R42, R55, R59). -/
theorem State.ackStripe_armed (hrequire : r.requireAll = true → r.dropped = 0)
    (hall : r.participants &&& ~~~(u.armedMask r ||| bitOf st.id.tile ||| r.dropped) = 0) :
    ((u.ackStripe p b).tile st.id.tile).back = .armed r.epoch ∧
    (u.ackStripe p b).frameRun = .scene (r.arm (u.armedMask r ||| bitOf st.id.tile) (u.ref.frameNumber + 2)) ∧
    (∀ j, u.running .frame = some j → u.findJob j.addr = some j →
      ((u.ackStripe p b).findJob j.addr).map Job.writes = some (j.writes ++ [.progress .armed])) ∧
    (∀ k : TileId, ∀ q, Mask.has (u.armedMask r ||| bitOf st.id.tile) k = true → (u.tile k).geom.port = some q → (u.port q).link ≠ .off →
      (∀ m : TileId, m ≠ k → (u.tile m).geom.port ≠ some q) →
      ((u.ackStripe p b).port q).queue = (u.port q).queue ++ [.flip r.epoch (u.ref.frameNumber + 2) false]) ∧
    (∀ q : PortId, (∀ k : TileId, Mask.has (u.armedMask r ||| bitOf st.id.tile) k = true → (u.tile k).geom.port ≠ some q) →
      ((u.ackStripe p b).port q).queue = (u.port q).queue) := by
  have hmask := State.armedMask_stripeTaken (p := p) (b := b) hepoch hback hlast hin hkept
  have htile : ((u.stripeTaken p b st).tile st.id.tile).back = .armed r.epoch := by
    rw [State.tile_stripeTaken, hepoch]
    exact BackStore.afterAck_last hback hlast
  have hgeom (k : TileId) : ((u.stripeTaken p b st).tile k).geom = (u.tile k).geom := by
    by_cases hk : k = st.id.tile
    · rw [hk, State.tile_stripeTaken]
    · rw [State.tile_stripeTaken_of_ne hk]
  have hport := State.port_stripeTaken (u := u) (p := p) (b := b) (st := st)
  have hkeeps : (u.stripeTaken p b st).frameRun = .scene r ∧ (u.stripeTaken p b st).ref = u.ref ∧
    (∀ l, (u.stripeTaken p b st).running l = u.running l) ∧ ∀ a, (u.stripeTaken p b st).findJob a = u.findJob a :=
    ⟨hr, rfl, fun _ => rfl, fun _ => rfl⟩
  rw [State.ackStripe_arms hb hr hd hepoch hback hlast hin hkept hrequire hall, ← hmask]
  generalize u.stripeTaken p b st = w at *
  obtain ⟨hscene, href, hrunning, hfindJob⟩ := hkeeps
  rw [← href]
  refine ⟨(congrArg Tile.back (State.tile_of_tiles State.tiles_armScene _)).trans htile, State.frameRun_armScene hscene,
    fun j hj hfind => State.writes_armScene ((hrunning _).trans hj) ((hfindJob _).trans hfind), fun k q hk hq hon hone => ?_,
    fun q hnone => ?_⟩
  · rw [State.queue_armScene hk ((congrArg Geometry.port (hgeom k)).trans hq) (by rw [(hport q).2]; exact hon) fun m hm => by
      rw [hgeom]
      exact hone m hm]
    exact congrArg (· ++ _) (hport q).1
  · rw [State.port_armScene fun k hk => by
      rw [hgeom]
      exact hnone k hk]
    exact (hport q).1

end

/-! ## An acknowledged TABLE (R122, R123) -/

theorem State.tiles_settleLut (s : State) : s.settleLut.tiles = s.tiles := by
  unfold State.settleLut State.completeFrame
  repeat' split
  all_goals rfl

/-- A LUT_LOAD after a TABLE of tile `i` is acknowledged (R122). -/
def LutRec.acknowledged (r : LutRec) (i : TileId) (full : Prop) [Decidable full] : LutRec :=
  { r with outstanding := r.outstanding &&& ~~~bitOf i, acked := r.acked ||| bitOf i
           cleared := if full then r.cleared ||| bitOf i else r.cleared }

theorem TableLoad.full_iff (l : TableLoad) : l.full = true ↔ l.mode = .all ∧ l.start = 0 ∧ l.values.length = 256 := by
  unfold TableLoad.full
  simp [and_assoc]

theorem LutRec.acknowledged_congr (r : LutRec) (i : TileId) {P Q : Prop} [Decidable P] [Decidable Q] (h : P ↔ Q) :
    r.acknowledged i P = r.acknowledged i Q := by
  unfold LutRec.acknowledged
  rw [if_congr h rfl rfl]

theorem Tile.tableAcked_eq (x : Tile) (l : TableLoad) : x.tableAcked l = { x with
    pendingGen := some (x.pendingGen.getD (x.activeGen + 1))
    stale := if l.mode = .all ∧ l.start = 0 ∧ l.values.length = 256 then false else x.stale } := by
  unfold Tile.tableAcked
  rw [if_congr l.full_iff rfl rfl]
  cases x.pendingGen <;> rfl

theorem State.settleLut_of_done {s : State} {r : LutRec} (hr : s.lut = some r) (h : r.outstanding = 0) :
    s.settleLut = s.completeFrame { outcome := r.outcome, flags := r.flags, detail := detailMasks r.acked r.skipped r.cleared } := by
  unfold State.settleLut
  rw [hr]
  exact if_pos h

theorem State.lut_of_frameRun {s : State} {r : LutRec} (h : s.frameRun = .lut r) : s.lut = some r := by
  unfold State.lut
  rw [h]

section
variable {s : State} {i : TileId} {l : TableLoad} {n : Nat}

theorem State.ackTable_tiles : s.BesideTile i ((s.tile i).tableAcked l) (s.ackTable i l n) := by
  have hmod := s.besideTile_modTile i fun x => x.tableAcked l
  have hlut (v : State) (f : LutRec → LutRec) : (v.modLut f).tiles = v.tiles := by
    unfold State.modLut
    split <;> rfl
  unfold State.ackTable
  dsimp only
  split
  · exact hmod
  · split
    · exact hmod.of_tiles ((State.tiles_settleLut _).trans (hlut _ _))
    · exact hmod

section
variable {r : LutRec} (hr : s.frameRun = .lut r)
include hr

theorem State.ackTable_of_other (h : r.serial ≠ n ∨ Mask.has r.outstanding i = false) : (s.ackTable i l n).frameRun = s.frameRun := by
  have hlut : (s.modTile i fun x => x.tableAcked l).lut = some r := State.lut_of_frameRun hr
  unfold State.ackTable
  dsimp only
  rw [hlut]
  dsimp only
  rw [if_neg fun hboth => h.elim (· hboth.1) fun hnot => Bool.noConfusion (hnot.symm.trans hboth.2)]
  rfl

section
variable (hserial : r.serial = n) (hout : Mask.has r.outstanding i = true)
include hserial hout

theorem State.ackTable_of_outstanding : s.ackTable i l n =
    State.settleLut { s.modTile i fun x => x.tableAcked l with frameRun := .lut (r.acknowledged i (l.full = true)) } := by
  have hlut : (s.modTile i fun x => x.tableAcked l).lut = some r := State.lut_of_frameRun hr
  have hrun : (s.modTile i fun x => x.tableAcked l).frameRun = .lut r := hr
  unfold State.ackTable
  dsimp only
  rw [hlut]
  dsimp only
  rw [if_pos ⟨hserial, hout⟩]
  unfold State.modLut
  rw [hrun]
  rfl

theorem State.ackTable_open (h : r.outstanding &&& ~~~bitOf i ≠ 0) :
    (s.ackTable i l n).frameRun = .lut (r.acknowledged i (l.full = true)) := by
  rw [State.ackTable_of_outstanding hr hserial hout]
  exact congrArg State.frameRun (State.settleLut_of_open (State.lut_of_frameRun rfl) h)

theorem State.ackTable_done (h : r.outstanding &&& ~~~bitOf i = 0) :
    (s.ackTable i l n).frameRun = .idle ∧ ∀ j, s.running .frame = some j → s.findJob j.addr = some j →
      ((s.ackTable i l n).findJob j.addr).bind Job.result = some
        { outcome := if r.skipped ≠ 0 then .partialOk else if r.flags.retried then .recovered else .ok
          flags := r.flags
          detail := detailMasks (r.acknowledged i (l.full = true)).acked r.skipped (r.acknowledged i (l.full = true)).cleared } := by
  have hacked : (r.acknowledged i (l.full = true)).outcome = if r.skipped ≠ 0 then .partialOk else if r.flags.retried then .recovered else .ok :=
    if_neg (Mask.or_bitOf_ne_zero _ _)
  rw [State.ackTable_of_outstanding hr hserial hout, State.settleLut_of_done (State.lut_of_frameRun rfl) h, hacked]
  have hjobs (x : Result) : (State.completeFrame { s.modTile i fun x => x.tableAcked l with
      frameRun := .lut (r.acknowledged i (l.full = true)) } x).jobs = handRunning .frame x s.jobs := State.jobs_completeFrame _ x
  refine ⟨State.completeFrame_frameRun _ _, fun j hj hfind => ?_⟩
  exact congrArg (Option.bind · Job.result) (State.findJob_of_handRunning (hjobs _) hj hfind)

end
end
end

/-! ## NAKs (R104–R106) -/

section
variable {v : State} {p : PortId} {n : Byte} {x y : Port} (hx : v.port p = x)
  (hy : y = { x with ctr := { x.ctr with naks := satInc x.ctr.naks } })
include hx hy

theorem State.takeNak_next (hn : n = x.nextSeq) : v.takeNak p n = (v.setPort p y).acknowledge p x.window.length := by
  subst hy
  unfold State.takeNak
  dsimp only
  rw [State.modPort_eq, hx, State.port_setPort_self]
  exact if_pos hn

section
variable (hn : n ≠ x.nextSeq)
include hn

theorem State.takeNak_unknown (h : x.outstanding n = none) : v.takeNak p n = v.setPort p y := by
  subst hy
  have hnone : Port.outstanding { x with ctr := { x.ctr with naks := satInc x.ctr.naks } } n = none := h
  unfold State.takeNak
  dsimp only
  rw [State.modPort_eq, hx, State.port_setPort_self, if_neg hn, hnone]

variable {i : Nat} (hi : x.outstanding n = some i)
include hi

theorem State.takeNak_answered (h : x.answered = some n) : v.takeNak p n = v.setPort p y := by
  subst hy
  have hsome : Port.outstanding { x with ctr := { x.ctr with naks := satInc x.ctr.naks } } n = some i := hi
  unfold State.takeNak
  dsimp only
  rw [State.modPort_eq, hx, State.port_setPort_self, if_neg hn, hsome]
  exact if_pos h

theorem State.takeNak_eq (h : x.answered ≠ some n) : v.takeNak p n = if x.holdTimer.isSome then
      ((v.setPort p y).acknowledge p i).modPort p fun z => { z with answered := some n, recorded := true }
    else (((v.setPort p y).acknowledge p i).modPort p fun z => { z with answered := some n }).beginRun p 0 := by
  subst hy
  have hsome : Port.outstanding { x with ctr := { x.ctr with naks := satInc x.ctr.naks } } n = some i := hi
  unfold State.takeNak
  dsimp only
  rw [State.modPort_eq, hx, State.port_setPort_self, if_neg hn, hsome]
  dsimp only
  rw [if_neg h, State.modPort_modPort]

end
end

section
variable {s : State} {p : PortId}

theorem State.beginRun_eq (h : ∀ o ∈ (s.port p).window, o.retries < s.policy.retryLimit) : s.beginRun p 0 =
    s.modPort p fun x => { x with run := (s.port p).window.map Outstanding.number, recorded := false, ackTimer := some s.policy.ack } := by
  unfold State.beginRun
  dsimp only
  rw [List.drop_zero]
  refine if_neg fun hspent => ?_
  obtain ⟨o, ho, hretries⟩ := any_spent_iff.mp hspent
  exact absurd (h o ho) (Nat.not_lt.mpr hretries)

theorem State.beginRun_spent (h : ∃ o ∈ (s.port p).window, s.policy.retryLimit ≤ o.retries) : s.beginRun p 0 = s.exhaust p := by
  unfold State.beginRun
  dsimp only
  rw [List.drop_zero]
  exact if_pos (any_spent_iff.mpr h)

end

/-! ## The two commands -/

section
variable {s : State} {p : PortId} (hup : (s.port p).link = .up) (n : Byte)
include hup

theorem exec_ackReceived : exec (.ackReceived p n) s =
    .next ((s.setPort p { s.port p with silenceTimer := some (s.policy.silenceMs * 1000000) }).takeAck p n).settle :=
  State.takeInUp_of_up hup fun s => s.takeAck p n

theorem exec_nakReceived : exec (.nakReceived p n) s =
    .next ((s.setPort p { s.port p with silenceTimer := some (s.policy.silenceMs * 1000000) }).takeNak p n).settle :=
  State.takeInUp_of_up hup fun s => s.takeNak p n

end

/-- The port that a NAK asks to resend from, its acknowledgements taken (R104). -/
theorem State.naksAnswered {v t : State} {p : PortId} {n : Byte} {x : Port} (hx : v.port p = x) (hn : n ≠ x.nextSeq) {i : Nat}
    (hi : x.outstanding n = some i) (hnew : x.answered ≠ some n) (ht : t = v.takeNak p n) :
    (x.holdTimer.isSome = true → (t.port p).window = x.window.drop i ∧ (t.port p).recorded = true ∧ (t.port p).answered = some n ∧
      (t.port p).ctr = { x.ctr with naks := satInc x.ctr.naks }) ∧
    (x.holdTimer = none → (∀ o ∈ x.window.drop i, o.retries < v.policy.retryLimit) → (t.port p).window = x.window.drop i ∧
      (t.port p).run = (x.window.drop i).map Outstanding.number ∧ (t.port p).answered = some n ∧ (t.port p).recorded = false ∧
      (t.port p).ackTimer = some v.policy.ack ∧ (t.port p).ctr = { x.ctr with naks := satInc x.ctr.naks }) ∧
    (x.holdTimer = none → (∃ o ∈ x.window.drop i, v.policy.retryLimit ≤ o.retries) → (t.port p).link ≠ .up ∧ (t.port p).window = [] ∧
      t.causes.tile = true ∧ (t.port p).ctr.naks = satInc x.ctr.naks ∧ (t.port p).ctr.retrains = satInc x.ctr.retrains) := by
  generalize hy : ({ x with ctr := { x.ctr with naks := satInc x.ctr.naks } } : Port) = y
  have hyx : y.window = x.window ∧ y.ctr = { x.ctr with naks := satInc x.ctr.naks } := by rw [← hy]; exact ⟨rfl, rfl⟩
  obtain ⟨hwindow, hctr, -, hpolicy⟩ := (v.setPort p y).acknowledge_keeps p i
  rw [State.port_setPort_self] at hwindow hctr
  rw [hyx.1] at hwindow
  rw [hyx.2] at hctr
  have hpolicy : ((v.setPort p y).acknowledge p i).policy = v.policy := hpolicy
  rw [State.takeNak_eq hx hy.symm hn hi hnew] at ht
  generalize (v.setPort p y).acknowledge p i = w at ht hwindow hctr hpolicy
  have hanswered : (w.modPort p fun z => { z with answered := some n }).port p = { w.port p with answered := some n } := by
    rw [State.modPort_eq, State.port_setPort_self]
  refine ⟨fun hhold => ?_, fun hhold hretries => ?_, fun hhold hspent => ?_⟩
  · rw [if_pos hhold, State.modPort_eq] at ht
    subst ht
    rw [State.port_setPort_self]
    exact ⟨hwindow, rfl, rfl, hctr⟩
  · have hrun := State.beginRun_eq (s := w.modPort p fun z => { z with answered := some n }) (p := p)
    rw [hanswered] at hrun
    have hrun := hrun fun o ho => by
      show o.retries < w.policy.retryLimit
      rw [hpolicy]
      exact hretries o (hwindow ▸ ho)
    rw [if_neg (by rw [hhold]; exact Bool.false_ne_true), hrun, State.modPort_modPort, State.modPort_eq] at ht
    have hack : (w.modPort p fun z => { z with answered := some n }).policy = v.policy := hpolicy
    rw [hack] at ht
    subst ht
    rw [State.port_setPort_self]
    exact ⟨hwindow, congrArg (List.map Outstanding.number) hwindow, rfl, rfl, rfl, hctr⟩
  · have hexhaust := State.beginRun_spent (s := w.modPort p fun z => { z with answered := some n }) (p := p)
    rw [hanswered] at hexhaust
    obtain ⟨o, ho, hretries⟩ := hspent
    have hexhaust := hexhaust ⟨o, hwindow ▸ ho, by
      show w.policy.retryLimit ≤ o.retries
      rw [hpolicy]
      exact hretries⟩
    rw [if_neg (by rw [hhold]; exact Bool.false_ne_true), hexhaust] at ht
    obtain ⟨hlink, hempty, -, hcauses, hretrains, hnaks, -⟩ := (w.modPort p fun z => { z with answered := some n }).exhaust_port p
    rw [hanswered] at hretrains hnaks
    have hctrRetrains : (w.port p).ctr.retrains = x.ctr.retrains := by rw [hctr]
    have hctrNaks : (w.port p).ctr.naks = satInc x.ctr.naks := by rw [hctr]
    subst ht
    exact ⟨hlink, hempty, hcauses, hnaks.trans hctrNaks, hretrains.trans (congrArg satInc hctrRetrains)⟩

/-- Settles O47: the outstanding number counted from the oldest, the owner of the oldest packet, and the run a NAK opens. -/
theorem acksAndNaksAreTaken : Obligations.AcksAndNaksAreTaken := by
  intro s p n hup x y
  have hack := exec_ackReceived hup n
  have hnak := exec_nakReceived hup n
  have hx : (s.setPort p x).port p = x := State.port_setPort_self s p x
  change exec (.ackReceived p n) s = .next ((s.setPort p x).takeAck p n).settle at hack
  change exec (.nakReceived p n) s = .next ((s.setPort p x).takeNak p n).settle at hnak
  generalize hv : s.setPort p x = v at hack hnak hx
  have hpolicy : v.policy = s.policy := by rw [← hv]; rfl
  have hsetPort (z : Port) : v.setPort p z = s.setPort p z := by rw [← hv, State.setPort_setPort]
  have hhead {o : Outstanding} {rest : List Outstanding} (hw : x.window = o :: rest) (hn : o.number = n) {k : Reliable}
      (hk : o.packet = k) : exec (.ackReceived p n) s =
        .next (((s.setPort p (x.popWindow o)).ackOwner p k).modPort p fun x => x.afterAcks s.policy.ack).settle := by
    rw [hack, ← hn, State.takeAck_head hx hw, hsetPort, hpolicy, hk]
  refine ⟨fun hnone => ?_, fun i hi => ⟨_, hack, ?_⟩, fun o rest b st hw hn hk hb => ⟨_, hhead hw hn hk, ?_⟩,
    fun o rest e i hw hn hk hi => ⟨_, hhead hw hn hk, ?_⟩,
    fun o rest b st r hw hn hk hb hr hd hepoch hback hlast hin hkept hrequire hall => ⟨_, hhead hw hn hk, ?_⟩,
    fun o rest l m again i hw hn hk hi => ⟨_, hhead hw hn hk, ?_⟩,
    fun hn => ⟨_, hnak, ?_⟩, fun hn hnone => ?_, fun hn hout hanswered => ?_, fun hn i hi hnew => ?_⟩
  · unfold State.takeAck at hack
    rw [hx, hnone] at hack
    exact hack
  · unfold State.takeAck
    rw [hx, hi]
    dsimp only
    obtain ⟨run, recorded, hspine⟩ := v.spine_acknowledge p (Nat.succ_ne_zero i)
    rw [hx, hpolicy] at hspine
    have hfield {α} (f : Port → α) := congrArg f hspine
    exact ⟨hfield Port.window, hfield Port.answered, hfield Port.nextSeq, hfield Port.ctr, hfield Port.silenceTimer, hfield Port.ackTimer⟩
  · obtain ⟨hfree, hback⟩ := State.ackStripe_freed (u := s.setPort p (x.popWindow o)) (p := p) (b := b) (st := st) (by
      rw [State.port_setPort_self]
      cases b <;> exact hb)
    refine ⟨State.holds_modPort (P := fun z => z.buf b = .free) hfree fun z hz => ?_, hback⟩
    cases b <;> exact hz
  · have hmod : (s.setPort p (x.popWindow o)).ackOwner p (.discard e) =
        (s.setPort p (x.popWindow o)).modTile i fun y => { y with back := y.back.afterDiscard e } := by
      unfold State.ackOwner
      dsimp only
      rw [show (s.setPort p (x.popWindow o)).tileOfPort p = some i from hi]
    rw [hmod]
    exact congrArg Tile.back (State.besideTile_modTile (s.setPort p (x.popWindow o)) i fun y => { y with back := y.back.afterDiscard e }).1
  · obtain ⟨hbackArmed, hframeRun, hwrites, hflipped, hother⟩ := State.ackStripe_armed (u := s.setPort p (x.popWindow o)) (p := p) (b := b)
      (st := st) (by
        rw [State.port_setPort_self]
        cases b <;> exact hb) hr hd hepoch hback hlast hin hkept hrequire hall
    have hpopped (q : PortId) : ((s.setPort p (x.popWindow o)).port q).queue = (s.port q).queue ∧
        ((s.setPort p (x.popWindow o)).port q).link = (s.port q).link := by
      by_cases hq : q = p
      · rw [hq, State.port_setPort_self]
        exact ⟨rfl, rfl⟩
      · rw [State.port_setPort_ne s (Ne.symm hq)]
        exact ⟨rfl, rfl⟩
    have hafter {t : State} {q : PortId} {ks : List Reliable} (h : (t.port q).queue = ks) :
        ((t.modPort p fun x => x.afterAcks s.policy.ack).port q).queue = ks :=
      State.holds_modPort (P := fun z => z.queue = ks) h fun _ hz => hz
    refine ⟨hbackArmed, hframeRun, hwrites, fun k q hk hq hon hone => hafter ((hflipped k q hk hq (by rw [(hpopped q).2]; exact hon) hone).trans
      (congrArg (· ++ _) (hpopped q).1)), fun q hnone => hafter ((hother q hnone).trans (hpopped q).1)⟩
  · have hmod : (s.setPort p (x.popWindow o)).ackOwner p (.table l m again) = (s.setPort p (x.popWindow o)).ackTable i l m := by
      unfold State.ackOwner
      dsimp only
      rw [show (s.setPort p (x.popWindow o)).tileOfPort p = some i from hi]
    rw [hmod]
    obtain ⟨htile, hbeside⟩ := State.ackTable_tiles (s := s.setPort p (x.popWindow o)) (i := i) (l := l) (n := m)
    refine ⟨htile.trans ?_, hbeside, fun r hr h => State.ackTable_of_other (s := s.setPort p (x.popWindow o)) hr h, fun r hr hserial hout => ?_⟩
    · exact Tile.tableAcked_eq _ l
    · have hsame := LutRec.acknowledged_congr r i l.full_iff
      have hopen := State.ackTable_open (s := s.setPort p (x.popWindow o)) (l := l) hr hserial hout
      have hdone := State.ackTable_done (s := s.setPort p (x.popWindow o)) (l := l) hr hserial hout
      rw [hsame] at hopen hdone
      exact ⟨hopen, hdone⟩
  · rw [State.takeNak_next hx rfl hn]
    obtain ⟨hwindow, hctr, -, -⟩ := (v.setPort p y).acknowledge_keeps p x.window.length
    rw [State.port_setPort_self] at hwindow hctr
    exact ⟨hwindow.trans List.drop_length, hctr⟩
  · rw [hnak, State.takeNak_unknown hx rfl hn hnone, hsetPort]
  · obtain ⟨i, hi⟩ := Option.ne_none_iff_exists'.mp hout
    rw [hnak, State.takeNak_answered hx rfl hn hi hanswered, hsetPort]
  · obtain ⟨hhold, hopen, hspent⟩ := State.naksAnswered hx hn hi hnew rfl
    rw [hpolicy] at hopen hspent
    exact ⟨fun h => ⟨_, hnak, hhold h⟩, fun h hretries => ⟨_, hnak, hopen h hretries⟩, fun h hretries => ⟨_, hnak, hspent h hretries⟩⟩

end Sys2Proof.Machine

/-! SUPPORT. The exit from UP and the entries into LISTEN and LOST: the queue, the buffers, and what the picture work that goes on
keeps of its record (R44, R48, R58, R88, R93, R107, R123, R180). -/
namespace Sys2Proof.Machine

/-! ## What an exit from UP leaves of the frame job's record -/

/-- A frame job's state without its result flags and a scene's cursors. -/
def FrameRun.bare : FrameRun → FrameRun
  | .idle => .idle
  | .started => .started
  | .layers ls => .layers ls
  | .scene r => .scene { r with flags := .clear, cursors := .replicate 12 0 }
  | .entries es => .entries es
  | .values r => .values { r with flags := .clear }
  | .lut r => .lut { r with flags := .clear }
  | .verify r => .verify { r with flags := .clear }
  | .listing r n => .listing { r with flags := .clear } n

theorem FrameRun.bare_lut {x : FrameRun} {r : LutRec} (h : x.bare = (FrameRun.lut r).bare) : ∃ f, x = .lut { r with flags := f } := by
  cases x with
  | lut v =>
    have hv := FrameRun.lut.inj h
    refine ⟨v.flags, congrArg FrameRun.lut ?_⟩
    calc v = { ({ v with flags := .clear } : LutRec) with flags := v.flags } := rfl
      _ = _ := by rw [hv]
  | _ => cases h

theorem FrameRun.bare_scene {x : FrameRun} {r : SceneRec} (h : x.bare = (FrameRun.scene r).bare) :
    ∃ f c, x = .scene { r with flags := f, cursors := c } := by
  cases x with
  | scene v =>
    have hv := FrameRun.scene.inj h
    refine ⟨v.flags, v.cursors, congrArg FrameRun.scene ?_⟩
    calc v = { ({ v with flags := .clear, cursors := .replicate 12 0 } : SceneRec) with flags := v.flags, cursors := v.cursors } := rfl
      _ = _ := by rw [hv]
  | _ => cases h

section
variable {s : State}

theorem State.bare_modScene {f : SceneRec → SceneRec} (hf : ∀ r, (FrameRun.scene (f r)).bare = (FrameRun.scene r).bare) :
    (s.modScene f).frameRun.bare = s.frameRun.bare := by
  unfold State.modScene
  split
  · next r hr =>
    rw [hr]
    exact hf r
  all_goals rfl

theorem State.bare_modLut {f : LutRec → LutRec} (hf : ∀ r, ({ f r with flags := .clear } : LutRec) = { r with flags := .clear }) :
    (s.modLut f).frameRun.bare = s.frameRun.bare := by
  unfold State.modLut
  split
  · next r hr =>
    rw [hr]
    exact congrArg FrameRun.values (hf r)
  · next r hr =>
    rw [hr]
    exact congrArg FrameRun.lut (hf r)
  all_goals rfl

theorem State.bare_modVerify {f : VerifyRec → VerifyRec} (hf : ∀ r, ({ f r with flags := .clear } : VerifyRec) = { r with flags := .clear }) :
    (s.modVerify f).frameRun.bare = s.frameRun.bare := by
  unfold State.modVerify
  split
  · next r hr =>
    rw [hr]
    exact congrArg FrameRun.verify (hf r)
  · next r n hr =>
    rw [hr]
    exact congrArg (FrameRun.listing · n) (hf r)
  all_goals rfl

theorem State.bare_noteTable (k : Reliable) : (s.noteTable k).frameRun.bare = s.frameRun.bare :=
  State.bare_modLut fun r => by split <;> rfl

theorem State.bare_noteCheck (k : Reliable) : (s.noteCheck k).frameRun.bare = s.frameRun.bare :=
  State.bare_modVerify fun r => by split <;> rfl

theorem State.bare_noteResent (p : PortId) (k : Reliable) : (s.noteResent p k).frameRun.bare = s.frameRun.bare := by
  unfold State.noteResent
  dsimp only
  rw [State.bare_noteCheck, State.bare_noteTable]
  split
  · rfl
  · exact State.bare_modScene fun r => by split <;> rfl

theorem State.bare_flushPort (p : PortId) : (s.flushPort p).frameRun.bare = s.frameRun.bare := by
  have hreleased : ((s.modPort p Port.flush).releaseEngine p).frameRun = s.frameRun := by
    unfold State.releaseEngine
    repeat' split
    all_goals rfl
  unfold State.flushPort
  dsimp only
  split
  · split
    · refine (State.bare_modScene fun r => ?_).trans (congrArg FrameRun.bare hreleased)
      rfl
    · exact congrArg FrameRun.bare hreleased
  · exact congrArg FrameRun.bare hreleased

theorem State.port_flushPort (p : PortId) : (s.flushPort p).port p = (s.port p).flush := by
  have hreleased : ((s.modPort p Port.flush).releaseEngine p).port p = (s.port p).flush := by
    rw [State.port_releaseEngine, State.modPort_eq, State.port_setPort_self]
  unfold State.flushPort
  dsimp only
  split
  · split
    · exact (State.port_of_ports (State.ports_modScene _ _) p).trans hreleased
    · exact hreleased
  · exact hreleased

end

/-! ## The exit from UP (R88, R107) -/

/-- The exit from UP before the LINK_TEST in flight ends. -/
def State.streamCleared (s : State) (p : PortId) : State :=
  ((s.port p).requeue.foldl State.noteTable (s.raiseTile.modPort p fun x =>
    { x.clearStream with silenceTimer := none, stability := 0 })).flushPort p

/-- The queue a port has when it has left UP (R107). -/
def Port.waiting (x : Port) : List Reliable := x.requeue ++ x.queue.filter fun k => !k.isStripe

theorem Port.requeue_filter (x : Port) : (x.requeue.filter fun k => !k.isStripe) = x.requeue := by
  refine List.filter_eq_self.mpr fun k hk => ?_
  obtain ⟨m, hm, rfl⟩ := List.mem_map.mp hk
  have hstripe := (List.mem_filter.mp hm).2
  cases m <;> exact hstripe

theorem Port.queue_flush (x : Port) : x.flush.queue = x.queue.filter fun k => !k.isStripe := by
  show List.filter _ ((x.freeBuf .first).freeBuf .second).queue = _
  rw [Port.queue_freeBuf, Port.queue_freeBuf]

theorem Port.free_flush (x : Port) (b : BufId) : x.flush.buf b = .free := by
  obtain ⟨hfirst, hsecond⟩ := x.buf_flush
  cases b
  · exact hfirst
  · exact hsecond

section
variable (s : State) (p : PortId)

theorem State.exitUp_eq : s.exitUp p = (s.streamCleared p).endTest p .tileLost := rfl

theorem State.streamCleared_keeps : (s.streamCleared p).jobRun = s.jobRun ∧ (s.streamCleared p).frameRun.bare = s.frameRun.bare ∧
    ((s.streamCleared p).port p).queue = (s.port p).waiting ∧ (∀ b, ((s.streamCleared p).port p).buf b = .free) ∧
    ((s.streamCleared p).port p).test = (s.port p).test := by
  have hnoted : ∀ (ks : List Reliable) (u : State), (ks.foldl State.noteTable u).jobRun = u.jobRun ∧
      (ks.foldl State.noteTable u).frameRun.bare = u.frameRun.bare ∧ (ks.foldl State.noteTable u).ports = u.ports := by
    refine fun ks => ?_
    induction ks with
    | nil => exact fun u => ⟨rfl, rfl, rfl⟩
    | cons k ks ih =>
      intro u
      obtain ⟨hjobs, hcore, hports⟩ := ih (u.noteTable k)
      exact ⟨hjobs.trans (u.jobRun_noteTable k), hcore.trans (u.bare_noteTable k), hports.trans (u.ports_modLut _)⟩
  obtain ⟨hjobs, hcore, hports⟩ := hnoted (s.port p).requeue
    (s.raiseTile.modPort p fun x => { x.clearStream with silenceTimer := none, stability := 0 })
  have hport := State.port_of_ports hports p
  rw [State.port_modPort_self] at hport
  have hcleared : (s.streamCleared p).port p = ({ (s.port p).clearStream with silenceTimer := none, stability := 0 } : Port).flush :=
    (State.port_flushPort p).trans (congrArg Port.flush hport)
  refine ⟨(State.jobRun_flushPort _ p).trans hjobs, (State.bare_flushPort p).trans hcore, ?_, fun b => ?_, ?_⟩
  · rw [hcleared, Port.queue_flush]
    show List.filter _ ((s.port p).requeue ++ (s.port p).queue) = _
    rw [List.filter_append, Port.requeue_filter]
    rfl
  · rw [hcleared]
    exact Port.free_flush _ b
  · have hspine := Port.spine_flush ({ (s.port p).clearStream with silenceTimer := none, stability := 0 } : Port)
    rw [hcleared]
    exact (congrArg Port.test hspine : _)

/-- The jobs after the end of the LINK_TEST that is in flight on the port, if one is (R178). -/
def State.testHanded (o : JobOutcome) : List Job :=
  match (s.port p).test with
  | none => s.jobs
  | some k => (s.hand k.job (plainResult o k.detail)).jobs

theorem State.endTest_eq (o : JobOutcome) :
    s.endTest p o = { s.modPort p fun x => { x with test := none } with jobs := s.testHanded p o } := by
  unfold State.endTest State.endTestWith State.testHanded
  cases htest : (s.port p).test with
  | none =>
    have hsame : (s.modPort p fun x => { x with test := none }) = s := by
      rw [State.modPort_eq, show ({ s.port p with test := none } : Port) = s.port p by rw [← htest]]
      exact s.setPort_port p
    rw [hsame]
  | some k => rfl

/-- What the exit from UP does to the queue, the buffers, the jobs and the frame job's record (R107, R178). -/
theorem State.exitUp_keeps : ((s.exitUp p).port p).queue = (s.port p).waiting ∧ (∀ b, ((s.exitUp p).port p).buf b = .free) ∧
    (s.exitUp p).frameRun.bare = s.frameRun.bare ∧ (s.exitUp p).jobs = s.testHanded p .tileLost := by
  obtain ⟨hjobRun, hbare, hqueue, hfree, htest⟩ := s.streamCleared_keeps p
  have hjobs : (s.streamCleared p).jobs = s.jobs := (Prod.mk.inj hjobRun).1
  rw [State.exitUp_eq, State.endTest_eq]
  have hport : (State.port { (s.streamCleared p).modPort p fun x => { x with test := none } with
      jobs := (s.streamCleared p).testHanded p .tileLost } p) = { (s.streamCleared p).port p with test := none } :=
    (s.streamCleared p).port_modPort_self p fun x => { x with test := none }
  rw [hport]
  refine ⟨hqueue, fun b => ?_, hbare, ?_⟩
  · cases b
    · exact hfree .first
    · exact hfree .second
  · show (s.streamCleared p).testHanded p .tileLost = s.testHanded p .tileLost
    unfold State.testHanded State.hand State.modJob
    rw [htest, hjobs]

end

/-- The job of the LINK_TEST that was in flight is handed TILE_LOST (R178). -/
theorem State.tileLost_exitUp {s : State} {p : PortId} {k : LinkTest} {j : Job} (htest : (s.port p).test = some k)
    (hfind : s.findJob k.job = some j) (hnone : j.result = none) : (s.exitUp p).outcomeOf k.job = some .tileLost := by
  obtain ⟨-, -, -, hjobs⟩ := s.exitUp_keeps p
  have hhanded : (s.exitUp p).jobs = (s.hand k.job (plainResult .tileLost k.detail)).jobs := by
    rw [hjobs]
    unfold State.testHanded
    rw [htest]
  have hended : Ended .tileLost k.job (s.hand k.job (plainResult .tileLost k.detail)).jobs :=
    State.ended_of_hand ⟨j, hfind, rfl, fun r hr => by rw [hnone] at hr; cases hr⟩ rfl
  exact State.outcomeOf_of_ended (hhanded ▸ hended)

/-- An outcome that has been handed stays. -/
theorem State.Spares.outcomeOf {s t : State} {a b : Word} {o : JobOutcome} (h : s.Spares a t) (ho : s.outcomeOf b = some o) :
    t.outcomeOf b = some o := by
  obtain ⟨k, hk, hresult⟩ := Option.bind_eq_some_iff.mp (show (s.findJob b).bind (fun j => j.result.map Result.outcome) = some o from by
    cases hk : s.findJob b with
    | none => simp [State.outcomeOf, hk] at ho
    | some k => rw [← ho, State.outcomeOf_eq hk]; rfl)
  obtain ⟨m, hm, -, hsame⟩ := h.found hk (.inr fun hnone => by rw [hnone] at hresult; cases hresult)
  rw [State.outcomeOf_eq hm, hsame]
  exact hresult

/-! ## The targets a port leaves behind (R123, R180) -/

section
variable {s : State} {p : PortId} {i : TileId}

/-- A LUT_LOAD whose target's port has been left (R123). -/
def LutRec.skip (r : LutRec) (i : TileId) : LutRec :=
  { r with outstanding := r.outstanding &&& ~~~bitOf i, skipped := r.skipped ||| bitOf i }

/-- A VERIFY whose target's port has been left (R180). -/
def VerifyRec.miss (r : VerifyRec) (i : TileId) : VerifyRec :=
  { r with outstanding := r.outstanding &&& ~~~bitOf i, unchecked := r.unchecked ||| bitOf i }

theorem State.dropQueuedOf_of_port (hport : (s.tile i).geom.port = some p) (f : Reliable → Bool) :
    s.dropQueuedOf i f = s.modPort p fun x => x.dropQueued f := by
  unfold State.dropQueuedOf
  rw [hport]

theorem State.lutSkip_of_none (h : s.lut = none) : s.lutSkip i = s := by
  unfold State.lutSkip
  rw [h]

theorem State.verifyMiss_of_none (h : s.verify = none) : s.verifyMiss i = s := by
  unfold State.verifyMiss
  rw [h]

theorem State.verify_of_lut {r : LutRec} (h : s.frameRun = .lut r) : s.verify = none := by
  unfold State.verify
  rw [h]

theorem State.lut_of_verify {r : VerifyRec} (h : s.frameRun = .verify r) : s.lut = none := by
  unfold State.lut
  rw [h]

theorem State.lutSkip_of_other {r : LutRec} (hr : s.frameRun = .lut r) (h : Mask.has r.outstanding i = false) : s.lutSkip i = s := by
  unfold State.lutSkip
  rw [State.lut_of_frameRun hr]
  exact if_neg (by rw [h]; exact Bool.false_ne_true)

theorem State.lutSkip_of_outstanding {r : LutRec} (hr : s.frameRun = .lut r) (h : Mask.has r.outstanding i = true) : s.lutSkip i =
    (({ s with frameRun := .lut (r.skip i) } : State).dropQueuedOf i (Reliable.isTableOf r.serial)).settleLut := by
  unfold State.lutSkip State.modLut
  rw [State.lut_of_frameRun hr]
  dsimp only
  rw [if_pos h, hr]
  rfl

theorem State.verifyMiss_of_other {r : VerifyRec} (hr : s.frameRun = .verify r) (h : Mask.has r.outstanding i = false) :
    s.verifyMiss i = s := by
  unfold State.verifyMiss
  rw [State.verify_of_frameRun hr]
  exact if_neg (by rw [h]; exact Bool.false_ne_true)

theorem State.verifyMiss_of_outstanding {r : VerifyRec} (hr : s.frameRun = .verify r) (h : Mask.has r.outstanding i = true) : s.verifyMiss i =
    (({ s with frameRun := .verify (r.miss i) } : State).dropQueuedOf i (Reliable.isCheckOf r.serial)).settleVerify := by
  unfold State.verifyMiss State.modVerify
  rw [State.verify_of_frameRun hr]
  dsimp only
  rw [if_pos h, hr]
  rfl

theorem State.portLeft_of_tile (hi : s.tileOfPort p = some i) : s.portLeft p = (s.lutSkip i).verifyMiss i := by
  unfold State.portLeft
  rw [hi]
  rfl

theorem State.portLeft_of_none (hi : s.tileOfPort p = none) : s.portLeft p = s := by
  unfold State.portLeft
  rw [hi]

/-- Neither a LUT_LOAD nor a VERIFY has targets outstanding. -/
theorem State.portLeft_of_other (hlut : s.lut = none) (hverify : s.verify = none) : s.portLeft p = s := by
  cases hi : s.tileOfPort p with
  | none => exact State.portLeft_of_none hi
  | some i => rw [State.portLeft_of_tile hi, State.lutSkip_of_none hlut, State.verifyMiss_of_none hverify]

/-- A property that goes along with the removal of waiting packets. -/
theorem State.holds_portLeft {P : Port → Prop} (hdrop : ∀ x f, P x → P (x.dropQueued f)) {q : PortId} (h : P (s.port q)) :
    P ((s.portLeft p).port q) := by
  have hdropped {u : State} (hu : P (u.port q)) (t : TileId) (f : Reliable → Bool) : P ((u.dropQueuedOf t f).port q) := by
    unfold State.dropQueuedOf
    split
    · exact hu
    · exact State.holds_modPort hu fun x => hdrop x f
  have hskip (t : TileId) : P ((s.lutSkip t).port q) := by
    unfold State.lutSkip
    split
    · exact h
    · split
      · exact State.holds_of_ports (hdropped (State.holds_of_ports h (State.ports_modLut s _)) t _) (State.ports_settleLut _)
      · exact h
  cases hi : s.tileOfPort p with
  | none =>
    rw [State.portLeft_of_none hi]
    exact h
  | some t =>
    rw [State.portLeft_of_tile hi]
    have hskipped := hskip t
    unfold State.verifyMiss
    split
    · exact hskipped
    · split
      · exact State.holds_of_ports (hdropped (State.holds_of_ports hskipped (State.ports_modVerify _ _)) t _) (State.ports_settleVerify _)
      · exact hskipped

/-! The scene is beside the targets that a port leaves behind. -/

theorem State.scene_of_frameRun {u v : State} (h : u.frameRun = v.frameRun) : u.scene = v.scene := by
  unfold State.scene
  rw [h]

theorem State.scene_modLut (f : LutRec → LutRec) : (s.modLut f).scene = s.scene := by
  unfold State.modLut State.scene
  cases hr : s.frameRun <;> simp [hr]

theorem State.scene_modVerify (f : VerifyRec → VerifyRec) : (s.modVerify f).scene = s.scene := by
  unfold State.modVerify State.scene
  cases hr : s.frameRun <;> simp [hr]

theorem State.scene_dropQueuedOf (f : Reliable → Bool) : (s.dropQueuedOf i f).scene = s.scene := by
  unfold State.dropQueuedOf
  split <;> rfl

theorem State.lut_eq_some {r : LutRec} : s.lut = some r ↔ s.frameRun = .lut r := by
  unfold State.lut
  split
  · next h => simp [h]
  all_goals
    next h => simp [h]

theorem State.scene_settleLut : s.settleLut.scene = s.scene := by
  unfold State.settleLut
  split
  · rfl
  · next r hr =>
    have hnone : s.scene = none := by
      unfold State.scene
      rw [State.lut_eq_some.mp hr]
    split
    · rw [State.completeFrame_scene, hnone]
    · rfl

theorem State.scene_settleVerify : s.settleVerify.scene = s.scene := by
  unfold State.settleVerify
  split
  · rfl
  · next r hr =>
    have hnone : s.scene = none := by
      unfold State.scene
      rw [State.verify_eq_some.mp hr]
    split
    · split
      · rw [State.completeFrame_scene, hnone]
      · exact hnone.symm
    · rfl

theorem State.scene_portLeft : (s.portLeft p).scene = s.scene := by
  have hskip (t : TileId) : (s.lutSkip t).scene = s.scene := by
    unfold State.lutSkip
    split
    · rfl
    · split
      · rw [State.scene_settleLut, State.scene_dropQueuedOf, State.scene_modLut]
      · rfl
  cases hi : s.tileOfPort p with
  | none => rw [State.portLeft_of_none hi]
  | some t =>
    rw [State.portLeft_of_tile hi]
    unfold State.verifyMiss
    split
    · exact hskip t
    · split
      · rw [State.scene_settleVerify, State.scene_dropQueuedOf, State.scene_modVerify, hskip t]
      · exact hskip t

end

/-! ## A participant that is lost (R56, R66) -/

section
variable {s : State} {p : PortId} {i : TileId}

theorem State.blankFront_keeps (i : TileId) : (s.blankFront i).ports = s.ports ∧ (s.blankFront i).frameRun = s.frameRun ∧
    (s.blankFront i).causes = s.causes ∧ (s.blankFront i).jobs = s.jobs ∧ ∀ k : TileId, ((s.blankFront i).tile k).geom = (s.tile k).geom := by
  unfold State.blankFront
  split
  · refine ⟨rfl, rfl, rfl, rfl, fun k => ?_⟩
    obtain ⟨hself, hother⟩ := s.besideTile_modTile i fun x => { x with front := 0 }
    by_cases hk : k = i
    · rw [hk, hself]
    · rw [hother k hk]
  · exact ⟨rfl, rfl, rfl, rfl, fun _ => rfl⟩

section
variable {P : Port → Prop} (h : P (s.port p)) (hP : ∀ r, s.scene = some r → Port.Tended P r.epoch)
include h hP

/-- A property of a port that is kept where a tile is dropped, if it is kept where the others are armed then (R56, R58). -/
theorem State.holds_dropTiles {m : Mask} {c : DropCause} (harm : ∀ (u : State) (r : SceneRec), P (u.port p) → s.scene = some r →
    r.stage.delivering? = true → u.tiles = s.tiles → P ((u.armScene { r with
      dropped := r.dropped ||| (m &&& r.participants &&& ~~~r.dropped), lastDrop := some c }).port p)) : P ((s.dropTiles m c).port p) := by
  cases hr : s.scene with
  | none =>
    unfold State.dropTiles
    rw [hr]
    exact h
  | some r =>
    by_cases hopen : r.stage.delivering? = true ∧ m &&& r.participants &&& ~~~r.dropped ≠ 0
    · obtain ⟨hd, hm⟩ := hopen
      rw [State.dropTiles_some hr hd rfl hm]
      generalize hd' : m &&& r.participants &&& ~~~r.dropped = d at *
      generalize hv : (s.modScene fun r => { r with dropped := r.dropped ||| d, lastDrop := some c }) = v
      have hvscene : v.scene = some { r with dropped := r.dropped ||| d, lastDrop := some c } := by
        rw [← hv, State.scene_modScene, hr]
        rfl
      have hvport : P (v.port p) := by
        rw [← hv]
        exact State.holds_of_ports h (State.ports_modScene s _)
      have hstopped : P (((idsOf d).foldl (fun u t => u.stopDelivery r.epoch t) v).port p) :=
        State.holds_foldl (fun u t hu => (hP r hr).stopDelivery hu t) _ hvport
      have hsheet : ((idsOf d).foldl (fun u t => u.stopDelivery r.epoch t) v).sheet = v.sheet :=
        foldl_keeps State.sheet _ (fun u t => u.sheet_stopDelivery r.epoch t) _ _
      have htiles : ((idsOf d).foldl (fun u t => u.stopDelivery r.epoch t) v).tiles = s.tiles := by
        rw [State.tiles_of_sheet hsheet, ← hv, State.tiles_modScene]
      generalize (idsOf d).foldl (fun u t => u.stopDelivery r.epoch t) v = w at *
      have hrun : w.frameRun = v.frameRun := by
        have hrun := congrArg State.frameRun hsheet
        exact hrun
      have hwscene := (State.scene_of_frameRun hrun).trans hvscene
      refine State.holds_armingRule hstopped (fun u hu => ?_) fun u hu => ?_
      · rw [← Option.some.inj (hwscene.symm.trans hu)]
        exact hP r hr
      · rw [← Option.some.inj (hwscene.symm.trans hu)]
        exact hd' ▸ harm w r hstopped hr hd htiles
    · have hsame : s.dropTiles m c = s := by
        unfold State.dropTiles
        rw [hr]
        refine if_pos ?_
        by_cases hd : r.stage.delivering? = true
        · have hm : m &&& r.participants &&& ~~~r.dropped = 0 := by_contra fun hm => hopen ⟨hd, hm⟩
          simp [hm]
        · simp [hd]
      rw [hsame]
      exact h

theorem State.holds_lostTile (harm : ∀ (u : State) (r : SceneRec), P (u.port p) → s.scene = some r →
    r.stage.delivering? = true → (∀ k : TileId, (u.tile k).geom = (s.tile k).geom) → P ((u.armScene { r with
      dropped := r.dropped ||| (bitOf i &&& r.participants &&& ~~~r.dropped), lastDrop := some .lost }).port p)) :
    P ((s.lostTile i).port p) := by
  obtain ⟨hports, hrun, -, -, hgeom⟩ := s.blankFront_keeps i
  have hblank : P ((s.blankFront i).port p) := State.holds_of_ports h hports
  have hscene := State.scene_of_frameRun hrun
  unfold State.lostTile
  dsimp only
  split
  · exact hblank
  · split
    · refine State.holds_dropTiles hblank (fun r hr => hP r (hscene ▸ hr)) fun u r hu hr hd htiles => ?_
      exact harm u r hu (hscene ▸ hr) hd fun k => by rw [State.tile_of_tiles htiles k, hgeom k]
    · split
      · exact State.holds_settleScene (State.holds_of_ports hblank (State.ports_modScene _ _))
      · exact hblank

end

/-- A FREE buffer stays FREE where a tile is lost. -/
theorem State.buf_lostTile {b : BufId} (h : (s.port p).buf b = .free) : ((s.lostTile i).port p).buf b = .free :=
  State.holds_lostTile (P := fun x => x.buf b = .free) h (fun r _ => Port.tended_free b r.epoch)
    fun _ _ hu _ _ _ => State.buf_armScene hu _

/-- A tile that is lost leaves only its DISCARD on its port, if it alone has that port (R48, R56). -/
theorem State.emptied_lostTile (h : (s.port p).queue = []) (hone : ∀ k : TileId, (s.tile k).geom.port = some p → k = i) :
    ((s.lostTile i).port p).Emptied (s.scene.map SceneRec.epoch) := by
  refine State.holds_lostTile (P := Port.Emptied (s.scene.map SceneRec.epoch)) (fun k hk => ?_) (fun r hr => ?_) fun u r hu hr hd hgeom => ?_
  · rw [h] at hk
    cases hk
  · rw [hr]
    exact Port.tended_emptied r.epoch
  · rw [State.port_armScene fun k hk hport => ?_]
    · exact hu
    · have hki := hone k (by rw [← hgeom k]; exact hport)
      subst hki
      unfold State.armedMask at hk
      rw [Mask.has_maskOf] at hk
      obtain ⟨hkept, -⟩ := Bool.and_eq_true_iff.mp hk
      obtain ⟨hin, hdropped⟩ := Bool.and_eq_true_iff.mp hkept
      simp [Mask.has_or, Mask.has_and, Mask.has_not, Mask.has_bitOf, show Mask.has r.participants k = true from hin] at hdropped

end

end Sys2Proof.Machine

/-! O45, how UP is left (R53, R84, R88–R91, R93, R107, R123, R178, R180). -/
namespace Sys2Proof.Machine

/-! ## The packets of a job that go when a port is left -/

/-- What holds of the tile that the port serves, if it serves one. -/
def State.serves (s : State) (p : PortId) (f : TileId → Bool) : Bool :=
  match s.tileOfPort p with
  | some i => f i
  | none => false

/-- Whether a waiting packet goes where the port enters LISTEN (R123, R180). -/
def State.gone (s : State) (p : PortId) (k : Reliable) : Bool :=
  match s.frameRun.bare with
  | .lut r => s.serves p (Mask.has r.outstanding) && k.isTableOf r.serial
  | .verify r => s.serves p (Mask.has r.outstanding) && k.isCheckOf r.serial
  | _ => false

section
variable {s : State} {p : PortId} {i : TileId}

theorem State.serves_of_tile (hi : s.tileOfPort p = some i) (f : TileId → Bool) : s.serves p f = f i := by
  unfold State.serves
  rw [hi]

theorem State.serves_of_none (hi : s.tileOfPort p = none) (f : TileId → Bool) : s.serves p f = false := by
  unfold State.serves
  rw [hi]

theorem State.serves_congr {t : State} (h : t.tileOfPort p = s.tileOfPort p) : t.serves p = s.serves p := by
  unfold State.serves
  rw [h]

theorem State.gone_congr {t : State} (htile : t.tileOfPort p = s.tileOfPort p) (hbare : t.frameRun.bare = s.frameRun.bare) :
    t.gone p = s.gone p := by
  unfold State.gone
  rw [State.serves_congr htile, hbare]

theorem State.gone_of_lut {r : LutRec} (hr : s.frameRun = .lut r) :
    s.gone p = fun k => s.serves p (Mask.has r.outstanding) && k.isTableOf r.serial := by
  unfold State.gone
  rw [hr]
  rfl

theorem State.gone_of_verify {r : VerifyRec} (hr : s.frameRun = .verify r) :
    s.gone p = fun k => s.serves p (Mask.has r.outstanding) && k.isCheckOf r.serial := by
  unfold State.gone
  rw [hr]
  rfl

theorem State.gone_of_other (hlut : s.lut = none) (hverify : s.verify = none) : s.gone p = fun _ => false := by
  unfold State.gone
  cases hr : s.frameRun with
  | lut r => exact nomatch (State.lut_of_frameRun hr).symm.trans hlut
  | verify r => exact nomatch (State.verify_of_frameRun hr).symm.trans hverify
  | _ => rfl

theorem State.verify_settleLut {r : LutRec} (hr : s.frameRun = .lut r) : s.settleLut.verify = none := by
  have hlut := State.lut_of_frameRun hr
  by_cases hout : r.outstanding = 0
  · rw [State.settleLut_of_done hlut hout]
    unfold State.verify
    rw [State.completeFrame_frameRun]
  · rw [State.settleLut_of_open hlut hout]
    exact State.verify_of_lut hr

theorem State.portLeft_of_lut {r : LutRec} (hr : s.frameRun = .lut r) (hi : s.tileOfPort p = some i) (hout : Mask.has r.outstanding i = true) :
    s.portLeft p = (State.modPort { s with frameRun := .lut (r.skip i) } p fun x => x.dropQueued (Reliable.isTableOf r.serial)).settleLut := by
  rw [State.portLeft_of_tile hi, State.lutSkip_of_outstanding hr hout,
    State.dropQueuedOf_of_port (s := { s with frameRun := .lut (r.skip i) }) (p := p) (State.port_of_tileOfPort hi)]
  exact State.verifyMiss_of_none (State.verify_settleLut rfl)

theorem State.portLeft_of_verify {r : VerifyRec} (hr : s.frameRun = .verify r) (hi : s.tileOfPort p = some i)
    (hout : Mask.has r.outstanding i = true) : s.portLeft p =
      (State.modPort { s with frameRun := .verify (r.miss i) } p fun x => x.dropQueued (Reliable.isCheckOf r.serial)).settleVerify := by
  rw [State.portLeft_of_tile hi, State.lutSkip_of_none (State.lut_of_verify hr), State.verifyMiss_of_outstanding hr hout,
    State.dropQueuedOf_of_port (s := { s with frameRun := .verify (r.miss i) }) (p := p) (State.port_of_tileOfPort hi)]

/-- The LUT_LOAD goes on, or completes (R123). -/
theorem State.portLeft_skips {r : LutRec} (hr : s.frameRun = .lut r) (hi : s.tileOfPort p = some i) (hout : Mask.has r.outstanding i = true) :
    (r.outstanding &&& ~~~bitOf i ≠ 0 → (s.portLeft p).frameRun = .lut (r.skip i)) ∧
    (r.outstanding &&& ~~~bitOf i = 0 → ∀ j, s.running .frame = some j → s.findJob j.addr = some j →
      (s.portLeft p).outcomeOf j.addr = some (if r.acked = 0 then .tileLost else .partialOk)) := by
  have houtcome : (r.skip i).outcome = if r.acked = 0 then .tileLost else .partialOk := by
    unfold LutRec.outcome
    split
    · next h => exact (if_pos h).symm
    · next h => exact (if_pos (Mask.or_bitOf_ne_zero _ _)).trans (if_neg h).symm
  rw [State.portLeft_of_lut hr hi hout]
  generalize hw : State.modPort { s with frameRun := .lut (r.skip i) } p (fun x => x.dropQueued (Reliable.isTableOf r.serial)) = w
  have hlut : w.lut = some (r.skip i) := by
    rw [← hw]
    exact State.lut_of_frameRun rfl
  have hjobs : w.jobs = s.jobs := by
    rw [← hw]
    rfl
  refine ⟨fun hopen => ?_, fun hdone j hj hfind => ?_⟩
  · rw [State.settleLut_of_open hlut hopen]
    exact State.lut_eq_some.mp hlut
  · rw [State.settleLut_of_done hlut hdone]
    have hhanded := w.jobs_completeFrame
      { outcome := (r.skip i).outcome, flags := (r.skip i).flags, detail := detailMasks (r.skip i).acked (r.skip i).skipped (r.skip i).cleared }
    rw [hjobs] at hhanded
    rw [State.outcomeOf_eq (State.findJob_of_handRunning hhanded hj hfind), ← houtcome]
    rfl

/-- The VERIFY goes on (R180). -/
theorem State.portLeft_misses {r : VerifyRec} (hr : s.frameRun = .verify r) (hi : s.tileOfPort p = some i)
    (hout : Mask.has r.outstanding i = true) (hopen : r.outstanding &&& ~~~bitOf i ≠ 0 ∨ r.reports ≠ []) :
    (s.portLeft p).frameRun = .verify (r.miss i) := by
  rw [State.portLeft_of_verify hr hi hout]
  generalize hw : State.modPort { s with frameRun := .verify (r.miss i) } p (fun x => x.dropQueued (Reliable.isCheckOf r.serial)) = w
  have hrun : w.frameRun = .verify (r.miss i) := by
    rw [← hw]
    rfl
  rw [State.settleVerify_of_open (State.verify_of_frameRun hrun) fun h => hopen.elim (· h.1) (· h.2)]
  exact hrun

/-- What waits when the targets have been left behind (R100, R123, R180). -/
theorem State.queue_portLeft : ((s.portLeft p).port p).queue = (s.port p).queue.filter fun k => !s.gone p k := by
  have hall {f : Reliable → Bool} (hf : f = fun _ => false) : (s.port p).queue = (s.port p).queue.filter fun k => !f k := by
    rw [hf]
    exact (List.filter_eq_self.mpr fun _ _ => rfl).symm
  have hdropped (x : FrameRun) (f : Reliable → Bool) :
      ((State.modPort { s with frameRun := x } p fun y => y.dropQueued f).port p).queue = (s.port p).queue.filter fun k => !f k :=
    congrArg Port.queue (State.port_modPort_self { s with frameRun := x } p fun y => y.dropQueued f)
  cases hlut : s.lut with
  | some r =>
    have hr := State.lut_eq_some.mp hlut
    rw [State.gone_of_lut hr]
    cases hi : s.tileOfPort p with
    | none =>
      rw [State.portLeft_of_none hi]
      exact hall (funext fun k => by rw [State.serves_of_none hi]; rfl)
    | some i =>
      rw [State.serves_of_tile hi]
      cases hout : Mask.has r.outstanding i with
      | false =>
        rw [State.portLeft_of_tile hi, State.lutSkip_of_other hr hout, State.verifyMiss_of_none (State.verify_of_lut hr)]
        exact hall rfl
      | true =>
        rw [State.portLeft_of_lut hr hi hout]
        exact (congrArg Port.queue (State.port_of_ports (State.ports_settleLut _) p)).trans (hdropped _ _)
  | none =>
    cases hverify : s.verify with
    | none =>
      rw [State.portLeft_of_other hlut hverify]
      exact hall (State.gone_of_other hlut hverify)
    | some r =>
      have hr := State.verify_eq_some.mp hverify
      rw [State.gone_of_verify hr]
      cases hi : s.tileOfPort p with
      | none =>
        rw [State.portLeft_of_none hi]
        exact hall (funext fun k => by rw [State.serves_of_none hi]; rfl)
      | some i =>
        rw [State.serves_of_tile hi]
        cases hout : Mask.has r.outstanding i with
        | false =>
          rw [State.portLeft_of_tile hi, State.lutSkip_of_none hlut, State.verifyMiss_of_other hr hout]
          exact hall rfl
        | true =>
          rw [State.portLeft_of_verify hr hi hout]
          exact (congrArg Port.queue (State.port_of_ports (State.ports_settleVerify _) p)).trans (hdropped _ _)

end

/-! ## Into LISTEN (R78, R89) -/

section
variable (s : State) (p : PortId)

/-- A port that has entered LISTEN, before its targets are left behind (R78). -/
def State.heeding : State := s.modPort p Port.listening

theorem State.enterListen_eq : s.enterListen p = (s.heeding p).portLeft p := rfl

theorem State.heeding_port : (s.heeding p).port p = (s.port p).listening := s.port_modPort_self p Port.listening

theorem State.queue_enterListen : ((s.enterListen p).port p).queue = (s.port p).queue.filter fun k => !s.gone p k := by
  have hgone : (s.heeding p).gone p = s.gone p := State.gone_congr (State.tileOfPort_of_tiles rfl p) rfl
  rw [State.enterListen_eq, State.queue_portLeft, hgone, State.heeding_port]
  rfl

theorem State.buf_enterListen {b : BufId} (h : (s.port p).buf b = .free) : ((s.enterListen p).port p).buf b = .free := by
  rw [State.enterListen_eq]
  refine State.holds_portLeft (P := fun x => x.buf b = .free) (fun x f => (Port.tended_free b 0).drop x f) ?_
  rw [State.heeding_port]
  cases b <;> exact h

end

/-! ## Into LOST (R93) -/

section
variable (s : State) (p : PortId)

/-- A port that has entered LOST, before its tile's work hears of it (R93). -/
def State.forsaken (c : LostCause) : State := ((s.raiseTile.modPort p fun x => x.givenUp c).flushPort p).portLeft p

theorem State.tiles_forsaken (c : LostCause) : (s.forsaken p c).tiles = s.tiles :=
  State.tiles_of_anywhere (State.anywhere_of_elsewhere ((State.elsewhere_portLeft _ p).trans
    ((State.elsewhere_flushPort _ p).trans (State.elsewhere_modPort s.raiseTile p _))))

theorem State.enterLost_of_none (hi : s.tileOfPort p = none) (c : LostCause) : s.enterLost p c = s.forsaken p c := by
  have hnone : (s.forsaken p c).tileOfPort p = none := (State.tileOfPort_of_tiles (s.tiles_forsaken p c) p).trans hi
  unfold State.forsaken at hnone
  unfold State.enterLost
  dsimp only
  unfold Port.givenUp at hnone
  rw [hnone]
  rfl

theorem State.enterLost_of_tile {i : TileId} (hi : s.tileOfPort p = some i) (c : LostCause) :
    s.enterLost p c = (s.forsaken p c).lostTile i := by
  have hsome : (s.forsaken p c).tileOfPort p = some i := (State.tileOfPort_of_tiles (s.tiles_forsaken p c) p).trans hi
  unfold State.forsaken at hsome
  unfold State.enterLost
  dsimp only
  unfold Port.givenUp at hsome
  rw [hsome]
  rfl

/-- The port is empty (R93). -/
theorem State.port_forsaken (c : LostCause) : ((s.forsaken p c).port p).queue = [] ∧ ∀ b, ((s.forsaken p c).port p).buf b = .free := by
  have hflushed : ((s.raiseTile.modPort p fun x => x.givenUp c).flushPort p).port p = ((s.port p).givenUp c).flush :=
    (State.port_flushPort p).trans (congrArg Port.flush (State.port_modPort_self s.raiseTile p _))
  refine State.holds_portLeft (P := fun x => x.queue = [] ∧ ∀ b, x.buf b = .free) (fun x f ⟨hqueue, hfree⟩ => ⟨?_, fun b => ?_⟩) ?_
  · show x.queue.filter _ = []
    rw [hqueue]
    rfl
  · exact (Port.tended_free b 0).drop x f (hfree b)
  · rw [hflushed]
    exact ⟨Port.queue_flush _, Port.free_flush _⟩

/-- The epoch of the scene stays (R56). -/
theorem State.epoch_of_bare {t : State} (h : t.frameRun.bare = s.frameRun.bare) : t.scene.map SceneRec.epoch = s.scene.map SceneRec.epoch := by
  cases hs : s.scene with
  | some r =>
    obtain ⟨f, c, ht⟩ := FrameRun.bare_scene (r := r) (by rw [h, State.scene_eq_some.mp hs])
    rw [State.scene_eq_some.mpr ht]
    rfl
  | none =>
    cases ht : t.scene with
    | none => rfl
    | some r =>
      obtain ⟨f, c, hs'⟩ := FrameRun.bare_scene (r := r) (by rw [← h, State.scene_eq_some.mp ht])
      exact nomatch hs.symm.trans (State.scene_eq_some.mpr hs')

theorem State.epoch_forsaken (c : LostCause) : (s.forsaken p c).scene.map SceneRec.epoch = s.scene.map SceneRec.epoch := by
  unfold State.forsaken
  rw [State.scene_portLeft]
  exact State.epoch_of_bare s (State.bare_flushPort p)

theorem State.buf_enterLost (c : LostCause) (b : BufId) : ((s.enterLost p c).port p).buf b = .free := by
  have hfree := (s.port_forsaken p c).2 b
  cases hi : s.tileOfPort p with
  | none =>
    rw [s.enterLost_of_none p hi]
    exact hfree
  | some i =>
    rw [s.enterLost_of_tile p hi]
    exact State.buf_lostTile hfree

/-- Of a port that enters LOST the queue holds nothing but a DISCARD of the scene's epoch (R48, R56, R93). -/
theorem State.emptied_enterLost (c : LostCause) (hone : ∀ k : TileId, (s.tile k).geom.port = some p → s.tileOfPort p = some k) :
    ((s.enterLost p c).port p).Emptied (s.scene.map SceneRec.epoch) := by
  have hempty := (s.port_forsaken p c).1
  cases hi : s.tileOfPort p with
  | none =>
    rw [s.enterLost_of_none p hi]
    intro k hk
    rw [hempty] at hk
    cases hk
  | some i =>
    rw [s.enterLost_of_tile p hi, ← s.epoch_forsaken p c]
    refine State.emptied_lostTile hempty fun k hk => ?_
    rw [State.tile_of_tiles (s.tiles_forsaken p c)] at hk
    exact Option.some.inj ((hone k hk).symm.trans hi)

end

/-! ## What holds however UP is left -/

/-- The stream of the port is cleared, and no LINK_TEST is in flight on it (R88). -/
def Port.Unstreamed (x : Port) : Prop := x.window = [] ∧ x.run = [] ∧ x.ackTimer = none ∧ x.holdTimer = none ∧ x.test = none

theorem Port.unstreamed_leftUp (x : Port) : x.leftUp.Unstreamed := ⟨rfl, rfl, rfl, rfl, rfl⟩

theorem Port.Unstreamed.listening {x : Port} (h : x.Unstreamed) : x.listening.Unstreamed := by
  obtain ⟨hwindow, hrun, -, -, htest⟩ := h
  exact ⟨hwindow, hrun, rfl, rfl, htest⟩

theorem Port.Unstreamed.givenUp {x : Port} (h : x.Unstreamed) (c : LostCause) : (x.givenUp c).Unstreamed := by
  obtain ⟨-, hrun, -, -, htest⟩ := h
  exact ⟨rfl, hrun, rfl, rfl, htest⟩

theorem Port.Unstreamed.failed {x : Port} (h : x.Unstreamed) (c : Policy) : (x.failed c).Unstreamed := by
  obtain ⟨hwindow, hrun, -, -, htest⟩ := h
  unfold Port.failed
  split
  · exact ⟨hwindow, hrun, rfl, rfl, htest⟩
  · split
    · exact ⟨rfl, hrun, rfl, rfl, htest⟩
    · exact ⟨hwindow, hrun, rfl, rfl, htest⟩

/-- What O45 asks of every exit from UP (R88, R107, R178). -/
def State.HasLeft (s : State) (p : PortId) (t : State) : Prop :=
  (t.port p).window = [] ∧ (t.port p).run = [] ∧ (t.port p).ackTimer = none ∧ (t.port p).holdTimer = none ∧ (t.port p).test = none ∧
    (t.port p).bufA = .free ∧ (t.port p).bufB = .free ∧ t.causes.tile = true ∧
    ∀ k j, (s.port p).test = some k → s.findJob k.job = some j → j.result = none → t.outcomeOf k.job = some .tileLost

theorem State.hasLeft {s u t : State} {p : PortId} (hjobs : u.jobs = s.jobs) (htest : (u.port p).test = (s.port p).test) {y : Port}
    (hcleared : y.Unstreamed) (hspine : (t.port p).spine = y.spine) (hfree : ∀ b, (t.port p).buf b = .free) (hcauses : t.causes.tile = true)
    {a : Word} (hspares : (u.exitUp p).Spares a t) : s.HasLeft p t := by
  have hfield {α} (f : Port → α) := congrArg f hspine
  obtain ⟨hwindow, hrun, hack, hhold, hnone⟩ := hcleared
  refine ⟨(hfield Port.window).trans hwindow, (hfield Port.run).trans hrun, (hfield Port.ackTimer).trans hack,
    (hfield Port.holdTimer).trans hhold, (hfield Port.test).trans hnone, hfree .first, hfree .second, hcauses, fun k j hk hfind hresult => ?_⟩
  refine hspares.outcomeOf (State.tileLost_exitUp (htest.trans hk) ?_ hresult)
  unfold State.findJob at hfind ⊢
  rw [hjobs]
  exact hfind

end Sys2Proof.Machine

/-! O45, the three commands that leave UP (R53, R84, R89–R91, R107, R113, R123, R180). -/
namespace Sys2Proof.Machine

/-! ## Silence (R89) -/

section
variable {s : State} {p : PortId}

/-- The RUNNING frame job where the LINK_TEST that ends is not its own. -/
theorem State.running_exitUp {j : Job} (hj : s.running .frame = some j) (hfind : s.findJob j.addr = some j)
    (htest : ∀ k, (s.port p).test = some k → k.job ≠ j.addr) :
    (s.exitUp p).running .frame = some j ∧ (s.exitUp p).findJob j.addr = some j := by
  obtain ⟨-, -, -, hjobs⟩ := s.exitUp_keeps p
  unfold State.testHanded at hjobs
  cases hk : (s.port p).test with
  | none =>
    rw [hk] at hjobs
    unfold State.running State.findJob at *
    rw [hjobs]
    exact ⟨hj, hfind⟩
  | some k =>
    rw [hk] at hjobs
    have hne := htest k hk
    obtain ⟨hkeeps, hother⟩ := handsOnly_hand k.job (plainResult .tileLost k.detail)
    refine ⟨State.running_of_map hjobs (fun m => (hkeeps m).2) hj (hother j (Ne.symm hne)), ?_⟩
    rw [State.findJob_of_map hjobs (fun m => (hkeeps m).1), hfind]
    exact congrArg some (hother j (Ne.symm hne))

/-- A port that has fallen silent (R89). -/
def Port.unheard (x : Port) : Port := { x with ind := { x.ind with syncLost := true } }

/-- The state in which a silent port has entered LISTEN, before the tile's picture is blanked (R6, R89). -/
def State.silenced (s : State) (p : PortId) : State :=
  ((s.setPort p (s.port p).unheard).exitUp p).enterListen p

theorem State.tiles_silenced : (s.silenced p).tiles = s.tiles := by
  have hexit := State.tiles_of_anywhere (State.anywhere_of_elsewhere (State.elsewhere_exitUp (s.setPort p (s.port p).unheard) p))
  have hlisten := State.tiles_of_anywhere (State.anywhere_of_elsewhere (State.elsewhere_enterListen
    ((s.setPort p (s.port p).unheard).exitUp p) p))
  exact hlisten.trans hexit

theorem State.fallSilent_of_tile {i : TileId} (hi : s.tileOfPort p = some i) : s.fallSilent p = (s.silenced p).blankFront i := by
  have hsome : (s.silenced p).tileOfPort p = some i := (State.tileOfPort_of_tiles State.tiles_silenced p).trans hi
  unfold State.fallSilent
  dsimp only
  rw [State.modPort_eq]
  split
  · next h => exact nomatch hsome.symm.trans h
  · next t h =>
    rw [Option.some.inj (h.symm.trans hsome)]
    rfl

theorem State.fallSilent_of_none (hi : s.tileOfPort p = none) : s.fallSilent p = s.silenced p := by
  have hnone : (s.silenced p).tileOfPort p = none := (State.tileOfPort_of_tiles State.tiles_silenced p).trans hi
  unfold State.fallSilent
  dsimp only
  rw [State.modPort_eq]
  split
  · rfl
  · next t h => exact nomatch hnone.symm.trans h

theorem State.fallSilent_keeps : (s.fallSilent p).ports = (s.silenced p).ports ∧ (s.fallSilent p).frameRun = (s.silenced p).frameRun ∧
    (s.fallSilent p).causes = (s.silenced p).causes ∧ (s.fallSilent p).jobs = (s.silenced p).jobs := by
  cases hi : s.tileOfPort p with
  | none =>
    rw [State.fallSilent_of_none hi]
    exact ⟨rfl, rfl, rfl, rfl⟩
  | some i =>
    rw [State.fallSilent_of_tile hi]
    obtain ⟨hports, hrun, hcauses, hjobs, -⟩ := (s.silenced p).blankFront_keeps i
    exact ⟨hports, hrun, hcauses, hjobs⟩

/-- The port that has fallen silent. -/
theorem State.port_silenced : ((s.silenced p).port p).spine =
      (s.port p).unheard.leftUp.listening.spine ∧
    ((s.silenced p).port p).queue = (s.port p).waiting.filter (fun k => !s.gone p k) ∧
    (∀ b, ((s.silenced p).port p).buf b = .free) ∧ (s.silenced p).causes.tile = true := by
  unfold State.silenced
  generalize hu : s.setPort p (s.port p).unheard = u
  have hport : u.port p = (s.port p).unheard := by
    rw [← hu, State.port_setPort_self]
  have hgone : u.gone p = s.gone p := by
    rw [← hu]
    exact State.gone_congr (State.tileOfPort_of_tiles rfl p) rfl
  obtain ⟨hqueue, hfree, hbare, -⟩ := u.exitUp_keeps p
  have htile := State.tileOfPort_of_tiles (State.tiles_of_anywhere (State.anywhere_of_elsewhere (State.elsewhere_exitUp u p))) p
  refine ⟨?_, ?_, fun b => State.buf_enterListen _ p (hfree b), ?_⟩
  · rw [State.spine_enterListen, ← hport]
    exact Port.congr_spine (g := fun x => x.listening.spine) (fun _ => rfl) (u.spine_exitUp p)
  · rw [State.queue_enterListen, hqueue, State.gone_congr htile hbare, hgone, hport]
    rfl
  · rw [State.causes_enterListen, State.causes_exitUp]

theorem State.hasLeft_fallSilent : s.HasLeft p (s.fallSilent p) := by
  obtain ⟨hports, hrun, hcauses, hjobs⟩ := State.fallSilent_keeps (s := s) (p := p)
  obtain ⟨hspine, -, hfree, htile⟩ := State.port_silenced (s := s) (p := p)
  have hport := State.port_of_ports hports p
  have hspares : (State.exitUp (s.setPort p (s.port p).unheard) p).Spares 0 (s.fallSilent p) :=
    State.Spares.then (State.spares_enterListen 0 _ p) (Prod.ext hjobs (congrArg FrameRun.kind hrun))
  rw [← hport] at hspine hfree
  rw [← hcauses] at htile
  have htest : ((s.setPort p (s.port p).unheard).port p).test = (s.port p).test := by
    rw [State.port_setPort_self]
    rfl
  exact State.hasLeft (u := s.setPort p (s.port p).unheard) rfl htest (Port.unstreamed_leftUp _).listening hspine hfree htile hspares

section
variable {i : TileId} (hi : s.tileOfPort p = some i)
include hi

/-- A LUT_LOAD skips the tile of a port that falls silent (R123). -/
theorem State.silenced_skips {r : LutRec} (hr : s.frameRun = .lut r) (hout : Mask.has r.outstanding i = true) :
    (r.outstanding &&& ~~~bitOf i ≠ 0 → ∃ u, (s.silenced p).frameRun = .lut u ∧ u.skipped = r.skipped ||| bitOf i ∧ u.acked = r.acked ∧
      u.outstanding = r.outstanding &&& ~~~bitOf i) ∧
    (r.outstanding &&& ~~~bitOf i = 0 → ∀ j, s.running .frame = some j → s.findJob j.addr = some j →
      (∀ k, (s.port p).test = some k → k.job ≠ j.addr) →
      (s.silenced p).outcomeOf j.addr = some (if r.acked = 0 then .tileLost else .partialOk)) := by
  unfold State.silenced
  generalize hu : s.setPort p (s.port p).unheard = u
  have hurun : u.frameRun = .lut r := by rw [← hu]; exact hr
  have hui : u.tileOfPort p = some i := by rw [← hu]; exact hi
  have hutest : (u.port p).test = (s.port p).test := by
    rw [← hu, State.port_setPort_self]
    rfl
  have hujobs : (∀ l, u.running l = s.running l) ∧ ∀ a, u.findJob a = s.findJob a := by
    rw [← hu]
    exact ⟨fun _ => rfl, fun _ => rfl⟩
  obtain ⟨-, -, hbare, -⟩ := u.exitUp_keeps p
  rw [hurun] at hbare
  obtain ⟨f, hv⟩ := FrameRun.bare_lut hbare
  have hvi := (State.tileOfPort_of_tiles (State.tiles_of_anywhere (State.anywhere_of_elsewhere (State.elsewhere_exitUp u p))) p).trans hui
  obtain ⟨hopen, hdone⟩ := State.portLeft_skips (s := (u.exitUp p).heeding p) hv hvi hout
  refine ⟨fun hout => ⟨_, hopen hout, rfl, rfl, rfl⟩, fun hnone j hj hfind htest => ?_⟩
  obtain ⟨hvj, hvfind⟩ := State.running_exitUp (s := u) (p := p) ((hujobs.1 _).trans hj) ((hujobs.2 _).trans hfind)
    fun k hk => htest k (hutest ▸ hk)
  exact hdone hnone j hvj hvfind

/-- A VERIFY leaves the tile of a port that falls silent UNCHECKED (R180). -/
theorem State.silenced_misses {r : VerifyRec} (hr : s.frameRun = .verify r) (hout : Mask.has r.outstanding i = true)
    (hopen : r.outstanding &&& ~~~bitOf i ≠ 0 ∨ r.reports ≠ []) : (s.silenced p).frameRun = .verify (r.miss i) := by
  unfold State.silenced
  generalize hu : s.setPort p (s.port p).unheard = u
  have hurun : u.frameRun = .verify r := by rw [← hu]; exact hr
  have hui : u.tileOfPort p = some i := by rw [← hu]; exact hi
  have hvi := (State.tileOfPort_of_tiles (State.tiles_of_anywhere (State.anywhere_of_elsewhere (State.elsewhere_exitUp u p))) p).trans hui
  exact State.portLeft_misses (s := (u.exitUp p).heeding p) (State.frameRun_exitUp_of_verify hurun p) hvi hout hopen

end
end

end Sys2Proof.Machine

/-! O45, the retries that are spent and the tally that is full (R84, R90, R91, R93, R107, R113, R180). -/
namespace Sys2Proof.Machine

/-! ## A failed attempt (R84) -/

section
variable (s : State) (p : PortId)

theorem State.ports_noteDownshift : (s.noteDownshift p).ports = s.ports := by
  unfold State.noteDownshift
  split
  · rfl
  · dsimp only
    rw [State.ports_modVerify, State.ports_modLut, State.ports_modScene]

theorem State.ports_noteRetrain : (s.noteRetrain p).ports = s.ports := by
  unfold State.noteRetrain
  split
  · split
    · rfl
    · exact s.ports_modVerify _
  · rfl

theorem State.tiles_modLut (f : LutRec → LutRec) : (s.modLut f).tiles = s.tiles := by
  unfold State.modLut
  split <;> rfl

theorem State.tiles_modVerify (f : VerifyRec → VerifyRec) : (s.modVerify f).tiles = s.tiles := by
  unfold State.modVerify
  split <;> rfl

theorem State.tiles_noteDownshift : (s.noteDownshift p).tiles = s.tiles := by
  unfold State.noteDownshift
  split
  · rfl
  · dsimp only
    rw [State.tiles_modVerify, State.tiles_modLut, State.tiles_modScene]

theorem State.tiles_noteResent (k : Reliable) : (s.noteResent p k).tiles = s.tiles := by
  unfold State.noteResent State.noteCheck State.noteTable
  dsimp only
  rw [State.tiles_modVerify, State.tiles_modLut]
  split
  · rfl
  · exact State.tiles_modScene _ _

/-- DOWNSHIFTED of a VERIFY that has the tile among its targets (R180). -/
theorem State.noteDownshift_of_verify {r : VerifyRec} (hr : s.frameRun = .verify r) : (s.noteDownshift p).frameRun =
    .verify { r with flags := { r.flags with downshifted := r.flags.downshifted || s.serves p (Mask.has r.targets) } } := by
  unfold State.noteDownshift
  cases hi : s.tileOfPort p with
  | none =>
    rw [State.serves_of_none hi, Bool.or_false]
    exact hr
  | some i =>
    rw [State.serves_of_tile hi]
    unfold State.modScene State.modLut State.modVerify
    simp only [hr]
    cases Mask.has r.targets i with
    | false =>
      rw [Bool.or_false]
      rfl
    | true =>
      rw [Bool.or_true]
      rfl

/-- RETRIED of a VERIFY that has the tile of a port that trains outstanding (R180). -/
theorem State.noteRetrain_of_train {r : VerifyRec} (hr : s.frameRun = .verify r) (hlink : (s.port p).link = .train) :
    (s.noteRetrain p).frameRun =
      .verify { r with flags := { r.flags with retried := r.flags.retried || s.serves p (Mask.has r.outstanding) } } := by
  rw [State.noteRetrain_of_verify hr]
  cases hi : s.tileOfPort p with
  | none =>
    rw [State.serves_of_none hi, Bool.or_false, if_neg fun h => ?_]
    obtain ⟨-, t, ht, -⟩ := h
    cases ht
  | some i =>
    rw [State.serves_of_tile hi]
    cases hout : Mask.has r.outstanding i with
    | false =>
      rw [Bool.or_false, if_neg fun h => ?_]
      obtain ⟨-, t, ht, hhas⟩ := h
      cases ht
      exact Bool.noConfusion (hout.symm.trans hhas)
    | true =>
      rw [Bool.or_true, if_pos ⟨hlink, i, rfl, hout⟩]
      rfl

theorem State.jobRun_noteDownshift : (s.noteDownshift p).jobRun = s.jobRun := by
  unfold State.noteDownshift
  split
  · rfl
  · simp

theorem Port.buf_training (x : Port) (g : Grade) (limit : Nat) (b : BufId) : (x.training g limit).buf b = x.buf b := by cases b <;> rfl

/-- What every failed attempt leaves of the buffers and of the jobs. -/
theorem State.countFailure_keeps (hfree : ∀ b, (s.port p).buf b = .free) (a : Word) :
    (∀ b, ((s.countFailure p).port p).buf b = .free) ∧ s.Spares a (s.countFailure p) := by
  by_cases hmore : (s.port p).attempts + 1 < s.policy.downshift
  · rw [s.countFailure_again p hmore]
    refine ⟨fun b => ?_, State.spares_of_jobRun (by simp only [State.jobRun_beginAttempt, State.jobRun_modPort])⟩
    rw [State.port_beginAttempt, Port.buf_training, State.port_modPort_self]
    exact (by cases b <;> rfl : _ = (s.port p).buf b).trans (hfree b)
  · cases hg : (s.port p).grade.down with
    | none =>
      rw [s.countFailure_lost p (Nat.not_lt.mp hmore) hg]
      exact ⟨fun b => State.buf_enterLost _ p _ b,
        State.Spares.trans (State.spares_of_jobRun (s.jobRun_modPort p _)) (State.spares_enterLost a _ p _)⟩
    | some g =>
      rw [s.countFailure_down p (Nat.not_lt.mp hmore) hg]
      refine ⟨fun b => ?_, State.spares_of_jobRun ?_⟩
      · rw [State.port_beginAttempt, Port.buf_training, State.port_of_ports (State.ports_noteDownshift _ p), State.port_modPort_self,
          State.port_modPort_self]
        exact (by cases b <;> rfl : _ = (s.port p).buf b).trans (hfree b)
      · simp only [State.jobRun_beginAttempt, State.jobRun_noteDownshift, State.jobRun_modPort]

end

/-! ## Retries that are spent (R90, R107) -/

section
variable (s : State) (p : PortId)

/-- The state in which a port whose retries are spent has left UP (R90). -/
def State.spent : State := (s.modPort p Port.countRetrain).exitUp p

theorem State.exhaust_eq : s.exhaust p = ((s.spent p).countFailure p).noteRetrain p := rfl

/-- What the failed attempt finds (R90, R107). -/
theorem State.spent_keeps : ((s.spent p).port p).attempts = (s.port p).attempts ∧ ((s.spent p).port p).grade = (s.port p).grade ∧
    ((s.spent p).port p).queue = (s.port p).waiting ∧ (∀ b, ((s.spent p).port p).buf b = .free) ∧ (s.spent p).tiles = s.tiles ∧
    (s.spent p).policy = s.policy ∧ (s.spent p).scene.map SceneRec.epoch = s.scene.map SceneRec.epoch := by
  obtain ⟨hqueue, hfree, hbare, -⟩ := (s.modPort p Port.countRetrain).exitUp_keeps p
  have hspine := (s.modPort p Port.countRetrain).spine_exitUp p
  have hanywhere := State.anywhere_of_elsewhere (State.elsewhere_exitUp (s.modPort p Port.countRetrain) p)
  rw [State.port_modPort_self] at hqueue hspine
  have htiles := State.tiles_of_anywhere hanywhere
  have hpolicy := State.policy_of_anywhere hanywhere
  have hepoch := State.epoch_of_bare (s.modPort p Port.countRetrain) hbare
  unfold State.spent
  generalize (s.modPort p Port.countRetrain).exitUp p = v at *
  generalize v.port p = y at *
  have hattempts : y.attempts = (s.port p).attempts := (congrArg Port.attempts hspine : _)
  have hgrade : y.grade = (s.port p).grade := (congrArg Port.grade hspine : _)
  exact ⟨hattempts, hgrade, hqueue, hfree, htiles, hpolicy, hepoch⟩

theorem State.hasLeft_exhaust : s.HasLeft p (s.exhaust p) := by
  obtain ⟨-, -, -, hfree, -⟩ := s.spent_keeps p
  obtain ⟨hfreed, hspares⟩ := (s.spent p).countFailure_keeps p hfree 0
  have hcauses := (s.exhaust_port p).2.2.2.1
  have htest : ((s.modPort p Port.countRetrain).port p).test = (s.port p).test := by
    rw [State.port_modPort_self]
    rfl
  have hports := ((s.spent p).countFailure p).ports_noteRetrain p
  refine State.hasLeft (u := s.modPort p Port.countRetrain) rfl htest ((Port.unstreamed_leftUp _).failed s.policy) (s.spine_exhaust p)
    (fun b => ?_) hcauses (hspares.then (State.jobRun_noteRetrain _ p))
  rw [State.exhaust_eq, State.port_of_ports hports]
  exact hfreed b

theorem State.exhaust_again (h : (s.port p).attempts + 1 < s.policy.downshift) : ((s.exhaust p).port p).link = .train ∧
    ((s.exhaust p).port p).grade = (s.port p).grade ∧ ((s.exhaust p).port p).attempts = (s.port p).attempts + 1 ∧
    ((s.exhaust p).port p).queue = (s.port p).waiting ∧ (∀ r, s.frameRun = .verify r → (s.exhaust p).frameRun =
      .verify { r with flags := { r.flags with retried := r.flags.retried || s.serves p (Mask.has r.outstanding) } }) := by
  obtain ⟨hattempts, hgrade, hqueue, -, htiles, hpolicy, -⟩ := s.spent_keeps p
  have hverify (r : VerifyRec) (hr : s.frameRun = .verify r) : (s.spent p).frameRun = .verify r :=
    State.frameRun_exitUp_of_verify (s := s.modPort p Port.countRetrain) hr p
  have hserves := State.serves_congr (State.tileOfPort_of_tiles htiles p)
  rw [State.exhaust_eq]
  generalize s.spent p = v at *
  rw [v.countFailure_again p (by rw [hattempts, hpolicy]; exact h)]
  generalize hw : (v.modPort p fun x => { x with attempts := (v.port p).attempts + 1 }) = w
  have hwport : w.port p = { v.port p with attempts := (v.port p).attempts + 1 } := by
    rw [← hw, State.port_modPort_self]
  have hport : (((w.beginAttempt p (v.port p).grade).noteRetrain p).port p) = (w.port p).training (v.port p).grade w.policy.train := by
    rw [State.port_of_ports (State.ports_noteRetrain _ p), State.port_beginAttempt]
  rw [hport, hwport]
  refine ⟨rfl, hgrade, congrArg (· + 1) hattempts, hqueue, fun r hr => ?_⟩
  have hwrun : (w.beginAttempt p (v.port p).grade).frameRun = .verify r := by
    rw [← hw]
    exact hverify r hr
  have hwserves : (w.beginAttempt p (v.port p).grade).serves p = v.serves p := by
    rw [← hw]
    exact State.serves_congr (State.tileOfPort_of_tiles rfl p)
  rw [State.noteRetrain_of_train _ p hwrun (by rw [State.port_beginAttempt]; rfl), hwserves, hserves]

theorem State.exhaust_down (h : s.policy.downshift ≤ (s.port p).attempts + 1) {g : Grade} (hg : (s.port p).grade.down = some g) :
    ((s.exhaust p).port p).link = .train ∧ ((s.exhaust p).port p).grade = g ∧ ((s.exhaust p).port p).attempts = 0 ∧
    ((s.exhaust p).port p).ind.downshifted = true ∧ ((s.exhaust p).port p).queue = (s.port p).waiting ∧
    (∀ r, s.frameRun = .verify r → (s.exhaust p).frameRun = .verify { r with flags := { r.flags with
      retried := r.flags.retried || s.serves p (Mask.has r.outstanding)
      downshifted := r.flags.downshifted || s.serves p (Mask.has r.targets) } }) := by
  obtain ⟨hattempts, hgrade, hqueue, -, htiles, hpolicy, -⟩ := s.spent_keeps p
  have hverify (r : VerifyRec) (hr : s.frameRun = .verify r) : (s.spent p).frameRun = .verify r :=
    State.frameRun_exitUp_of_verify (s := s.modPort p Port.countRetrain) hr p
  rw [State.exhaust_eq]
  generalize s.spent p = v at *
  rw [v.countFailure_down p (by rw [hattempts, hpolicy]; exact h) (hgrade ▸ hg)]
  generalize hw : ((v.modPort p fun x => { x with attempts := (v.port p).attempts + 1 }).modPort p fun x => { x with
    attempts := 0
    ind := { x.ind with downshifted := true }
    ctr := { x.ctr with downshifts := satInc x.ctr.downshifts } }) = w
  have hwport : (w.port p).attempts = 0 ∧ (w.port p).ind.downshifted = true ∧ (w.port p).queue = (v.port p).queue := by
    rw [← hw, State.port_modPort_self, State.port_modPort_self]
    exact ⟨rfl, rfl, rfl⟩
  have hwserves : w.serves p = s.serves p := by
    refine State.serves_congr (State.tileOfPort_of_tiles ?_ p)
    rw [← hw]
    exact htiles
  obtain ⟨hzero, hdown, hwqueue⟩ := hwport
  have hnoted := State.port_of_ports (w.ports_noteDownshift p) p
  have hport : ((((w.noteDownshift p).beginAttempt p g).noteRetrain p).port p) = (w.port p).training g (w.noteDownshift p).policy.train := by
    rw [State.port_of_ports (State.ports_noteRetrain _ p), State.port_beginAttempt, hnoted]
  rw [hport]
  refine ⟨rfl, rfl, hzero, hdown, hwqueue.trans hqueue, fun r hr => ?_⟩
  have hwrun : w.frameRun = .verify r := by
    rw [← hw]
    exact hverify r hr
  have hdownRun : ((w.noteDownshift p).beginAttempt p g).frameRun = _ := w.noteDownshift_of_verify p hwrun
  have hdownServes : ((w.noteDownshift p).beginAttempt p g).serves p = w.serves p :=
    State.serves_congr (State.tileOfPort_of_tiles (s := w) (t := (w.noteDownshift p).beginAttempt p g) (w.tiles_noteDownshift p) p)
  rw [State.noteRetrain_of_train _ p hdownRun (by rw [State.port_beginAttempt]; rfl), hdownServes, hwserves]

theorem State.exhaust_lost (h : s.policy.downshift ≤ (s.port p).attempts + 1) (hg : (s.port p).grade = .l1) :
    ((s.exhaust p).port p).link = .lost ∧ ((s.exhaust p).port p).lostCause = some .trainExhausted ∧
    ((∀ k : TileId, (s.tile k).geom.port = some p → s.tileOfPort p = some k) →
      ((s.exhaust p).port p).Emptied (s.scene.map SceneRec.epoch)) := by
  obtain ⟨hattempts, hgrade, -, -, htiles, hpolicy, hepoch⟩ := s.spent_keeps p
  rw [State.exhaust_eq, State.port_of_ports (State.ports_noteRetrain _ p), ← hepoch]
  generalize s.spent p = v at *
  rw [v.countFailure_lost p (by rw [hattempts, hpolicy]; exact h) (by rw [hgrade, hg]; rfl)]
  generalize hw : (v.modPort p fun x => { x with attempts := (v.port p).attempts + 1 }) = w
  have hwtiles : w.tiles = s.tiles := by
    rw [← hw]
    exact htiles
  have hwscene : w.scene = v.scene := by
    rw [← hw]
    rfl
  have hspine := w.spine_enterLost p .trainExhausted
  refine ⟨(congrArg Port.link hspine : _), (congrArg Port.lostCause hspine : _), fun hone => ?_⟩
  rw [← hwscene]
  refine w.emptied_enterLost p _ fun k hk => ?_
  rw [State.tileOfPort_of_tiles hwtiles]
  exact hone k (by rw [← State.tile_of_tiles hwtiles]; exact hk)

end

/-! ## The tally is full (R91, R113) -/

section
variable {s : State} {p : PortId} {n : Byte} {rest : List Byte} {o : Outstanding} (hfind : (s.port p).window.find? (fun k => k.number == n) = some o)
  (hintact : (s.port p).resendIntact o none = true) (htally : (s.port p).tally = 254)

/-- The retransmission that fills the tally has been counted (R113). -/
def State.saturated (s : State) (p : PortId) (n : Byte) (rest : List Byte) (k : Reliable) : State :=
  (s.setPort p (Port.countResend { s.port p with run := rest } n)).noteResent p k

theorem State.saturated_keeps (k : Reliable) : ((s.saturated p n rest k).port p).spine = (Port.countResend { s.port p with run := rest } n).spine ∧
    (s.saturated p n rest k).jobs = s.jobs ∧ (s.saturated p n rest k).tiles = s.tiles ∧
    (s.saturated p n rest k).scene.map SceneRec.epoch = s.scene.map SceneRec.epoch := by
  unfold State.saturated
  generalize hu : s.setPort p (Port.countResend { s.port p with run := rest } n) = u
  have hport : u.port p = Port.countResend { s.port p with run := rest } n := by rw [← hu, State.port_setPort_self]
  have hkeeps : u.jobs = s.jobs ∧ u.tiles = s.tiles ∧ u.scene = s.scene := by
    rw [← hu]
    exact ⟨rfl, rfl, rfl⟩
  obtain ⟨hjobs, htiles, hscene⟩ := hkeeps
  have hquiet := u.quiet_noteResent p k
  have htilesNoted := u.tiles_noteResent p k
  have hjobRun : (u.noteResent p k).jobRun = u.jobRun := by
    unfold State.noteResent
    dsimp only
    unfold State.noteCheck
    rw [State.jobRun_modVerify, State.jobRun_noteTable]
    split
    · rfl
    · exact State.jobRun_modScene _ _
  refine ⟨hport ▸ State.spine_of_quiet hquiet p, (Prod.mk.inj hjobRun).1.trans hjobs, htilesNoted.trans htiles, ?_⟩
  rw [State.epoch_of_bare u (State.bare_noteResent p k), hscene]

/-- The port whose tally is full is given up (R91, R93). -/
theorem State.saturated_lost (k : Reliable) :
    s.HasLeft p (((s.saturated p n rest k).exitUp p).enterLost p .tallySaturated) ∧
    ((((s.saturated p n rest k).exitUp p).enterLost p .tallySaturated).port p).spine =
      ((Port.countResend { s.port p with run := rest } n).leftUp.givenUp .tallySaturated).spine ∧
    ((∀ k : TileId, (s.tile k).geom.port = some p → s.tileOfPort p = some k) →
      ((((s.saturated p n rest k).exitUp p).enterLost p .tallySaturated).port p).Emptied (s.scene.map SceneRec.epoch)) := by
  obtain ⟨hspine, hjobs, htiles, hscene⟩ := State.saturated_keeps (s := s) (p := p) (n := n) (rest := rest) k
  have htest : ((s.saturated p n rest k).port p).test = (s.port p).test := (congrArg Port.test hspine : _)
  generalize s.saturated p n rest k = u at *
  obtain ⟨-, -, hbare, -⟩ := u.exitUp_keeps p
  have hexit := State.tiles_of_anywhere (State.anywhere_of_elsewhere (State.elsewhere_exitUp u p))
  have hlost : (((u.exitUp p).enterLost p .tallySaturated).port p).spine =
      ((Port.countResend { s.port p with run := rest } n).leftUp.givenUp .tallySaturated).spine := by
    rw [State.spine_enterLost]
    refine Port.congr_spine (g := fun x => (x.givenUp .tallySaturated).spine) (fun _ => rfl) ?_
    rw [State.spine_exitUp]
    exact Port.congr_spine (g := fun x => x.leftUp.spine) (fun _ => rfl) hspine
  have hcauses : ((u.exitUp p).enterLost p .tallySaturated).causes.tile = true := by rw [State.causes_enterLost]
  refine ⟨State.hasLeft hjobs htest ((Port.unstreamed_leftUp _).givenUp _) hlost (State.buf_enterLost _ p _) hcauses
    (State.spares_enterLost 0 _ p _), hlost, fun hone => ?_⟩
  rw [← hscene, ← State.epoch_of_bare u hbare]
  refine State.emptied_enterLost _ p _ fun m hm => ?_
  rw [State.tileOfPort_of_tiles (hexit.trans htiles)]
  exact hone m (by rw [← State.tile_of_tiles (hexit.trans htiles)]; exact hm)

include hfind hintact htally

theorem State.sendResend_saturates : s.sendResend p n rest none = ((s.saturated p n rest o.packet).exitUp p).enterLost p .tallySaturated := by
  have hport : (s.modPort p fun x => { x with run := rest }).port p = { s.port p with run := rest } := State.port_modPort_self s p _
  obtain ⟨hspine, -⟩ := State.saturated_keeps (s := s) (p := p) (n := n) (rest := rest) o.packet
  have hfull : ((s.saturated p n rest o.packet).port p).tally = 255 := by
    have h : ((s.saturated p n rest o.packet).port p).tally = (s.port p).tally + 1 := (congrArg Port.tally hspine : _)
    rw [h, htally]
  have hsame : ((s.modPort p fun x => { x with run := rest }).modPort p fun x => x.countResend n).noteResent p o.packet =
      s.saturated p n rest o.packet := by
    rw [State.modPort_modPort]
    rfl
  unfold State.sendResend
  dsimp only
  rw [hport]
  rw [hfind]
  dsimp only
  have hkept : Port.resendIntact { s.port p with run := rest } o none = true := hintact
  rw [if_neg (by rw [hkept]; decide), hsame]
  exact if_pos hfull

end

/-! ## The three commands -/

theorem exec_silence {s : State} {p : PortId} (hup : (s.port p).link = .up) (htimer : (s.port p).silenceTimer.isSome = true) :
    exec (.silence p) s = .next (s.fallSilent p).settle := if_pos ⟨hup, htimer⟩

theorem exec_retryExhaustion {s : State} {p : PortId} (hup : (s.port p).link = .up)
    (hspent : ∃ o ∈ (s.port p).window, s.policy.retryLimit ≤ o.retries) : exec (.retryExhaustion p) s = .next (s.exhaust p).settle := by
  have hretries : s.retriesSpent p = true := by
    unfold State.retriesSpent
    rw [hup, any_spent_iff.mpr hspent]
    rfl
  exact if_pos hretries

theorem exec_tallySaturation {s : State} {p : PortId} (hup : (s.port p).link = .up) {n : Byte} {rest : List Byte}
    (hrun : (s.port p).run = n :: rest) (hhold : (s.port p).holdTimer = none) (htally : (s.port p).tally = 254) :
    exec (.tallySaturation p) s = .next (s.sendResend p n rest none).settle := by
  show execTallySaturation p s = _
  unfold execTallySaturation
  dsimp only
  rw [hrun]
  exact if_pos ⟨hup, hhold, by rw [htally]; rfl⟩

/-- The scene's epoch, where only its DISCARD may wait. -/
theorem Port.discards_of_emptied {s : State} {x : Port} (h : x.Emptied (s.scene.map SceneRec.epoch)) :
    ∀ k ∈ x.queue, ∃ r, s.scene = some r ∧ k = .discard r.epoch := by
  intro k hk
  obtain ⟨e, he, rfl⟩ := h k hk
  obtain ⟨r, hr, rfl⟩ := Option.map_eq_some_iff.mp he
  exact ⟨r, hr, rfl⟩

theorem State.front_fallSilent {s : State} {p : PortId} {i : TileId} (hi : s.tileOfPort p = some i) :
    ((s.fallSilent p).tile i).back = (s.tile i).back ∧
    ((s.fallSilent p).tile i).front = if s.isMapped i && (s.tile i).geom.loss == .blank then 0 else (s.tile i).front := by
  have htile := State.tile_of_tiles (State.tiles_silenced (s := s) (p := p)) i
  have hmapped : (s.silenced p).isMapped i = s.isMapped i := by
    unfold State.isMapped
    rw [htile]
  rw [State.fallSilent_of_tile hi]
  unfold State.blankFront
  rw [hmapped, htile]
  split
  · rw [(State.besideTile_modTile (s.silenced p) i _).1, htile]
    exact ⟨rfl, rfl⟩
  · rw [htile]
    exact ⟨rfl, rfl⟩

/-- Settles O45: silence into LISTEN, spent retries into TRAIN or LOST, the full tally into LOST. -/
theorem upIsLeft : Obligations.UpIsLeft := by
  intro s p hup again mine gone emptied left
  have hmine (f : TileId → Bool) : mine f = s.serves p f := rfl
  have hemptied {t : State} (h : (∀ k : TileId, (s.tile k).geom.port = some p → s.tileOfPort p = some k) →
      (t.port p).Emptied (s.scene.map SceneRec.epoch)) : emptied t := fun hone => Port.discards_of_emptied (h hone)
  refine ⟨fun htimer => ⟨_, exec_silence hup htimer, State.hasLeft_fallSilent, ?_⟩,
    fun hspent => ⟨_, exec_retryExhaustion hup hspent, s.hasLeft_exhaust p, ?_⟩,
    fun n rest o hrun hhold htally hfind hintact => ⟨_, (exec_tallySaturation hup hrun hhold htally).trans
      (congrArg (fun t : State => Host.Outcome.next t.settle) (State.sendResend_saturates hfind hintact htally)), ?_⟩⟩
  · obtain ⟨hports, hframe, -, hjobs⟩ := State.fallSilent_keeps (s := s) (p := p)
    obtain ⟨hspine, hqueue, -, -⟩ := State.port_silenced (s := s) (p := p)
    have hport := State.port_of_ports hports p
    have houtcome (a : Word) : (s.fallSilent p).outcomeOf a = (s.silenced p).outcomeOf a := by
      unfold State.outcomeOf State.findJob
      rw [hjobs]
    rw [hport, hframe]
    have hfront (i : TileId) (hi : s.tileOfPort p = some i) := State.front_fallSilent hi
    have hfield : ((s.silenced p).port p).link = .listen ∧ ((s.silenced p).port p).beaconDue = true ∧
        ((s.silenced p).port p).ind = { (s.port p).ind with syncLost := true } ∧ ((s.silenced p).port p).ctr = (s.port p).ctr := by
      generalize (s.silenced p).port p = y at hspine
      exact ⟨(congrArg Port.link hspine : _), (congrArg Port.beaconDue hspine : _), (congrArg Port.ind hspine : _),
        (congrArg Port.ctr hspine : _)⟩
    obtain ⟨hlink, hbeacon, hind, hctr⟩ := hfield
    refine ⟨hlink, hbeacon, hind, hctr, hqueue.trans ?_, fun i r hi hr hout => ?_, fun i r hi hr hout hopen => State.silenced_misses hi hr hout hopen,
      hfront⟩
    · refine congrArg (fun f => List.filter f again) (funext fun k => congrArg (!·) ?_)
      unfold State.gone
      dsimp only [gone]
      cases s.frameRun <;> rfl
    · obtain ⟨hskips, hdone⟩ := State.silenced_skips hi hr hout
      refine ⟨hskips, fun hnone htest j hj hfind => (houtcome _).trans (hdone hnone j hj hfind fun k hk hjob => ?_)⟩
      obtain ⟨hmem, hlane, -⟩ := State.running_iff hj
      exact htest k hk j hmem hjob.symm hlane
  · obtain ⟨-, -, -, -, hretrains, -⟩ := s.exhaust_port p
    refine ⟨hretrains, s.exhaust_again p, fun h g hg => s.exhaust_down p h hg, fun h hg => ?_⟩
    obtain ⟨hlink, hcause, hempty⟩ := s.exhaust_lost p h hg
    exact ⟨hlink, hcause, hemptied hempty⟩
  · obtain ⟨hleft, hspine, hempty⟩ := State.saturated_lost (s := s) (p := p) (n := n) (rest := rest) o.packet
    generalize ((s.saturated p n rest o.packet).exitUp p).enterLost p .tallySaturated = t at *
    refine ⟨hleft, ?_⟩
    have hempty := hemptied hempty
    dsimp only [emptied] at hempty ⊢
    generalize t.port p = y at hspine hempty ⊢
    have htallied : y.tally = (s.port p).tally + 1 := (congrArg Port.tally hspine : _)
    exact ⟨(congrArg Port.link hspine : _), (congrArg Port.lostCause hspine : _), by rw [htallied, htally],
      (congrArg Port.tx hspine : _), hempty, (congrArg Port.ctr hspine : _)⟩

end Sys2Proof.Machine
